-- ==== Sys2Proof/Word.lean ====
section
/-! DEFINITION. The word types of the part and the shape of every sparse store. -/

namespace Sys2Proof

/-- One byte of scratchpad, stack or host memory; all data is little-endian (R12). -/
abbrev Byte := BitVec 8

/-- A scalar register of the vector core (R120). -/
abbrev Word64 := BitVec 64

/-- A handle: bits [14:0] the object index, bits [22:15] the generation (R221). -/
abbrev Handle := BitVec 23

/-- A submission-ring entry of 64 bytes (R305). -/
abbrev Entry := BitVec 512

/-- A sparse store: keys strictly rising, no entry equal to what an unlisted key reads as. -/
abbrev Sparse (α : Type) := List (Nat × α)

/-- A physical tile site t = 9 x sector + position (R13). -/
abbrev Site := Fin 288

/-- An array of a tile, a = 8 x grid row + grid column. -/
abbrev ArrIx := Fin 64

/-- A sector and its stack (R13). -/
abbrev Sector := Fin 32

/-- A fabric link (R253). -/
abbrev LinkIx := Fin 64

/-- A DMA channel: 8 s + c for channel c of sector engine s, 256 + h for host channel h (R236). -/
abbrev ChanIx := Fin 272

/-- A host port: 0 is port A, 1 is port B (R279). -/
abbrev Port := Fin 2

end Sys2Proof
end

