-- ==== Sys2Proof/Syntax.lean ====
section
/-! DEFINITION. The commands of the part: one constructor per row of the opcode table, with its operands. -/

namespace Sys2Proof

/-- The partners and firmware that make set-up writes (R294, R295 SOURCE). -/
inductive Partner where
  | portA | portB | firmware | mgmt
deriving DecidableEq, Repr

/-- Format S of R124: scalar, control and branches. -/
structure FmtS where
  sd : BitVec 5
  sa : BitVec 5
  sb : BitVec 5
  i : Bool
  imm : BitVec 32
deriving DecidableEq, Repr

/-- Format V of R124: vector and mask operations. -/
structure FmtV where
  vd : BitVec 5
  va : BitVec 5
  vb : BitVec 5
  vc : BitVec 5
  msk : BitVec 3
  mz : Bool
  fmt : BitVec 4
  fmt2 : BitVec 4
  rnd : BitVec 2
  ov : Bool
  bs : Bool
  nma : BitVec 3
  nmb : BitVec 3
deriving DecidableEq, Repr

/-- Format M of R124: vector loads, stores, gathers and scatters. -/
structure FmtM where
  vd : BitVec 5
  sa : BitVec 5
  vb : BitVec 5
  msk : BitVec 3
  mz : Bool
  fmt : BitVec 4
  nma : BitVec 3
  imm : BitVec 24
deriving DecidableEq, Repr

/-- Format X of R124: unit instructions; `imm` is IMM36, its bit 0 being instruction bit 28. -/
structure FmtX where
  sa : BitVec 5
  sb : BitVec 5
  sc : BitVec 5
  sd : BitVec 5
  imm : BitVec 36
deriving DecidableEq, Repr

/-- Format Y of R124: synchronisation. -/
structure FmtY where
  sh : BitVec 5
  sn : BitVec 5
  hi : Bool
  ni : Bool
  q : BitVec 3
  immn : BitVec 16
  immh : BitVec 23
deriving DecidableEq, Repr

/-- A lattice packet: the header fields of Table 7-4 that its operation uses, and its payload:
bytes for WRITE and RDRSP, 32-bit partials for PART packets. -/
structure LatPkt where
  mc : Bool
  sa : Bool
  err : Bool
  dest : BitVec 11
  src : BitVec 11
  addr : BitVec 48
  words : Nat
  owner : BitVec 32
  sigH : Handle
  sigN : BitVec 32
  firstOff : BitVec 6
  lastLen : BitVec 6
  elFirst : BitVec 7
  data : List Byte
  parts : List (BitVec 32)
deriving DecidableEq, Repr

/-- Where a packet leaves the lattice: a tile's LOCAL port, the STACK port of a sector for its stack controller or its DMA engine, or the AGENT port of a node (Tables 7-1 and 7-3). -/
inductive LatDst where
  | tile (t : Site)
  | stack (s : Sector)
  | engine (s : Sector)
  | agent (n : BitVec 11)
deriving DecidableEq, Repr

/-- What the check bits of a packet or message showed on its way (R218): nothing, or an error at the `hop`-th router or stop that received it. -/
inductive NetErr where
  | none
  | corrected (hop : Nat)
  | uncorrectable (hop : Nat)
deriving DecidableEq, Repr

/-- Why a READ was refused (R204; the codes of Table 8-5). -/
inductive RdErr where
  | addr | spOwner | fenced
deriving DecidableEq, Repr

/-- A refused READ's answer: the packet, and why the access was refused (R175, R204). -/
structure RdRefusal where
  p : LatPkt
  why : RdErr
deriving DecidableEq, Repr

/-- A VAL message (R216). -/
structure ValMsg where
  addr : BitVec 21
  data : List Byte
  sa : Bool
  sigH : Handle
  sigN : BitVec 32
  owner : BitVec 32
deriving DecidableEq, Repr

/-- A waiter of a synchronisation object: a tile's queue (4 is the vector core in line) or a control core (R226, R231). -/
inductive WaiterId where
  | tile (t : Site) (q : Fin 5)
  | core (c : Fin 8)
deriving DecidableEq, Repr

/-- What a read of host memory, or a fetch, brings back: its bytes, or a code of Table 8-5 (R246). -/
inductive HostRd where
  | data (bytes : List Byte)
  | fail (code : Nat)
deriving DecidableEq, Repr

/-- What the stack's code finds on an access (R183, R184). -/
inductive Ecc where
  | clean | correctable | uncorrectable
deriving DecidableEq, Repr

/-- One access of the stack controller to one 64-byte word: SOURCE of Table 6-11, path and owner tag (R171, R176); on the sector bus, the tile position of the port, 9 for the sector DMA engine (R177). -/
structure StackAcc where
  addr : BitVec 48
  write : Bool
  data : List Byte
  be : BitVec 64
  source : BitVec 4
  bus : Bool
  owner : BitVec 32
  ecc : Ecc
  sa : Bool
  sigH : Handle
  sigN : BitVec 32
  port : Fin 10 := 9
deriving DecidableEq, Repr

/-- A fabric packet (Table 9-4). -/
structure FabPkt where
  op : BitVec 4
  vc : Fin 4
  sa : Bool
  ackreq : Bool
  cls : Bool
  words : Nat
  space : BitVec 2
  dvtx : BitVec 12
  svtx : BitVec 12
  dpod : BitVec 12
  spod : BitVec 12
  dnode : BitVec 11
  bseq : BitVec 16
  addr : BitVec 48
  owner : BitVec 32
  sigH : Handle
  sigN : BitVec 32
  sliceId : BitVec 16
  bgen : BitVec 8
  tag : BitVec 16
  firstOff : BitVec 6
  lastLen : BitVec 6
  reason : BitVec 4
  data : List Byte
  /-- No field of the header: the direction of the link that brought the packet (R253), 6 for the spine and for a packet of this device's own. -/
  via : Fin 7 := 6
deriving DecidableEq, Repr

/-- A DATA flit as its receiver meets it (Table 9-2), with the packets that end in it and what FEC and CRC showed. -/
structure Flit where
  vc : Fin 4
  fseq : BitVec 12
  ack : BitVec 12
  credVc : Fin 4
  credN : BitVec 8
  crcOk : Bool
  fecCorr : Nat
  fecUncorr : Nat
  pkts : List FabPkt
deriving DecidableEq, Repr

/-- The identity a partner sends in PARTNER (R260); `ok` is false when the stage itself did not complete. -/
structure PartnerId where
  vtx : BitVec 12
  pod : BitVec 12
  link : BitVec 6
  sliceId : BitVec 16
  bgen : BitVec 8
  isSwitch : Bool
  lanes : BitVec 4
  ok : Bool
deriving DecidableEq, Repr

/-- A beacon payload (Table 9-8). -/
structure Beacon where
  time : BitVec 64
  step : BitVec 48
  markN : BitVec 48
  markT : BitVec 64
  sliceId : BitVec 16
  bgen : BitVec 8
  depth : BitVec 7
  locked : Bool
deriving DecidableEq, Repr

/-- A management packet (R263): identity, ADOPT or delay record. -/
inductive MgmtRec where
  | identity (id : PartnerId)
  | adopt (failed : LinkIx)
  | delay (d : BitVec 24)
deriving DecidableEq, Repr

/-- A ring command: port, SQ, its index in the ring, and the entry (R305). -/
structure Cmd where
  port : Port
  sq : Fin 64
  ix : BitVec 12
  e : Entry
deriving DecidableEq, Repr

/-- The five transports of security messages (R465). -/
inductive Transport where
  | mailboxA | mailboxB | doeA | doeB | mctp
deriving DecidableEq, Repr

/-- A security message: transport, VER, TAG and payload; its CODE is the command's row (R465). -/
structure SecMsg where
  via : Transport
  ver : Byte
  tag : BitVec 16
  payload : List Byte
deriving DecidableEq, Repr

/-- ZEROISE arrives as a ring command or as a security message (R469). -/
inductive ZeroVia where
  | ring (c : Cmd)
  | msg (m : SecMsg)
deriving DecidableEq, Repr

/-- What a row brings to its commit point: a failure, or the FP32 logits of its token (R328, R346). -/
inductive RowResult where
  | fault (reason : Nat)
  | nonfinite
  | logits (l : List (BitVec 32))
deriving DecidableEq, Repr

/-- A fault event record (Table 14-1). -/
structure FaultEv where
  kind : BitVec 8
  site : BitVec 9
  array : BitVec 6
  group : BitVec 2
  bitplane : BitVec 3
  wplane : Bool
  detail : BitVec 8
  owner : BitVec 32
  aux : BitVec 32
deriving DecidableEq, Repr

/-- An upset of a triple-modular register at a BAR0 offset: one copy differs, or all three, copy 0 then holding `copy0` (R450). -/
structure RegCopy where
  off : Nat
  allDiffer : Bool
  copy0 : BitVec 32
deriving DecidableEq, Repr

/-- What another device of the slice reports to the ingress device (R319, R358). -/
structure PeerState where
  ready : Bool
  fault : Bool
  sliceId : BitVec 16
  bgen : BitVec 8
  version : BitVec 32
  refValid : Bool
  expValid : Bool
  /-- KV pages of each of its sectors (R182). -/
  pages : List Nat
  /-- The sector of each KV head it owns and the positions that one of its pages holds (R181, R364). -/
  heads : List (Nat × Nat)
deriving DecidableEq, Repr

/-- An access through the debug port: a tile register, a scratchpad byte or a control core (R471). -/
inductive DbgAcc where
  | tileReg (t : Site) (off : BitVec 16) (write : Option (BitVec 32))
  | scratch (t : Site) (addr : BitVec 21) (write : Option Byte)
  | core (c : Fin 8)
deriving DecidableEq, Repr

/-- A field of a port's configuration space that software sets (R281): MSI-X Enable and Function Mask, maximum payload and read request sizes, power state, ASPM. -/
inductive CfgField where
  | msixEnable | msixMask | payload | readReq | power | aspm
deriving DecidableEq, Repr

/-- Where a register write goes (Table 10-1): the set-up registers of BAR0, BAR4 of the writing port, or its configuration space. -/
inductive RegSpace where
  | bar0 | bar4
  | cfg (f : CfgField)
deriving DecidableEq, Repr


/-- The commands of the part: one constructor per row of the opcode table, in its order. An operand that tells of an error met on the way may be left out, as may the space of a register in BAR0. -/
inductive Instr where
  /-- NOP (R137). Vector core instruction that does nothing. -/
  | nop (t : Site) (f : FmtS)
  /-- ADD (R137). Scalar add modulo 2^64 into s[SD]. -/
  | add (t : Site) (f : FmtS)
  /-- SUB (R137). Scalar subtract into s[SD]. -/
  | sub (t : Site) (f : FmtS)
  /-- MUL (R137). Low 64 bits of a scalar product into s[SD]. -/
  | mul (t : Site) (f : FmtS)
  /-- AND (R137). Scalar bitwise and. -/
  | and (t : Site) (f : FmtS)
  /-- OR (R137). Scalar bitwise or. -/
  | or (t : Site) (f : FmtS)
  /-- XOR (R137). Scalar bitwise exclusive or. -/
  | xor (t : Site) (f : FmtS)
  /-- SHL (R137). Scalar left shift by b mod 64. -/
  | shl (t : Site) (f : FmtS)
  /-- SHR (R137). Scalar logical right shift by b mod 64. -/
  | shr (t : Site) (f : FmtS)
  /-- SRA (R137). Scalar arithmetic right shift by b mod 64. -/
  | sra (t : Site) (f : FmtS)
  /-- SLT (R137). Signed set-less-than into s[SD]. -/
  | slt (t : Site) (f : FmtS)
  /-- SLTU (R137). Unsigned set-less-than into s[SD]. -/
  | sltu (t : Site) (f : FmtS)
  /-- MOVI (R137). Load a sign-extended 32-bit immediate into s[SD]. -/
  | movi (t : Site) (f : FmtS)
  /-- MOVHI (R137). Load the immediate into the upper 32 bits of s[SD]. -/
  | movhi (t : Site) (f : FmtS)
  /-- FADD_S (R137). Scalar FP32 add under RNE. -/
  | faddS (t : Site) (f : FmtS)
  /-- FMUL_S (R137). Scalar FP32 multiply under RNE. -/
  | fmulS (t : Site) (f : FmtS)
  /-- LD_S (R137). Load 8 bytes from scratchpad into s[SD]. -/
  | ldS (t : Site) (f : FmtS)
  /-- ST_S (R137). Store s[SB] as 8 bytes to scratchpad. -/
  | stS (t : Site) (f : FmtS)
  /-- BEQ (R135). Branch if s[SA] equals s[SB]. -/
  | beq (t : Site) (f : FmtS)
  /-- BNE (R135). Branch if s[SA] differs from s[SB]. -/
  | bne (t : Site) (f : FmtS)
  /-- BLT (R135). Branch if s[SA] is less than s[SB], signed. -/
  | blt (t : Site) (f : FmtS)
  /-- BGE (R135). Branch if s[SA] is at least s[SB], signed. -/
  | bge (t : Site) (f : FmtS)
  /-- JMP (R135). Branch always. -/
  | jmp (t : Site) (f : FmtS)
  /-- JR (R135). Jump to s[SA], raising ALIGN on a misaligned target. -/
  | jr (t : Site) (f : FmtS)
  /-- HALT (R137). Vector core enters HALT after this instruction. -/
  | halt (t : Site) (f : FmtS)
  /-- BRK (R146). Raise the BREAK exception. -/
  | brk (t : Site) (f : FmtS)
  /-- RDS (R136). Read a special register into s[SD]. -/
  | rds (t : Site) (f : FmtS)
  /-- WRS (R136). Write a special register; writes to read-only ones are discarded. -/
  | wrs (t : Site) (f : FmtS)
  /-- VADD (R126). Element-wise vector add. -/
  | vadd (t : Site) (f : FmtV)
  /-- VSUB (R126). Element-wise vector subtract. -/
  | vsub (t : Site) (f : FmtV)
  /-- VMUL (R126). Element-wise vector multiply. -/
  | vmul (t : Site) (f : FmtV)
  /-- VFMA (R126). Fused multiply-add with one rounding. -/
  | vfma (t : Site) (f : FmtV)
  /-- VFMS (R126). Fused multiply-subtract with one rounding. -/
  | vfms (t : Site) (f : FmtV)
  /-- VMIN (R137). Element-wise minimum, NaN yielding the other operand. -/
  | vmin (t : Site) (f : FmtV)
  /-- VMAX (R137). Element-wise maximum, NaN yielding the other operand. -/
  | vmax (t : Site) (f : FmtV)
  /-- VABS (R126). Element-wise absolute value. -/
  | vabs (t : Site) (f : FmtV)
  /-- VNEG (R126). Element-wise negation. -/
  | vneg (t : Site) (f : FmtV)
  /-- VSEL (R137). Select per element between two vectors by a mask. -/
  | vsel (t : Site) (f : FmtV)
  /-- VMOV (R137). Copy a vector register with its X-tag. -/
  | vmov (t : Site) (f : FmtV)
  /-- VBCST (R137). Broadcast a scalar to every element. -/
  | vbcst (t : Site) (f : FmtV)
  /-- VCMPEQ (R130). Compare equal into a mask register. -/
  | vcmpeq (t : Site) (f : FmtV)
  /-- VCMPNE (R130). Compare not equal into a mask register. -/
  | vcmpne (t : Site) (f : FmtV)
  /-- VCMPLT (R130). Compare less than into a mask register. -/
  | vcmplt (t : Site) (f : FmtV)
  /-- VCMPLE (R130). Compare less or equal into a mask register. -/
  | vcmple (t : Site) (f : FmtV)
  /-- VAND (R126). Bitwise and of vector registers. -/
  | vand (t : Site) (f : FmtV)
  /-- VOR (R126). Bitwise or of vector registers. -/
  | vor (t : Site) (f : FmtV)
  /-- VXOR (R126). Bitwise exclusive or of vector registers. -/
  | vxor (t : Site) (f : FmtV)
  /-- VCVT (R127). Convert a vector between formats, forming block scales for block destinations. -/
  | vcvt (t : Site) (f : FmtV)
  /-- VEXP (R131). Element-wise e^a. -/
  | vexp (t : Site) (f : FmtV)
  /-- VEXP2 (R131). Element-wise 2^a. -/
  | vexp2 (t : Site) (f : FmtV)
  /-- VLOG2 (R131). Element-wise log2. -/
  | vlog2 (t : Site) (f : FmtV)
  /-- VRCP (R131). Element-wise reciprocal. -/
  | vrcp (t : Site) (f : FmtV)
  /-- VRSQRT (R131). Element-wise reciprocal square root. -/
  | vrsqrt (t : Site) (f : FmtV)
  /-- VSQRT (R131). Element-wise square root. -/
  | vsqrt (t : Site) (f : FmtV)
  /-- VTANH (R131). Element-wise hyperbolic tangent. -/
  | vtanh (t : Site) (f : FmtV)
  /-- VSIGM (R131). Element-wise logistic sigmoid. -/
  | vsigm (t : Site) (f : FmtV)
  /-- VGELU (R131). Element-wise GELU approximation. -/
  | vgelu (t : Site) (f : FmtV)
  /-- VSILU (R131). Element-wise SiLU. -/
  | vsilu (t : Site) (f : FmtV)
  /-- VRSUM (R132). Pairwise-tree sum reduction into s[VD]. -/
  | vrsum (t : Site) (f : FmtV)
  /-- VRMAX (R132). Maximum reduction into s[VD]. -/
  | vrmax (t : Site) (f : FmtV)
  /-- VRMIN (R132). Minimum reduction into s[VD]. -/
  | vrmin (t : Site) (f : FmtV)
  /-- VRAMAX (R132). Maximum-magnitude reduction into s[VD]. -/
  | vramax (t : Site) (f : FmtV)
  /-- VRSUMSQ (R132). Sum-of-squares reduction into s[VD]. -/
  | vrsumsq (t : Site) (f : FmtV)
  /-- VLD (R133). Load 128 bytes into a vector register. -/
  | vld (t : Site) (f : FmtM)
  /-- VST (R133). Store a vector register as 128 bytes. -/
  | vst (t : Site) (f : FmtM)
  /-- VLDX (R133). Load the X-tag of a vector register. -/
  | vldx (t : Site) (f : FmtM)
  /-- VSTX (R133). Store the X-tag of a vector register. -/
  | vstx (t : Site) (f : FmtM)
  /-- VGATHER (R134). Gather up to 32 elements by index. -/
  | vgather (t : Site) (f : FmtM)
  /-- VSCATTER (R134). Scatter up to 32 elements by index in ascending lane order. -/
  | vscatter (t : Site) (f : FmtM)
  /-- MAND (R137). And of mask registers. -/
  | mand (t : Site) (f : FmtV)
  /-- MOR (R137). Or of mask registers. -/
  | mor (t : Site) (f : FmtV)
  /-- MXOR (R137). Exclusive or of mask registers. -/
  | mxor (t : Site) (f : FmtV)
  /-- MNOT (R137). Complement of a mask register. -/
  | mnot (t : Site) (f : FmtV)
  /-- MSET (R137). Set 64 bits of a mask register from a scalar. -/
  | mset (t : Site) (f : FmtV)
  /-- MGET (R137). Read 64 bits of a mask register into a scalar. -/
  | mget (t : Site) (f : FmtV)
  /-- RQU_QV (R138). Issue a quantise-vector instruction into the ARR queue. -/
  | rquQv (t : Site) (f : FmtX)
  /-- ARR_MVM (R139). Issue an array operation into the ARR queue. -/
  | arrMvm (t : Site) (f : FmtX)
  /-- EBA_OPEN (R140). Issue an accumulation open into the ARR queue. -/
  | ebaOpen (t : Site) (f : FmtX)
  /-- TU_MMA (R141). Issue a tensor-unit product into the TU queue. -/
  | tuMma (t : Site) (f : FmtX)
  /-- SIGNAL (R142). Issue a SIGNAL to a synchronisation object, in a queue or in line. -/
  | signal (t : Site) (f : FmtY)
  /-- WAIT (R142). Issue a WAIT on a synchronisation object, in a queue or in line. -/
  | wait (t : Site) (f : FmtY)
  /-- ACQUIRE (R142). Issue an ACQUIRE on a synchronisation object, in a queue or in line. -/
  | acquire (t : Site) (f : FmtY)
  /-- RESET (R142). Issue a RESET of a synchronisation object, in a queue or in line. -/
  | reset (t : Site) (f : FmtY)
  /-- SP_OWN (R142). Issue a bank ownership change, in a queue or in line. -/
  | spOwn (t : Site) (f : FmtY)
  /-- DMA_KICK (R143). Issue a chain start for a channel of the tile's sector DMA engine. -/
  | dmaKick (t : Site) (f : FmtX)
  /-- ILLEGAL_OPCODE (R123). A fetched instruction whose opcode is not listed raises ILLEGAL. -/
  | illegalOpcode (t : Site) (w : BitVec 64)
  /-- ISSUE_STALL_RESUME (R89). A stalled vector core resumes issue when its full queue gains an entry. -/
  | issueStallResume (t : Site)
  /-- QUEUE_ENTRY_EXECUTE (R90). A synchronisation or SP.OWN entry at the head of its queue executes once earlier entries are complete. -/
  | queueEntryExecute (t : Site) (q : Fin 4)
  /-- QSTALL (R92). A WAIT or ACQUIRE has held a queue head beyond QSTALL_LIM; a fault event is sent. -/
  | qstall (t : Site) (q : Fin 4)
  /-- VC_RUN_SET (R112). Write of TILE_CTL.VC_RUN = 1 starts the vector core at VC_PC. -/
  | vcRunSet (src : Partner) (t : Site)
  /-- VC_RUN_CLEAR (R112). Write of TILE_CTL.VC_RUN = 0 halts the vector core. -/
  | vcRunClear (src : Partner) (t : Site)
  /-- Q_FLUSH (R113). Write of TILE_CTL.Q_FLUSH discards queued entries while the vector core is stopped. -/
  | qFlush (src : Partner) (t : Site)
  /-- SPOWN_WRITE (R99). Register write to TILE[t].SPOWN requests bank ownership changes. -/
  | spownWrite (src : Partner) (t : Site) (v : BitVec 32)
  /-- OWNERSHIP_CHANGE_EFFECT (R99). A bank ownership change takes effect once the old owner's accesses have finished. -/
  | ownershipChangeEffect (t : Site) (b : Fin 8)
  /-- SPRET_WRITE (R102). Write of TILE[t].SPRET requests bank retention or starts a wake. -/
  | spretWrite (src : Partner) (t : Site) (v : BitVec 32)
  /-- BANK_RETENTION_ENTRY (R102). A bank enters retention once it has no access in progress. -/
  | bankRetentionEntry (t : Site) (b : Fin 8)
  /-- BANK_WAKE_COMPLETE (R102). A bank wake finishes after 400 ns and stalled accesses proceed. -/
  | bankWakeComplete (t : Site) (b : Fin 8)
  /-- BANK_IDLE_RETENTION (R103). A bank woken by access returns to retention after 1,024 idle cycles. -/
  | bankIdleRetention (t : Site) (b : Fin 8)
  /-- ARRAY_OPERATION_LOAD (R30). The array sequencer accepts an array operation at LOAD and counts its first bit plane. -/
  | arrayOperationLoad (t : Site)
  /-- CONVERSION (R29). A 9-cycle conversion of one row group ends and its codes are checked and added. -/
  | conversion (t : Site) (a : ArrIx)
  /-- ARRAY_OPERATION_DRAIN (R37). Final narrow add and promotion make the wide accumulator valid and move it to the edge buffer. -/
  | arrayOperationDrain (t : Site) (a : ArrIx)
  /-- PROG_SLOT (R20). A 32-cycle programming slot applies one pulse or verify to one row of a column group. -/
  | progSlot (t : Site) (a : ArrIx) (k : Fin 4)
  /-- REFERENCE_ROW_TEST (R44). The fault engine issues a reference-row test in the TEST state. -/
  | referenceRowTest (t : Site) (a : ArrIx) (plane : Bool) (codes : List Int)
  /-- RQU_START (R138). The RQU starts an RQU.QV, checking its STEP state base. -/
  | rquStart (t : Site)
  /-- RQU_BLOCK (R59). The RQU rotates, scales, quantises and writes one 128-element block. -/
  | rquBlock (t : Site)
  /-- RQU_QV_COMPLETE (R138). The last write of an RQU.QV is visible and it releases the ARR queue head. -/
  | rquQvComplete (t : Site)
  /-- EBA_OPEN_COMPLETE (R140). The opened output blocks become OPEN and the ARR queue head is released. -/
  | ebaOpenComplete (t : Site)
  /-- EBA_PARTIAL (R78). The EBA takes a unit of partials from a source and adds them to S. -/
  | ebaPartial (t : Site) (source : Fin 66)
  /-- EDGE_WRITEBACK (R88). The edge writeback writes a closed block's words and applies the completion signal. -/
  | edgeWriteback (t : Site)
  /-- TU_MMA_START (R107). The tensor unit starts a TU.MMA from the head of the TU queue. -/
  | tuMmaStart (t : Site)
  /-- TU_MMA_COMPLETE (R109). A TU.MMA writes its last result word or EBA partial. -/
  | tuMmaComplete (t : Site)
  /-- LATTICE_WRITE (R203). A lattice WRITE packet arrives and is written at its destination. -/
  | latticeWrite (dst : LatDst) (p : LatPkt) (ecc : Ecc) (err : NetErr := .none)
  /-- LATTICE_READ (R203). A lattice READ arrives and is served or answered RDERR. -/
  | latticeRead (dst : LatDst) (p : LatPkt) (ecc : Ecc := .clean) (err : NetErr := .none)
  /-- LATTICE_RDRSP (R199). A read response arrives at its requester. -/
  | latticeRdrsp (c : ChanIx) (p : LatPkt) (err : NetErr := .none)
  /-- LATTICE_RDERR (R204). A refused-read response arrives at its requester. -/
  | latticeRderr (c : ChanIx) (r : RdRefusal) (err : NetErr := .none)
  /-- PART_W (R152). A forwarded array-partial packet arrives at its home tile's EBA. -/
  | partW (t : Site) (p : LatPkt) (err : NetErr := .none)
  /-- PART_F (R152). A forwarded FP32-partial packet arrives at its home tile's EBA. -/
  | partF (t : Site) (p : LatPkt) (err : NetErr := .none)
  /-- MODE_REQ_WRITE (R209). Write of LAT_CTL.MODE_REQ starts a lattice mode switch by holding injections. -/
  | modeReqWrite (src : Partner) (v : BitVec 32)
  /-- LATTICE_MODE_SWITCH (R209). The empty lattice switches mode at a frame boundary and releases injections. -/
  | latticeModeSwitch
  /-- QUIESCE_TO (R209). The lattice did not empty within QUIESCE_LIM; the switch is abandoned. -/
  | quiesceTo
  /-- VAL (R216). A VAL message writes up to 16 bytes and applies its attached signal. -/
  | val (t : Site) (m : ValMsg) (err : NetErr)
  /-- OBJ_CMD_ALLOCATE (R224). SYNC.OBJ_CMD allocates an object in COUNTER or BARRIER mode. -/
  | objCmdAllocate (src : Partner) (v : BitVec 64)
  /-- OBJ_CMD_FREE (R224). SYNC.OBJ_CMD frees an object, discarding its waiters. -/
  | objCmdFree (src : Partner) (v : BitVec 64)
  /-- STOP_SIGNAL (R227). A SIGNAL reaches its synchronisation stop, adds to the counter and scans the queue. -/
  | stopSignal (h : Handle) (n : BitVec 32) (full : Bool) (err : NetErr := .none)
  /-- STOP_WAIT (R227). A WAIT reaches its stop and is released or queued. -/
  | stopWait (h : Handle) (n : BitVec 32) (w : WaiterId) (full : Bool) (err : NetErr := .none)
  /-- STOP_ACQUIRE (R227). An ACQUIRE reaches its stop and is released or queued. -/
  | stopAcquire (h : Handle) (n : BitVec 32) (w : WaiterId) (full : Bool) (err : NetErr := .none)
  /-- STOP_RESET (R226). A RESET reaches its stop and resets the counter or target. -/
  | stopReset (h : Handle) (n : BitVec 32) (full : Bool) (err : NetErr := .none)
  /-- RELEASE (R234). A RELEASE reaches a waiter and completes its queue entry. -/
  | release (w : WaiterId) (err : NetErr := .none)
  /-- REFUSE (R230). A REFUSE reaches a waiter whose object queue is full. -/
  | refuse (w : WaiterId) (err : NetErr := .none)
  /-- REFUSE_RETRY (R230). The refused operation is sent again 64 tangent cycles later. -/
  | refuseRetry (t : Site) (q : Fin 5)
  /-- HOST_SIG_SIGNAL (R231). Host write of SYNC.HOST_SIG applies a SIGNAL. -/
  | hostSigSignal (src : Partner) (v : BitVec 64)
  /-- HOST_SIG_RESET (R231). Host write of SYNC.HOST_SIG applies a RESET. -/
  | hostSigReset (src : Partner) (v : BitVec 64)
  /-- TILE_PARK (R233). A tile parked for THR_US enters P1 and lends its allowance. -/
  | tilePark (t : Site)
  /-- RECLAIM_COMPLETE (R234). A parked tile finishes reclaiming its allowance and returns to P0. -/
  | reclaimComplete (t : Site)
  /-- KICK (R237). Write of a chain pointer to a channel's KICK register. -/
  | kick (src : Partner) (c : ChanIx) (ptr : BitVec 64)
  /-- CHAIN_ACCEPT (R237). A channel with room accepts a waiting DMA.KICK's chain head. -/
  | chainAccept (t : Site)
  /-- DESCRIPTOR_FETCH (R239). A channel's descriptor fetch completes and the descriptor is checked. -/
  | descriptorFetch (c : ChanIx) (host : HostRd) (ecc : Ecc := .clean)
  /-- DMA_PACKET (R244). An engine moves one packet, VAL message or sector-bus unit of a descriptor. -/
  | dmaPacket (c : ChanIx) (host : HostRd) (ecc : Ecc := .clean)
  /-- RESUME (R246). Channel CTL.RESUME leaves ERROR and starts the next pending chain. -/
  | resume (src : Partner) (c : ChanIx)
  /-- FLUSH (R251). Channel CTL.FLUSH discards pending chains not yet started. -/
  | flush (src : Partner) (c : ChanIx)
  /-- ABORT (R251). Channel CTL.ABORT stops the running descriptor at its next packet boundary. -/
  | abort (src : Partner) (c : ChanIx)
  /-- RSP_TIMEOUT (R248). No READ response or WACK within RSP_LIM; the descriptor fails with TIMEOUT. -/
  | rspTimeout (c : ChanIx)
  /-- STACK_ACCESS (R176). The stack controller performs a read or write access. -/
  | stackAccess (x : StackAcc)
  /-- PATROL_SCRUB (R186). The patrol scrubber reads a word on its schedule. -/
  | patrolScrub (s : Sector) (off : BitVec 33) (ecc : Ecc)
  /-- STACK_TEMP_READ (R188). The controller reads the stack temperature every 100 us and sets the refresh rate. -/
  | stackTempRead (s : Sector) (temp : Option Int)
  /-- BANK_REFRESH (R189). A per-bank refresh command is issued on its interval. -/
  | bankRefresh (s : Sector) (pc : Fin 16) (bank : Fin 16)
  /-- STACK_TRAINING_COMPLETE (R192). Stack training ends with PASS, REPAIRED or FAIL per pseudo-channel. -/
  | stackTrainingComplete (s : Sector) (lanes : List Nat)
  /-- STACK_INITIALISATION_COMPLETE (R183). Zero initialisation of every stack word ends and the stack becomes READY. -/
  | stackInitialisationComplete (s : Sector)
  /-- DATA_FLIT (R257). A DATA flit is received, checked and its packets released in order. -/
  | dataFlit (l : LinkIx) (f : Flit)
  /-- NAK (R257). A NAK flit arrives and the transmitter replays from ACK + 1. -/
  | nak (l : LinkIx) (ack : BitVec 12) (credVc : Fin 4) (credN : BitVec 8)
  /-- LANE_SIGNAL_LOSS (R258). A lane has lost signal for 1 us; the link fails. -/
  | laneSignalLoss (l : LinkIx) (lane : Fin 4)
  /-- LINK_TRAINING_STAGE (R259). A link training state completes and the link moves to the next state. -/
  | linkTrainingStage (l : LinkIx) (id : PartnerId)
  /-- LINK_TRAINING_LIMIT (R259). A link not ACTIVE 20 ms after training began becomes FAILED. -/
  | linkTrainingLimit (l : LinkIx)
  /-- MISWIRED_RETRY (R259). Training of a MISWIRED link is repeated every 100 ms. -/
  | miswiredRetry (l : LinkIx)
  /-- MISWIRED_LIMIT (R259). A link MISWIRED for 1 s becomes FAILED. -/
  | miswiredLimit (l : LinkIx)
  /-- FABRIC_WRITE (R265). A fabric WRITE is checked, released in bundle order and sent across the lattice. -/
  | fabricWrite (spine : Bool) (p : FabPkt)
  /-- FABRIC_READ (R268). A fabric READ is served from REF or refused. -/
  | fabricRead (spine : Bool) (p : FabPkt)
  /-- FABRIC_SIG (R269). A fabric SIG packet is applied as SIGNAL or RESET. -/
  | fabricSig (spine : Bool) (p : FabPkt)
  /-- WACK (R267). A WACK frees the pending slot of a remote descriptor. -/
  | wack (p : FabPkt)
  /-- WNAK (R267). A WNAK puts the channel in ERROR with code LINK. -/
  | wnak (p : FabPkt)
  /-- FABRIC_RDRSP (R268). A fabric read response delivers shard data to the weight store. -/
  | fabricRdrsp (p : FabPkt)
  /-- FABRIC_RDERR (R268). A fabric read refusal reaches the weight store. -/
  | fabricRderr (p : FabPkt)
  /-- BEACON (R274). A beacon from the parent adjusts the time counter and carries step marks. -/
  | beacon (l : LinkIx) (b : Beacon)
  /-- MGMT (R261). A management packet (identity, ADOPT or delay record) arrives. -/
  | mgmt (l : LinkIx) (r : MgmtRec)
  /-- BEACON_TRANSMIT (R273). Every 512 ticks each ACTIVE torus link sends a beacon. -/
  | beaconTransmit (l : LinkIx)
  /-- DELAY_MEASUREMENT (R272). Each ACTIVE torus link measures its one-way delay once per second. -/
  | delayMeasurement (l : LinkIx) (t1 : Nat) (t2 : Nat) (t3 : Nat) (t4 : Nat)
  /-- HOLDOVER (R275). No parent beacon for 16 intervals; the device enters HOLDOVER. -/
  | holdover
  /-- STEP_MARK (R276). Write of TOP.STEP_MARK on the slice root issues a step mark. -/
  | stepMark (src : Partner) (v : BitVec 128)
  /-- STEP_MARK_APPLY (R276). The time counter reaches a pending mark's T and the step counter becomes n. -/
  | stepMarkApply
  /-- FAB_CFG_SAVE (R277). Setting FAB_CFG.SAVE stores the register in the configuration area. -/
  | fabCfgSave (src : Partner) (v : BitVec 64)
  /-- SUPPLY_RAMP (R488). VDD_AON comes into range and the supply sequence begins. -/
  | supplyRamp
  /-- PWR_REQ_RELEASE (R488). After 1 ms of VDD_AON in range the part releases PWR_REQ. -/
  | pwrReqRelease
  /-- RAILS_PG_ASSERT (R488). The board asserts RAILS_PG. -/
  | railsPgAssert
  /-- RAILS_PG_TIMEOUT (R488). RAILS_PG not asserted within 50 ms; step 1 fails. -/
  | railsPgTimeout
  /-- POWER_ON_RESET_RELEASE (R488). 1 ms after RAILS_PG, straps are sampled and start-up step 2 begins. -/
  | powerOnResetRelease (hostBif : Bool) (mgmtAddr : BitVec 2)
  /-- RAILS_PG_DEASSERT (R489). RAILS_PG deasserts and the part behaves as on a trip. -/
  | railsPgDeassert
  /-- SYS_RST_N (R287). SYS_RST_N held low causes a device reset. -/
  | sysRstN
  /-- RST_CTL (R288). Write of 0xA5C3 to TOP.RST_CTL causes a device reset. -/
  | rstCtl (src : Partner) (v : BitVec 32)
  /-- ROOT_PLL_LOCK (R401). The root PLL locks and the clocks switch; step 5 completes. -/
  | rootPllLock
  /-- STARTUP_STEP_TIMEOUT (R400). A start-up step exceeds its limit and the part enters FAULT. -/
  | startupStepTimeout
  /-- TILE_SELF_TEST_COMPLETE (R400). Sector wake and tile self-test of step 8 complete. -/
  | tileSelfTestComplete (failed : List Site)
  /-- READY (R402). Step 9 completes and the part enters READY or FAULT. -/
  | ready
  /-- CLK_FAIL (R396). REFCLK loss or PLL unlock stops tile clocks and enters FAULT. -/
  | clkFail
  /-- LASER_EN_N (R498). A change of LASER_EN_N darkens or enables every laser. -/
  | laserEnN (high : Bool)
  /-- PORT_RESET (R289). PERST_N, hot reset, link down or FLR resets one host port. -/
  | portReset (p : Port)
  /-- PORT_LINK_UP (R280). A host port finishes link training at its rate and width. -/
  | portLinkUp (p : Port) (rate : Fin 5) (width : Nat) (flit : Bool)
  /-- REGISTER_WRITE (R290). A write to a register with no row of its own is checked, clamped or discarded and applied. -/
  | registerWrite (src : Partner) (off : Nat) (size : Nat) (v : Nat) (sp : RegSpace := .bar0)
  /-- SETUP_LOCK (R294). Write of TOP.SETUP_LOCK takes or releases the set-up lock. -/
  | setupLock (src : Partner) (v : BitVec 32)
  /-- AQ_CTL_ENABLE (R291). AQ_CTL.EN = 1 commits the admin ring settings and starts the admin pair. -/
  | aqCtlEnable (src : Partner) (p : Port)
  /-- AQ_CTL_DISABLE (R291). AQ_CTL.EN = 0 stops the admin pair and deletes the port's rings. -/
  | aqCtlDisable (src : Partner) (p : Port)
  /-- SQ_TAIL_DOORBELL (R301). Host writes an SQ tail doorbell. -/
  | sqTailDoorbell (p : Port) (q : Nat) (v : BitVec 32)
  /-- CQ_HEAD_DOORBELL (R299). Host writes a CQ head doorbell, freeing room for held completions. -/
  | cqHeadDoorbell (p : Port) (q : Nat) (v : BitVec 32)
  /-- TQ_HEAD_DOORBELL (R299). Host writes a TQ head doorbell, freeing room for held tokens. -/
  | tqHeadDoorbell (p : Port) (q : Nat) (v : BitVec 32)
  /-- SQ_FETCH (R297). A fetch of up to 8 SQ entries completes and the commands start. -/
  | sqFetch (p : Port) (q : Nat) (ok : Bool) (entries : List Entry)
  /-- MSIX_COALESCE_TIMEOUT (R304). U us after the first uncovered entry, the ring's MSI-X message is sent. -/
  | msixCoalesceTimeout (p : Port) (tq : Bool) (id : Nat)
  /-- CREATE_RING (R309). Command creating an SQ, CQ or TQ. -/
  | createRing (c : Cmd)
  /-- DELETE_RING (R310). Command deleting a ring. -/
  | deleteRing (c : Cmd)
  /-- SLICE_BIND (R311). Command binding or unbinding the device to a slice. -/
  | sliceBind (c : Cmd)
  /-- MEM_LAYOUT (R312). Command setting stack region sizes. -/
  | memLayout (c : Cmd)
  /-- HOST_DMA (R313). Command starting a host channel chain. -/
  | hostDma (c : Cmd)
  /-- POWER_STATE (R314). Command changing device power state and profile. -/
  | powerState (c : Cmd)
  /-- ZEROISE (R469). Ring command or security message erasing the selected scopes. -/
  | zeroise (via : ZeroVia)
  /-- SUBMIT (R334). Command submitting a request; its context fetch is placed on the fetch channel. -/
  | submit (c : Cmd)
  /-- ADMISSION (R335). The context fetch completes and admission checks decide the request's outcome. -/
  | admission (p : Port) (host : HostRd)
  /-- CANCEL (R329). Command cancelling a request. -/
  | cancel (c : Cmd)
  /-- PREFIX_CREATE (R339). Command creating a prefix handle by prefill. -/
  | prefixCreate (c : Cmd)
  /-- PREFIX_RELEASE (R341). Command releasing a prefix handle. -/
  | prefixRelease (c : Cmd)
  /-- TENANT_SET (R350). Command setting a tenant's budget and limits. -/
  | tenantSet (c : Cmd)
  /-- GRAMMAR_LOAD (R344). Command loading a grammar automaton or allowed list. -/
  | grammarLoad (c : Cmd) (host : HostRd)
  /-- UNLOAD (R344). GRAMMAR_LOAD with KIND UNLOAD frees a grammar image. -/
  | unload (c : Cmd)
  /-- LAUNCH (R325). A micro-batch slot arrives and rows are filled and launched around the orbit. -/
  | launch (m : Fin 64)
  /-- ROW_RETURN (R321). An orbit row returns to the ingress device; stale rows are dropped. -/
  | rowReturn (req : BitVec 32)
  /-- COMMIT_POINT (R328). Token selection for a micro-batch's last row is formed and every row is settled. -/
  | commitPoint (m : Fin 64) (rows : List RowResult)
  /-- ORBIT_TO (R327). ORBIT_LIM passes after launch; the micro-batch is abandoned and ENDING entries released. -/
  | orbitTo (m : Fin 64)
  /-- SHARD_LOAD (R368). Command staging a new version from a signed manifest. -/
  | shardLoad (c : Cmd) (man : List Byte)
  /-- RESTORE (R372). SHARD_LOAD with MODE RESTORE rebuilds REF, EXP and lost targets. -/
  | restore (c : Cmd) (man : List Byte)
  /-- KEY_IMPORT (R365). Command unwrapping a model key into a key slot. -/
  | keyImport (c : Cmd) (blob : List Byte)
  /-- CHUNK_ARRIVAL (R370). A fetched shard chunk arrives, is stored in REF and decrypted, or refetched. -/
  | chunkArrival (i : Nat) (res : HostRd)
  /-- HOLDUP_CHECK (R377). The hold-up energy check passes, waits 1 ms or refuses after WAIT_MS. -/
  | holdupCheck
  /-- PROGRAMMING_BATCH_COMPLETE (R373). A batch of planes is programmed and its codes and wear are recorded. -/
  | programmingBatchComplete
  /-- STAGED_REPORT (R371). A device's staged or failed report reaches the ingress device. -/
  | stagedReport (k : Nat) (reason : Option Nat)
  /-- LOAD_DEADLINE (R371). DEADLINE_MS passes without every report; the load fails slice-wide. -/
  | loadDeadline
  /-- VERSION_SWITCH (R378). Command scheduling a version switch at step S. -/
  | versionSwitch (c : Cmd)
  /-- SWITCH_RECORD_ACK (R378). A device acknowledges its switch record to the ingress device. -/
  | switchRecordAck (k : Nat) (refused : Option Nat)
  /-- SWITCH_ACK_TIMEOUT (R378). Not every device acknowledged within 10 ms; the switch fails. -/
  | switchAckTimeout
  /-- ABANDON (R381). VERSION_SWITCH with ACTION ABANDON frees a STAGING or STAGED slot. -/
  | abandon (c : Cmd)
  /-- DRAIN_END (R380). Command rebuilding every request bound to the DRAINING slot. -/
  | drainEnd (c : Cmd)
  /-- DRAIN_TIMEOUT (R380). DRAIN_S seconds after S, remaining draining requests are rebuilt. -/
  | drainTimeout
  /-- REFRESH_AGE (R383). AGE_DAYS after programming, a tile is queued for refresh. -/
  | refreshAge (l : Fin 256)
  /-- REFRESH_REQ (R383). Write of WSTORE.REFRESH_REQ GO queues a tile for refresh. -/
  | refreshReq (src : Partner) (v : BitVec 32)
  /-- REFRESH_START (R384). A queued tile's refresh starts once its conditions hold. -/
  | refreshStart
  /-- REFRESH_COMPLETE (R384). The refreshed planes are done; PSWAP flips and the old plane becomes EMPTY. -/
  | refreshComplete (l : Fin 256)
  /-- SPARE_PROGRAMMED (R385). The weight store finishes programming an adopted spare's planes. -/
  | spareProgrammed (l : Fin 256)
  /-- SPARE_TIME (R385). The spare is not ready within LIM_MS of the fence; the device enters FAULT. -/
  | spareTime (l : Fin 256)
  /-- RAIL_TELEMETRY (R391). Every 1 ms the part reads rail voltages and currents. -/
  | railTelemetry (mw : List Nat)
  /-- VDD_CORE_TARGET_UPDATE (R392). Every 1 ms firmware sets the VDD_CORE target from path monitors. -/
  | vddCoreTargetUpdate (mv : List Nat)
  /-- PROFILE_CHANGE_COMPLETE (R393). Voltages, bias and assist of a new profile are in place. -/
  | profileChangeComplete
  /-- DROOP (R394). A sector's droop detector fires and its clock omits edges. -/
  | droop (s : Sector)
  /-- DROOP_END (R394). 1 us after the last firing, the sector's clock returns to full rate. -/
  | droopEnd (s : Sector)
  /-- TILE_P2_ENTRY (R398). Firmware places an idle tile in P2. -/
  | tileP2Entry (t : Site)
  /-- SECTOR_WAKE (R399). A sector leaves P2 at its 2 us spacing during a device wake. -/
  | sectorWake (s : Sector)
  /-- BUDGET_PERIOD (R403). Every 10 us the budget manager recomputes pool, base and lending. -/
  | budgetPeriod (want : List Site)
  /-- SLOW_ROUND (R409). A housekeeping round measures every channel and updates calibration weights. -/
  | slowRound (vals : List Int) (histMv : List Nat)
  /-- WARN_CLEAR (R415). Every sensor stayed below threshold for 100 ms; the warning clears. -/
  | warnClear
  /-- STOP_LIM (R416). STOP_LIM expires and remaining requests end FAULT THERMAL. -/
  | stopLim
  /-- LOAD_CLASS_CHECK (R422). Every 100 ms the load class is compared with each sector's calibration point. -/
  | loadClassCheck
  /-- DROOP_CTL_WRITE (R411). Write of HK.DROOP_CTL arms or forces a droop capture. -/
  | droopCtlWrite (src : Partner) (v : BitVec 32)
  /-- DROOP_CAPTURE_END (R411). A capture finishes and ARM clears. -/
  | droopCaptureEnd (samples : List Int)
  /-- CAL_CTL_GO (R423). Write of PWR.CAL_CTL GO starts a calibration run. -/
  | calCtlGo (src : Partner) (v : BitVec 64)
  /-- CALIBRATION_RUN_COMPLETE (R423). A calibration run ends with its result code and writes sets on success. -/
  | calibrationRunComplete
  /-- PROG_EN_IDLE (R490). No batch follows within 1 ms; PROG_EN goes low. -/
  | progEnIdle
  /-- FAULT_EVENT (R429). The fault engine logs an event and decides its action. -/
  | faultEvent (e : FaultEv) (err : NetErr := .none) (full : Bool := false)
  /-- SCRATCHPAD_COPY_COMPLETE (R443). The 2 MiB scratchpad copy to the spare site finishes. -/
  | scratchpadCopyComplete (s : Sector)
  /-- COLUMN_REPAIR_COMPLETE (R437). The spare column is programmed in every plane and its entry set valid. -/
  | columnRepairComplete (t : Site) (a : ArrIx) (col : Fin 8)
  /-- EBA_STALL (R446). An OPEN block held past EBA_LIM raises EBA_STALL. -/
  | ebaStall (t : Site) (b : Fin 32)
  /-- KNOWN_SUM_TEST (R434). An array's 2^KS_LOG count is reached and a known-sum test is queued ahead. -/
  | knownSumTest (t : Site) (a : ArrIx)
  /-- KNOWN_SUM_TEST_RESULT (R436). A known-sum test completes and is judged, repeated or confirmed. -/
  | knownSumTestResult (t : Site) (a : ArrIx)
  /-- FLEET_TEST (R441). FLEET_PERIOD expires and the stored package's tests run. -/
  | fleetTest
  /-- FLEET_PACKAGE (R440). Command storing a signed fleet test package. -/
  | fleetPackage (c : Cmd) (pkg : List Byte)
  /-- TMR_UPSET (R450). A triple-modular register copy differs and is corrected or raises an event. -/
  | tmrUpset (r : RegCopy)
  /-- PARITY_SCRUB (R451). The register scrubber reads a register and checks parity. -/
  | parityScrub (off : Nat) (bad : Bool)
  /-- POWERED_S_STORE (R432). Once per powered hour POWERED_S is stored in the configuration area. -/
  | poweredSStore
  /-- GET_INFO (R465). Security message returning identity and version state. -/
  | getInfo (m : SecMsg)
  /-- GET_CERT (R462). Security message returning certificate bytes. -/
  | getCert (m : SecMsg)
  /-- GET_REPORT (R467). Security message returning a signed attestation report. -/
  | getReport (m : SecMsg)
  /-- ENROL_KEY (R463). Security message changing a model-signing key slot. -/
  | enrolKey (m : SecMsg)
  /-- DEBUG_CHALLENGE (R471). Security message returning a fresh debug challenge. -/
  | debugChallenge (m : SecMsg)
  /-- DEBUG_UNLOCK (R471). Security message unlocking the debug port after zeroisation. -/
  | debugUnlock (m : SecMsg)
  /-- GET_RANDOM (R468). Security message returning DRBG bytes. -/
  | getRandom (m : SecMsg)
  /-- DEVICE_RESET (R465). MCTP security message causing a device reset after the response. -/
  | deviceReset (m : SecMsg)
  /-- DOE_ABORT (R466). A DOE abort discards the pending request on that mailbox. -/
  | doeAbort (p : Port)
  /-- HEALTH_TEST_FAILURE (R468). An entropy health test fails and the DRBG stops. -/
  | healthTestFailure
  /-- SETDASA (R472). I3C bus owner assigns a dynamic address from the static address. -/
  | setdasa (stat : BitVec 7) (dyn : BitVec 7)
  /-- ENTDAA (R472). I3C dynamic address assignment procedure. -/
  | entdaa (dyn : BitVec 7)
  /-- SET_ENDPOINT_ID (R472). MCTP control command assigning the endpoint ID. -/
  | setEndpointId (eid : BitVec 8)
  /-- GET_SENSOR_READING (R473). PLDM command returning a sensor's latest value. -/
  | getSensorReading (id : BitVec 16)
  /-- SET_EVENT_RECEIVER (R474). PLDM command naming the event receiver. -/
  | setEventReceiver (eid : BitVec 8)
  /-- PLATFORM_EVENT_MESSAGE_ACK (R474). The receiver acknowledges an event and held events are sent. -/
  | platformEventMessageAck
  /-- EFFECTER_WRITE (R473). PLDM effecter write of budget or profile, as a set-up write from MGMT. -/
  | effecterWrite (id : BitVec 16) (v : BitVec 32)
  /-- REQUEST_UPDATE (R475). PLDM command starting a firmware update. -/
  | requestUpdate (comp : BitVec 16) (len : Nat)
  /-- REQUEST_FIRMWARE_DATA (R475). A requested 4,096-byte transfer of update data arrives and is written. -/
  | requestFirmwareData (data : List Byte)
  /-- ACTIVATE_FIRMWARE (R475). PLDM command setting PREF to the new image for the next reset. -/
  | activateFirmware
  /-- ASEQ_CNT_CLR (R49). Clears the array sequencer counters and ARRERR. -/
  | aseqCntClr (src : Partner) (t : Site) (v : BitVec 32)
  /-- RQU_CNT_CLR (R84). Clears the numerics counters. -/
  | rquCntClr (src : Partner) (t : Site) (v : BitVec 32)
  /-- TILE_CNT_CLR (R119). Clears the tile counters. -/
  | tileCntClr (src : Partner) (t : Site) (v : BitVec 32)
  /-- MC_CNT_CLR (R195). Clears the memory counters of a stack. -/
  | mcCntClr (src : Partner) (s : Sector) (v : BitVec 32)
  /-- NET_CNT_CLR (R220). Clears the network counters. -/
  | netCntClr (src : Partner) (v : BitVec 32)
  /-- SYNC_CNT_CLR (R250). Clears the synchronisation counters. -/
  | syncCntClr (src : Partner) (v : BitVec 32)
  /-- DMA_CNT_CLR (R252). Clears the DMA counters and channel BYTES. -/
  | dmaCntClr (src : Partner) (v : BitVec 32)
  /-- LNK_CNT_CLR (R278). Clears a link's counters. -/
  | lnkCntClr (src : Partner) (l : LinkIx) (v : BitVec 32)
  /-- FAB_CNT_CLR (R278). Clears the TOP fabric counters. -/
  | fabCntClr (src : Partner) (v : BitVec 32)
  /-- HQ_CNT_CLR (R318). Clears a port's host counters. -/
  | hqCntClr (src : Partner) (p : Port) (v : BitVec 32)
  /-- SERVE_CNT_CLR (R353). Clears the serving counters. -/
  | serveCntClr (src : Partner) (v : BitVec 32)
  /-- WSTORE_CNT_CLR (R389). Clears the weight-store counters. -/
  | wstoreCntClr (src : Partner) (v : BitVec 32)
  /-- PWR_CNT_CLR (R425). Clears the power counters. -/
  | pwrCntClr (src : Partner) (v : BitVec 32)
  /-- HK_CNT_CLR (R425). Clears the housekeeping counters. -/
  | hkCntClr (src : Partner) (v : BitVec 32)
  /-- FLT_CNT_CLR (R455). Clears the fault engine counters. -/
  | fltCntClr (src : Partner) (v : BitVec 32)
  /-- SECU_CNT_CLR (R478). Clears the security counters. -/
  | secuCntClr (src : Partner) (v : BitVec 32)
  /-- MGMT_CNT_CLR (R478). Clears the management counters. -/
  | mgmtCntClr (src : Partner) (v : BitVec 32)
  /-- SPEVT_SP_OWNER_CLEAR (R95). Clearing SPEVT.SP_OWNER re-arms SPERR capture. -/
  | spevtSpOwnerClear (src : Partner) (t : Site) (v : BitVec 32)
  /-- MC_EVT_UE_CLEAR (R194). Clearing MC_EVT.UE re-arms UE_ADDR and UE_TAG capture. -/
  | mcEvtUeClear (src : Partner) (s : Sector) (v : BitVec 32)
  /-- PSEUDO_CHANNEL_TRAINING_LOSS (R187). A pseudo-channel loses training in service and fails, putting the device in FAULT. -/
  | pseudoChannelTrainingLoss (s : Sector) (pc : Fin 16)
  /-- IDLE_FLIT (R257). An IDLE flit is received, returning credits and advancing ACK so that the transmitter's replay store frees. -/
  | idleFlit (l : LinkIx) (ack : BitVec 12) (credVc : Fin 4) (credN : BitVec 8)
  /-- TILE_P2_EXIT (R397). Enara firmware brings a single tile out of P2, which takes 2 us. -/
  | tileP2Exit (t : Site)
  /-- PEER_STATE_REPORT (R358). Another device of the slice reports its READY state, binding and ACTIVE VERSION, or its FAULT, to the ingress device. -/
  | peerStateReport (k : Nat) (r : PeerState)
  /-- ROW_FAULT_REPORT (R328). Enara firmware on another device raises FAULT for a request in flight, and the ingress device ends the request and posts its completion when it learns of it. -/
  | rowFaultReport (req : BitVec 32) (reason : BitVec 8)
  /-- DEBUG_ACCESS (R471). An access through the IEEE 1149.1 debug port is refused while LOCKED, and reaches cores, tile registers and scratchpads while UNLOCKED. -/
  | debugAccess (x : DbgAcc)
  /-- SUSPECT_EXPIRY (R431). The last KS_T entry of a SUSPECT site ages past 24 hours of powered time, and its STATUS returns to GOOD. -/
  | suspectExpiry (t : Site)
deriving DecidableEq, Repr

end Sys2Proof
end

