-- ==== Sys2Proof/Decode.lean ====
section
/-! DEFINITION. The command a table word spells, and the instructions of BVI as 64-bit words (R123, R124, R137). -/

namespace Sys2Proof

/-- No row of the opcode table has bits, so no word spells a command. -/
def decodeTableWord (_nbits _w : Nat) : Option Instr := none

/-! ### Instruction words (R123, R124) -/

/-- The fields of format S in a word: SD [12:8], SA [17:13], SB [22:18], I [23], IMM32 [63:32]. -/
def FmtS.ofWord (w : BitVec 64) : FmtS :=
  ⟨w.extractLsb' 8 5, w.extractLsb' 13 5, w.extractLsb' 18 5, w.getLsbD 23, w.extractLsb' 32 32⟩

/-- The word of opcode `op` with the fields of format S, its reserved bits zero. -/
def FmtS.word (op : BitVec 8) (f : FmtS) : BitVec 64 :=
  f.imm ++ (0 : BitVec 8) ++ BitVec.ofBool f.i ++ f.sb ++ f.sa ++ f.sd ++ op

/-- The fields of format V in a word: VD [12:8], VA [17:13], VB [22:18], VC [27:23], MSK [30:28], MZ [31], FMT [35:32], FMT2 [39:36], RND [41:40], OV [42], BS [43], NMA [46:44], NMB [49:47]. -/
def FmtV.ofWord (w : BitVec 64) : FmtV :=
  ⟨w.extractLsb' 8 5, w.extractLsb' 13 5, w.extractLsb' 18 5, w.extractLsb' 23 5, w.extractLsb' 28 3, w.getLsbD 31,
    w.extractLsb' 32 4, w.extractLsb' 36 4, w.extractLsb' 40 2, w.getLsbD 42, w.getLsbD 43, w.extractLsb' 44 3, w.extractLsb' 47 3⟩

/-- The word of opcode `op` with the fields of format V. -/
def FmtV.word (op : BitVec 8) (f : FmtV) : BitVec 64 :=
  (0 : BitVec 14) ++ f.nmb ++ f.nma ++ BitVec.ofBool f.bs ++ BitVec.ofBool f.ov ++ f.rnd ++ f.fmt2 ++ f.fmt ++ BitVec.ofBool f.mz ++
    f.msk ++ f.vc ++ f.vb ++ f.va ++ f.vd ++ op

/-- The fields of format M in a word: VD or VS [12:8], SA [17:13], VB [22:18], MSK [30:28], MZ [31], FMT [35:32], NMA [38:36], IMM24 [63:40]. -/
def FmtM.ofWord (w : BitVec 64) : FmtM :=
  ⟨w.extractLsb' 8 5, w.extractLsb' 13 5, w.extractLsb' 18 5, w.extractLsb' 28 3, w.getLsbD 31, w.extractLsb' 32 4,
    w.extractLsb' 36 3, w.extractLsb' 40 24⟩

/-- The word of opcode `op` with the fields of format M. -/
def FmtM.word (op : BitVec 8) (f : FmtM) : BitVec 64 :=
  f.imm ++ (0 : BitVec 1) ++ f.nma ++ f.fmt ++ BitVec.ofBool f.mz ++ f.msk ++ (0 : BitVec 5) ++ f.vb ++ f.sa ++ f.vd ++ op

/-- The fields of format X in a word: SA [12:8], SB [17:13], SC [22:18], SD [27:23], IMM36 [63:28]. -/
def FmtX.ofWord (w : BitVec 64) : FmtX :=
  ⟨w.extractLsb' 8 5, w.extractLsb' 13 5, w.extractLsb' 18 5, w.extractLsb' 23 5, w.extractLsb' 28 36⟩

/-- The word of opcode `op` with the fields of format X. -/
def FmtX.word (op : BitVec 8) (f : FmtX) : BitVec 64 := f.imm ++ f.sd ++ f.sc ++ f.sb ++ f.sa ++ op

/-- The fields of format Y in a word: SH [12:8], SN [17:13], HI [18], NI [19], Q [22:20], IMMN [39:24], IMMH [62:40]. -/
def FmtY.ofWord (w : BitVec 64) : FmtY :=
  ⟨w.extractLsb' 8 5, w.extractLsb' 13 5, w.getLsbD 18, w.getLsbD 19, w.extractLsb' 20 3, w.extractLsb' 24 16, w.extractLsb' 40 23⟩

/-- The word of opcode `op` with the fields of format Y. -/
def FmtY.word (op : BitVec 8) (f : FmtY) : BitVec 64 :=
  (0 : BitVec 1) ++ f.immh ++ f.immn ++ (0 : BitVec 1) ++ f.q ++ BitVec.ofBool f.ni ++ BitVec.ofBool f.hi ++ f.sn ++ f.sh ++ op

/-- The instruction of tile `t` that a word holds: its opcode, bits [7:0], picks the row of Table 4-3, and with it the format of its fields; none for an opcode that is not listed (R123). -/
def bviDecode (t : Site) (w : BitVec 64) : Option Instr :=
  match (w.extractLsb' 0 8).toNat with
  | 0x00 => some (.nop t (FmtS.ofWord w))
  | 0x01 => some (.add t (FmtS.ofWord w))
  | 0x02 => some (.sub t (FmtS.ofWord w))
  | 0x03 => some (.mul t (FmtS.ofWord w))
  | 0x04 => some (.and t (FmtS.ofWord w))
  | 0x05 => some (.or t (FmtS.ofWord w))
  | 0x06 => some (.xor t (FmtS.ofWord w))
  | 0x07 => some (.shl t (FmtS.ofWord w))
  | 0x08 => some (.shr t (FmtS.ofWord w))
  | 0x09 => some (.sra t (FmtS.ofWord w))
  | 0x0A => some (.slt t (FmtS.ofWord w))
  | 0x0B => some (.sltu t (FmtS.ofWord w))
  | 0x0C => some (.movi t (FmtS.ofWord w))
  | 0x0D => some (.movhi t (FmtS.ofWord w))
  | 0x0E => some (.faddS t (FmtS.ofWord w))
  | 0x0F => some (.fmulS t (FmtS.ofWord w))
  | 0x10 => some (.ldS t (FmtS.ofWord w))
  | 0x11 => some (.stS t (FmtS.ofWord w))
  | 0x12 => some (.beq t (FmtS.ofWord w))
  | 0x13 => some (.bne t (FmtS.ofWord w))
  | 0x14 => some (.blt t (FmtS.ofWord w))
  | 0x15 => some (.bge t (FmtS.ofWord w))
  | 0x16 => some (.jmp t (FmtS.ofWord w))
  | 0x17 => some (.jr t (FmtS.ofWord w))
  | 0x18 => some (.halt t (FmtS.ofWord w))
  | 0x19 => some (.brk t (FmtS.ofWord w))
  | 0x1A => some (.rds t (FmtS.ofWord w))
  | 0x1B => some (.wrs t (FmtS.ofWord w))
  | 0x20 => some (.vadd t (FmtV.ofWord w))
  | 0x21 => some (.vsub t (FmtV.ofWord w))
  | 0x22 => some (.vmul t (FmtV.ofWord w))
  | 0x23 => some (.vfma t (FmtV.ofWord w))
  | 0x24 => some (.vfms t (FmtV.ofWord w))
  | 0x25 => some (.vmin t (FmtV.ofWord w))
  | 0x26 => some (.vmax t (FmtV.ofWord w))
  | 0x27 => some (.vabs t (FmtV.ofWord w))
  | 0x28 => some (.vneg t (FmtV.ofWord w))
  | 0x29 => some (.vsel t (FmtV.ofWord w))
  | 0x2A => some (.vmov t (FmtV.ofWord w))
  | 0x2B => some (.vbcst t (FmtV.ofWord w))
  | 0x2C => some (.vcmpeq t (FmtV.ofWord w))
  | 0x2D => some (.vcmpne t (FmtV.ofWord w))
  | 0x2E => some (.vcmplt t (FmtV.ofWord w))
  | 0x2F => some (.vcmple t (FmtV.ofWord w))
  | 0x30 => some (.vand t (FmtV.ofWord w))
  | 0x31 => some (.vor t (FmtV.ofWord w))
  | 0x32 => some (.vxor t (FmtV.ofWord w))
  | 0x40 => some (.vcvt t (FmtV.ofWord w))
  | 0x50 => some (.vexp t (FmtV.ofWord w))
  | 0x51 => some (.vexp2 t (FmtV.ofWord w))
  | 0x52 => some (.vlog2 t (FmtV.ofWord w))
  | 0x53 => some (.vrcp t (FmtV.ofWord w))
  | 0x54 => some (.vrsqrt t (FmtV.ofWord w))
  | 0x55 => some (.vsqrt t (FmtV.ofWord w))
  | 0x56 => some (.vtanh t (FmtV.ofWord w))
  | 0x57 => some (.vsigm t (FmtV.ofWord w))
  | 0x58 => some (.vgelu t (FmtV.ofWord w))
  | 0x59 => some (.vsilu t (FmtV.ofWord w))
  | 0x60 => some (.vrsum t (FmtV.ofWord w))
  | 0x61 => some (.vrmax t (FmtV.ofWord w))
  | 0x62 => some (.vrmin t (FmtV.ofWord w))
  | 0x63 => some (.vramax t (FmtV.ofWord w))
  | 0x64 => some (.vrsumsq t (FmtV.ofWord w))
  | 0x70 => some (.vld t (FmtM.ofWord w))
  | 0x71 => some (.vst t (FmtM.ofWord w))
  | 0x72 => some (.vldx t (FmtM.ofWord w))
  | 0x73 => some (.vstx t (FmtM.ofWord w))
  | 0x74 => some (.vgather t (FmtM.ofWord w))
  | 0x75 => some (.vscatter t (FmtM.ofWord w))
  | 0x80 => some (.mand t (FmtV.ofWord w))
  | 0x81 => some (.mor t (FmtV.ofWord w))
  | 0x82 => some (.mxor t (FmtV.ofWord w))
  | 0x83 => some (.mnot t (FmtV.ofWord w))
  | 0x84 => some (.mset t (FmtV.ofWord w))
  | 0x85 => some (.mget t (FmtV.ofWord w))
  | 0x90 => some (.rquQv t (FmtX.ofWord w))
  | 0x91 => some (.arrMvm t (FmtX.ofWord w))
  | 0x92 => some (.ebaOpen t (FmtX.ofWord w))
  | 0xA0 => some (.tuMma t (FmtX.ofWord w))
  | 0xB0 => some (.signal t (FmtY.ofWord w))
  | 0xB1 => some (.wait t (FmtY.ofWord w))
  | 0xB2 => some (.acquire t (FmtY.ofWord w))
  | 0xB3 => some (.reset t (FmtY.ofWord w))
  | 0xB4 => some (.spOwn t (FmtY.ofWord w))
  | 0xC0 => some (.dmaKick t (FmtX.ofWord w))
  | _ => none

end Sys2Proof
end

