-- ==== Sys2Proof/Config.lean ====
section
/-! DEFINITION. What the spec leaves open: free values without a body, so that no proof can see what they are. -/

namespace Sys2Proof.Config

open Sys2Proof

/-- The error of one column code against its ideal value, by free-value number; the comparator's choice on a threshold falls under it (R26, R81, R82). -/
opaque analogErr : Nat → Int

/-- The bits of a tensor-unit result element in a result format that Table 3-4 does not list for its class, by free-value number; the spec states no result (R106, R141). -/
opaque tuResult : Nat → BitVec 32

/-- How far one programming pulse moves a cell, in sixteenths of a level step, by free-value number; the spec gives no step (R374). -/
opaque pulseStep : Nat → Nat

/-- The level, in sixteenths of a level step, of a cell of a plane whose programming a trip or the loss of its supplies cuts short, by free-value number and cell; the plane is left undefined (R417, R489). -/
opaque wreckedCell : Nat → Nat → Nat

/-- The result of VGELU or VSILU of minus infinity: function, FP32 operand; IEEE 754 defines no such function (R131). -/
opaque vfun : Nat → BitVec 32 → BitVec 32

/-- Which KV page of a stack the k-th page reserved there by a request or, above 2^32, a prefix handle is; firmware's choice of pages is not given (R181, R182). -/
opaque kvPage : Nat → Nat → Nat → Nat

/-- Where the adapter batch table of a logical tile and layer lies in scratchpad, in 64-byte words; the spec gives it no address (R116). -/
opaque adpTable : Nat → Nat → Nat

/-- Where the layer descriptor of a logical tile and layer lies in scratchpad, in 64-byte words; kernels know it, no record names it (R116, R139, R356). -/
opaque layerDesc : Nat → Nat → Nat

/-- The scratchpad bytes that hold the STEP state of a request-table entry; the operations supply the address (R70). -/
opaque stepBytes : Nat → List Nat

/-- The fixed energy of an event of the issue gate's estimate, in pJ: 0 a TU.MMA, 1 an RQU block; the spec states that of a conversion only (R404). -/
opaque eventEnergy : Nat → Nat

/-- OWNER of a packet of forwarded partials, by free-value number; no instruction names the request (R152, R199). -/
opaque tileOwner : Nat → BitVec 32

/-- The flags NV, OF, UF, NX a transcendental instruction raises for an ordinary operand; the spec does not list them (R131, R146). -/
opaque vfunFlags : Nat → BitVec 32 → BitVec 5

/-- Which of the FP32 values within the error of R131 a transcendental instruction returns: function, FP32 operand. -/
opaque ulpPick : Nat → BitVec 32 → Nat

/-- Whether a result is tested for tininess before rounding; the spec names neither (R146, Table 4-9). -/
opaque tinyBefore : Bool

/-- VRMIN when no element is unmasked; R132 states sums and maxima only. The argument tells INT8 from the other formats. -/
opaque emptyMin : Bool → BitVec 64

/-- The element bits of a scalar broadcast to a bitwise instruction in a format that is not 32 bits wide; R129 states step 2 of R126 only. -/
opaque bitScalar : Nat → BitVec 32 → Nat

/-- The line index that ERR_INFO shows for a remote descriptor refused by WNAK, by free-value number; WNAK names no line (R246, R267). -/
opaque wnakLine : Nat → BitVec 16

/-- The agent node, of the sixteen of the optical engines, from which a destination node receives fabric packets: fixed, but not named (R264, R265). -/
opaque agentNode : Nat → BitVec 4

/-- The 16-byte unit that follows the header of a management packet, by kind (identity 0, ADOPT 1, delay 2) and what it says; the spec gives no layout (R263). -/
opaque mgmtUnit : Nat → Nat → BitVec 128

/-- The device seed of the physically unclonable function, 32 bytes (R460). -/
opaque seed : List Byte

/-- Entropy that the source gives to instantiate or reseed the generator, by free-value number (R468). -/
opaque entropy : Nat → List Byte

/-- How the bytes of the generator become the nonce of a signature, before it is brought into [1, n - 1]; the spec does not say (R468). -/
opaque nonceOf : List Byte → Nat

/-- Digest of a firmware-signing public key in the boot ROM (R458). -/
opaque romKeyDigest : Nat → List Byte

/-- The boot ROM's digest is right and the device seed is reconstructed (R456, R460). -/
opaque romGood : Bool

/-- Header and body of an image slot as shipped (R457). -/
opaque shippedImage : Nat → List Byte × List Byte

/-- The fleet-signing public key in the body of a firmware image (R464). -/
opaque fleetKeyOf : List Byte → List Byte

/-- The Lamlokan debug key digest in the body of a firmware image (R464). -/
opaque debugDigestOf : List Byte → List Byte

/-- SERIAL, the part's 16-byte serial number (R462). -/
opaque serial : List Byte

/-- MODEL_ID and manifest digest that a report shows for a slot whose manifest a reset has lost, by free-value number; the spec states neither (R357, R467). -/
opaque lostSlot : Nat → List Byte

/-- The certificates of Table 15-2 (R462). -/
opaque cert : Nat → List Byte

/-- Trims of a point as shipped: sector, point, (position * 64 + array) * 529 + 0 for the gain trim or 1 + physical column (R418). -/
opaque factoryTrim : Nat → Nat → Nat → Int

/-- Trims that calibration run `n` measured: run, sector, and the place as above (R423). -/
opaque calTrim : Nat → Nat → Nat → Int

/-- The housekeeping gain correction that calibration run `n` measured (R423). -/
opaque calGcorr : Nat → Int

/-- The bytes of the in-use calibration sets as CAL_DIGEST takes them, from SEQ, captured temperatures, classes and GCORR of each; the spec gives them no layout (R467). -/
opaque calBytes : List (List Int) → List Byte

end Sys2Proof.Config
end

