-- ==== Sys2Proof/Machine/Store.lean ====
section
/-! DEFINITION. The operations of a sparse store in canonical form, and bytes as numbers (R12). -/

namespace Sys2Proof.Machine

open Sys2Proof

/-- What key `k` reads as in store `m`, an unlisted key reading as `d`. -/
def sget {α : Type} (d : α) (m : Sparse α) (k : Nat) : α :=
  match m with
  | [] => d
  | (k', v) :: r => if k' = k then v else sget d r k

/-- `m` without key `k`. -/
def sdel {α : Type} (m : Sparse α) (k : Nat) : Sparse α :=
  match m with
  | [] => []
  | (k', v) :: r => if k' = k then sdel r k else (k', v) :: sdel r k

/-- `m` with `k` at `v`, in rising order of keys. -/
def sins {α : Type} (m : Sparse α) (k : Nat) (v : α) : Sparse α :=
  match m with
  | [] => [(k, v)]
  | (k', v') :: r =>
    if k < k' then (k, v) :: (k', v') :: r
    else if k' = k then (k, v) :: r
    else (k', v') :: sins r k v

/-- `m` with `k` set to `v`; a key that returns to the default leaves the list. -/
def sset {α : Type} [DecidableEq α] (d : α) (m : Sparse α) (k : Nat) (v : α) : Sparse α :=
  if v = d then sdel m k else sins m k v

/-- Key `k` changed by `f`. -/
def supd {α : Type} [DecidableEq α] (d : α) (m : Sparse α) (k : Nat) (f : α → α) : Sparse α :=
  sset d m k (f (sget d m k))

/-- The keys rise strictly. -/
def srising {α : Type} (m : Sparse α) : Bool :=
  match m with
  | [] => true
  | [_] => true
  | (k, _) :: (k', v) :: r => decide (k < k') && srising ((k', v) :: r)

/-- The canonical form: keys strictly rising, no entry equal to what an unlisted key reads as. -/
def swf {α : Type} [DecidableEq α] (d : α) (m : Sparse α) : Bool :=
  srising m && m.all (fun e => decide (e.2 ≠ d))

/-- Little-endian value of bytes (R12). -/
def leNat (bs : List Byte) : Nat :=
  match bs with
  | [] => 0
  | b :: r => b.toNat + 256 * leNat r

/-- The low `n` bytes of `v`, little-endian (R12). -/
def leBytes (n : Nat) (v : Nat) : List Byte :=
  match n with
  | 0 => []
  | n + 1 => BitVec.ofNat 8 v :: leBytes n (v / 256)

/-- `n` bytes of a byte store from key `k`. -/
def sbytes (d : Byte) (m : Sparse Byte) (k n : Nat) : List Byte :=
  match n with
  | 0 => []
  | n + 1 => sget d m k :: sbytes d m (k + 1) n

/-- A byte store with `bs` written from key `k`. -/
def sputBytes (d : Byte) (m : Sparse Byte) (k : Nat) (bs : List Byte) : Sparse Byte :=
  match bs with
  | [] => m
  | b :: r => sputBytes d (sset d m k b) (k + 1) r

/-- Bits `lsb` to `lsb + w - 1` of `v` (R12). -/
def bits (v lsb w : Nat) : Nat := v / 2 ^ lsb % 2 ^ w

/-- The two's-complement value of the low `w` bits of `v`. -/
def sxNat (w v : Nat) : Int :=
  let u := v % 2 ^ w
  if 2 * u < 2 ^ w then (u : Int) else (u : Int) - 2 ^ w

/-- The low `w` bits of an integer in two's complement. -/
def unsx (w : Nat) (i : Int) : Nat := (i % (2 ^ w : Int)).toNat

/-- `v` kept between `lo` and `hi`. -/
def clampNat (lo hi v : Nat) : Nat := if v < lo then lo else if v > hi then hi else v

/-- `v` kept between `lo` and `hi`. -/
def clampInt (lo hi v : Int) : Int := if v < lo then lo else if v > hi then hi else v

/-- The first index of `l` at which `p` holds. -/
def findIx {α : Type} (p : α → Bool) (l : List α) (i : Nat := 0) : Option Nat :=
  match l with
  | [] => none
  | x :: r => if p x then some i else findIx p r (i + 1)

/-- `l` with element `i` replaced. -/
def setAt {α : Type} (l : List α) (i : Nat) (x : α) : List α :=
  match l, i with
  | [], _ => []
  | _ :: r, 0 => x :: r
  | y :: r, i + 1 => y :: setAt r i x

/-- A field of a register: byte offset in BAR0, least significant bit, width, reset value (R9, R12). -/
structure FRef where
  off : Nat
  lsb : Nat
  w : Nat
  rst : Nat
deriving DecidableEq, Repr

/-- The key of a field in the register file. -/
def FRef.key (f : FRef) : Nat := f.off * 256 + f.lsb

end Sys2Proof.Machine
end

