-- ==== Sys2Proof/Machine/RegMap.lean ====
section
/-! DEFINITION. Every field of every register of BAR0 by its name: offset, bits, reset value (the register tables of the spec). -/

namespace Sys2Proof.Machine.R

open Sys2Proof.Machine

/-- TILE.ASEQ_CTL.ENABLE (R48), RW. -/
def ASEQ_CTL_ENABLE (i : Nat) : FRef := ⟨0x2002000 + 0x10000 * i, 0, 1, 1⟩
/-- TILE.ASEQ_CTL.RERUN_EN (R48), RW. -/
def ASEQ_CTL_RERUN_EN (i : Nat) : FRef := ⟨0x2002000 + 0x10000 * i, 1, 1, 1⟩
/-- TILE.ASEQ_CTL.CHK_EN (R48), RW. -/
def ASEQ_CTL_CHK_EN (i : Nat) : FRef := ⟨0x2002000 + 0x10000 * i, 2, 1, 1⟩
/-- TILE.ASEQ_CTL.GMAX_CAP (R48), RW. -/
def ASEQ_CTL_GMAX_CAP (i : Nat) : FRef := ⟨0x2002000 + 0x10000 * i, 4, 2, 3⟩
/-- TILE.ASEQ_CTL.CHKTOL (R48), RW. -/
def ASEQ_CTL_CHKTOL (i : Nat) : FRef := ⟨0x2002000 + 0x10000 * i, 8, 8, 32⟩
/-- TILE.ASEQ_CTL.PROG_SHARE (R48), RW. -/
def ASEQ_CTL_PROG_SHARE (i : Nat) : FRef := ⟨0x2002000 + 0x10000 * i, 16, 8, 16⟩
/-- TILE.ASEQ_STAT.QDEPTH (R48), RO. -/
def ASEQ_STAT_QDEPTH (i : Nat) : FRef := ⟨0x2002004 + 0x10000 * i, 0, 6, 0⟩
/-- TILE.ASEQ_STAT.IDLE (R48), RO. -/
def ASEQ_STAT_IDLE (i : Nat) : FRef := ⟨0x2002004 + 0x10000 * i, 8, 1, 1⟩
/-- TILE.ASEQ_STAT.HALTED (R48), RO. -/
def ASEQ_STAT_HALTED (i : Nat) : FRef := ⟨0x2002004 + 0x10000 * i, 9, 1, 0⟩
/-- TILE.ASEQ_EVT.COLSAT (R48), W1C. -/
def ASEQ_EVT_COLSAT (i : Nat) : FRef := ⟨0x2002008 + 0x10000 * i, 0, 1, 0⟩
/-- TILE.ASEQ_EVT.CHK_FAIL (R48), W1C. -/
def ASEQ_EVT_CHK_FAIL (i : Nat) : FRef := ⟨0x2002008 + 0x10000 * i, 1, 1, 0⟩
/-- TILE.ASEQ_EVT.PLANE_LOCKED (R48), W1C. -/
def ASEQ_EVT_PLANE_LOCKED (i : Nat) : FRef := ⟨0x2002008 + 0x10000 * i, 2, 1, 0⟩
/-- TILE.ASEQ_EVT.GAIN_FORCE (R48), W1C. -/
def ASEQ_EVT_GAIN_FORCE (i : Nat) : FRef := ⟨0x2002008 + 0x10000 * i, 3, 1, 0⟩
/-- TILE.ASEQ_EVT.GMAX_CAPPED (R48), W1C. -/
def ASEQ_EVT_GMAX_CAPPED (i : Nat) : FRef := ⟨0x2002008 + 0x10000 * i, 4, 1, 0⟩
/-- TILE.ASEQ_BUSY.BUSY (R48), RO. -/
def ASEQ_BUSY_BUSY (i : Nat) : FRef := ⟨0x2002010 + 0x10000 * i, 0, 64, 0⟩
/-- TILE.ASEQ_CNT_CLR.CLR (R48), WO. -/
def ASEQ_CNT_CLR_CLR (i : Nat) : FRef := ⟨0x2002018 + 0x10000 * i, 0, 1, 0⟩
/-- TILE.OTRIM_SEL.ARRAY (R48), RW. -/
def OTRIM_SEL_ARRAY (i : Nat) : FRef := ⟨0x2002020 + 0x10000 * i, 0, 6, 0⟩
/-- TILE.PSWAP.PSWAP (R388), RO. -/
def PSWAP_PSWAP (i : Nat) : FRef := ⟨0x2002028 + 0x10000 * i, 0, 64, 0⟩
/-- TILE.ARRCFG.PCODE0 (R48), RO. -/
def ARRCFG_PCODE0 (i j : Nat) : FRef := ⟨0x2008000 + 0x10000 * i + 0x80 * j, 0, 2, 3⟩
/-- TILE.ARRCFG.PCODE1 (R48), RO. -/
def ARRCFG_PCODE1 (i j : Nat) : FRef := ⟨0x2008000 + 0x10000 * i + 0x80 * j, 2, 2, 3⟩
/-- TILE.ARRCFG.GAIN0 (R48), RO. -/
def ARRCFG_GAIN0 (i j : Nat) : FRef := ⟨0x2008000 + 0x10000 * i + 0x80 * j, 4, 1, 0⟩
/-- TILE.ARRCFG.GAIN1 (R48), RO. -/
def ARRCFG_GAIN1 (i j : Nat) : FRef := ⟨0x2008000 + 0x10000 * i + 0x80 * j, 5, 1, 0⟩
/-- TILE.ARRSTAT.STATE (R48), RO. -/
def ARRSTAT_STATE (i j : Nat) : FRef := ⟨0x2008004 + 0x10000 * i + 0x80 * j, 0, 4, 0⟩
/-- TILE.ARRSTAT.PLOCK0 (R48), RO. -/
def ARRSTAT_PLOCK0 (i j : Nat) : FRef := ⟨0x2008004 + 0x10000 * i + 0x80 * j, 4, 1, 0⟩
/-- TILE.ARRSTAT.PLOCK1 (R48), RO. -/
def ARRSTAT_PLOCK1 (i j : Nat) : FRef := ⟨0x2008004 + 0x10000 * i + 0x80 * j, 5, 1, 0⟩
/-- TILE.ARRSTAT.LASTPLANE (R48), RO. -/
def ARRSTAT_LASTPLANE (i j : Nat) : FRef := ⟨0x2008004 + 0x10000 * i + 0x80 * j, 6, 1, 0⟩
/-- TILE.ARRSPR0.SP0_COL (R48), RO. -/
def ARRSPR0_SP0_COL (i j : Nat) : FRef := ⟨0x2008008 + 0x10000 * i + 0x80 * j, 0, 7, 0⟩
/-- TILE.ARRSPR0.SP0_V (R48), RO. -/
def ARRSPR0_SP0_V (i j : Nat) : FRef := ⟨0x2008008 + 0x10000 * i + 0x80 * j, 7, 1, 0⟩
/-- TILE.ARRSPR0.SP1_COL (R48), RO. -/
def ARRSPR0_SP1_COL (i j : Nat) : FRef := ⟨0x2008008 + 0x10000 * i + 0x80 * j, 8, 7, 0⟩
/-- TILE.ARRSPR0.SP1_V (R48), RO. -/
def ARRSPR0_SP1_V (i j : Nat) : FRef := ⟨0x2008008 + 0x10000 * i + 0x80 * j, 15, 1, 0⟩
/-- TILE.ARRSPR0.SP2_COL (R48), RO. -/
def ARRSPR0_SP2_COL (i j : Nat) : FRef := ⟨0x2008008 + 0x10000 * i + 0x80 * j, 16, 7, 0⟩
/-- TILE.ARRSPR0.SP2_V (R48), RO. -/
def ARRSPR0_SP2_V (i j : Nat) : FRef := ⟨0x2008008 + 0x10000 * i + 0x80 * j, 23, 1, 0⟩
/-- TILE.ARRSPR0.SP3_COL (R48), RO. -/
def ARRSPR0_SP3_COL (i j : Nat) : FRef := ⟨0x2008008 + 0x10000 * i + 0x80 * j, 24, 7, 0⟩
/-- TILE.ARRSPR0.SP3_V (R48), RO. -/
def ARRSPR0_SP3_V (i j : Nat) : FRef := ⟨0x2008008 + 0x10000 * i + 0x80 * j, 31, 1, 0⟩
/-- TILE.ARRSPR1.SP4_COL (R48), RO. -/
def ARRSPR1_SP4_COL (i j : Nat) : FRef := ⟨0x200800c + 0x10000 * i + 0x80 * j, 0, 7, 0⟩
/-- TILE.ARRSPR1.SP4_V (R48), RO. -/
def ARRSPR1_SP4_V (i j : Nat) : FRef := ⟨0x200800c + 0x10000 * i + 0x80 * j, 7, 1, 0⟩
/-- TILE.ARRSPR1.SP5_COL (R48), RO. -/
def ARRSPR1_SP5_COL (i j : Nat) : FRef := ⟨0x200800c + 0x10000 * i + 0x80 * j, 8, 7, 0⟩
/-- TILE.ARRSPR1.SP5_V (R48), RO. -/
def ARRSPR1_SP5_V (i j : Nat) : FRef := ⟨0x200800c + 0x10000 * i + 0x80 * j, 15, 1, 0⟩
/-- TILE.ARRSPR1.SP6_COL (R48), RO. -/
def ARRSPR1_SP6_COL (i j : Nat) : FRef := ⟨0x200800c + 0x10000 * i + 0x80 * j, 16, 7, 0⟩
/-- TILE.ARRSPR1.SP6_V (R48), RO. -/
def ARRSPR1_SP6_V (i j : Nat) : FRef := ⟨0x200800c + 0x10000 * i + 0x80 * j, 23, 1, 0⟩
/-- TILE.ARRSPR1.SP7_COL (R48), RO. -/
def ARRSPR1_SP7_COL (i j : Nat) : FRef := ⟨0x200800c + 0x10000 * i + 0x80 * j, 24, 7, 0⟩
/-- TILE.ARRSPR1.SP7_V (R48), RO. -/
def ARRSPR1_SP7_V (i j : Nat) : FRef := ⟨0x200800c + 0x10000 * i + 0x80 * j, 31, 1, 0⟩
/-- TILE.ARRCAL.GTRIM (R48), RO. -/
def ARRCAL_GTRIM (i j : Nat) : FRef := ⟨0x2008010 + 0x10000 * i + 0x80 * j, 0, 12, 2048⟩
/-- TILE.ARRERR.COLSAT_A (R48), RO. -/
def ARRERR_COLSAT_A (i j : Nat) : FRef := ⟨0x2008018 + 0x10000 * i + 0x80 * j, 0, 16, 0⟩
/-- TILE.ARRERR.CHKF_A (R48), RO. -/
def ARRERR_CHKF_A (i j : Nat) : FRef := ⟨0x2008018 + 0x10000 * i + 0x80 * j, 16, 16, 0⟩
/-- TILE.OP_CNT.V (R49), RO. -/
def OP_CNT (i : Nat) : FRef := ⟨0x2002040 + 0x10000 * i, 0, 64, 0⟩
/-- TILE.CONV_CNT.V (R49), RO. -/
def CONV_CNT (i : Nat) : FRef := ⟨0x2002048 + 0x10000 * i, 0, 64, 0⟩
/-- TILE.SPLIT_CNT.V (R49), RO. -/
def SPLIT_CNT (i : Nat) : FRef := ⟨0x2002050 + 0x10000 * i, 0, 32, 0⟩
/-- TILE.RERUN_CNT.V (R49), RO. -/
def RERUN_CNT (i : Nat) : FRef := ⟨0x2002054 + 0x10000 * i, 0, 32, 0⟩
/-- TILE.COLSAT_CNT.V (R49), RO. -/
def COLSAT_CNT (i : Nat) : FRef := ⟨0x2002058 + 0x10000 * i, 0, 32, 0⟩
/-- TILE.CHK_FAIL_CNT.V (R49), RO. -/
def CHK_FAIL_CNT (i : Nat) : FRef := ⟨0x200205c + 0x10000 * i, 0, 32, 0⟩
/-- TILE.CHK_SKIP_CNT.V (R49), RO. -/
def CHK_SKIP_CNT (i : Nat) : FRef := ⟨0x2002060 + 0x10000 * i, 0, 32, 0⟩
/-- TILE.EMPTY_PLANE_CNT.V (R49), RO. -/
def EMPTY_PLANE_CNT (i : Nat) : FRef := ⟨0x2002064 + 0x10000 * i, 0, 32, 0⟩
/-- TILE.GAIN_FORCE_CNT.V (R49), RO. -/
def GAIN_FORCE_CNT (i : Nat) : FRef := ⟨0x2002068 + 0x10000 * i, 0, 32, 0⟩
/-- TILE.GMAX_CAP_CNT.V (R49), RO. -/
def GMAX_CAP_CNT (i : Nat) : FRef := ⟨0x200206c + 0x10000 * i, 0, 32, 0⟩
/-- TILE.PLOCK_CNT.V (R49), RO. -/
def PLOCK_CNT (i : Nat) : FRef := ⟨0x2002070 + 0x10000 * i, 0, 32, 0⟩
/-- TILE.PROG_SLOT_CNT.V (R49), RO. -/
def PROG_SLOT_CNT (i : Nat) : FRef := ⟨0x2002074 + 0x10000 * i, 0, 32, 0⟩
/-- TILE.RQU_CNT_CLR.CLR (R83), WO. -/
def RQU_CNT_CLR_CLR (i : Nat) : FRef := ⟨0x2002100 + 0x10000 * i, 0, 1, 0⟩
/-- TILE.BLK_CNT.V (R84), RO. -/
def BLK_CNT (i : Nat) : FRef := ⟨0x2002110 + 0x10000 * i, 0, 64, 0⟩
/-- TILE.ZERO_BLK.V (R84), RO. -/
def ZERO_BLK (i : Nat) : FRef := ⟨0x2002118 + 0x10000 * i, 0, 32, 0⟩
/-- TILE.OUT_OVF.V (R84), RO. -/
def OUT_OVF (i : Nat) : FRef := ⟨0x200211c + 0x10000 * i, 0, 32, 0⟩
/-- TILE.OUTLIER_CNT.V (R84), RO. -/
def OUTLIER_CNT (i : Nat) : FRef := ⟨0x2002120 + 0x10000 * i, 0, 32, 0⟩
/-- TILE.QCLIP_CNT.V (R84), RO. -/
def QCLIP_CNT (i : Nat) : FRef := ⟨0x2002124 + 0x10000 * i, 0, 32, 0⟩
/-- TILE.NONFIN_CNT.V (R84), RO. -/
def NONFIN_CNT (i : Nat) : FRef := ⟨0x2002128 + 0x10000 * i, 0, 32, 0⟩
/-- TILE.NONFIN_FAIL.V (R84), RO. -/
def NONFIN_FAIL (i : Nat) : FRef := ⟨0x200212c + 0x10000 * i, 0, 32, 0⟩
/-- TILE.EBA_RANGE.V (R84), RO. -/
def EBA_RANGE (i : Nat) : FRef := ⟨0x2002130 + 0x10000 * i, 0, 32, 0⟩
/-- TILE.EBA_LATE.V (R84), RO. -/
def EBA_LATE (i : Nat) : FRef := ⟨0x2002134 + 0x10000 * i, 0, 32, 0⟩
/-- TILE.CVT_OVF.V (R84), RO. -/
def CVT_OVF (i : Nat) : FRef := ⟨0x2002138 + 0x10000 * i, 0, 32, 0⟩
/-- TILE.QREC_FIX.V (R84), RO. -/
def QREC_FIX (i : Nat) : FRef := ⟨0x200213c + 0x10000 * i, 0, 32, 0⟩
/-- TILE.TILE_ID.SITE (R118), RO. -/
def TILE_ID_SITE (i : Nat) : FRef := ⟨0x2000000 + 0x10000 * i, 0, 9, i⟩
/-- TILE.TILE_ID.POSITION (R118), RO. -/
def TILE_ID_POSITION (i : Nat) : FRef := ⟨0x2000000 + 0x10000 * i, 12, 4, i % 9⟩
/-- TILE.TILE_ID.SECTOR (R118), RO. -/
def TILE_ID_SECTOR (i : Nat) : FRef := ⟨0x2000000 + 0x10000 * i, 16, 5, i / 9⟩
/-- TILE.TILE_ID.LVALID (R118), RO. -/
def TILE_ID_LVALID (i : Nat) : FRef := ⟨0x2000000 + 0x10000 * i, 23, 1, 0⟩
/-- TILE.TILE_ID.LOGICAL (R118), RO. -/
def TILE_ID_LOGICAL (i : Nat) : FRef := ⟨0x2000000 + 0x10000 * i, 24, 8, 0⟩
/-- TILE.TILE_CTL.VC_RUN (R118), RW. -/
def TILE_CTL_VC_RUN (i : Nat) : FRef := ⟨0x2000004 + 0x10000 * i, 0, 1, 0⟩
/-- TILE.TILE_CTL.Q_FLUSH (R118), WO. -/
def TILE_CTL_Q_FLUSH (i : Nat) : FRef := ⟨0x2000004 + 0x10000 * i, 1, 1, 0⟩
/-- TILE.TILE_CTL.TU_EN (R118), RW. -/
def TILE_CTL_TU_EN (i : Nat) : FRef := ⟨0x2000004 + 0x10000 * i, 2, 1, 1⟩
/-- TILE.TILE_STAT.VC_STATE (R118), RO. -/
def TILE_STAT_VC_STATE (i : Nat) : FRef := ⟨0x2000008 + 0x10000 * i, 0, 3, 0⟩
/-- TILE.TILE_STAT.PSTATE (R118), RO. -/
def TILE_STAT_PSTATE (i : Nat) : FRef := ⟨0x2000008 + 0x10000 * i, 4, 2, 0⟩
/-- TILE.TILE_STAT.FENCED (R118), RO. -/
def TILE_STAT_FENCED (i : Nat) : FRef := ⟨0x2000008 + 0x10000 * i, 8, 1, 0⟩
/-- TILE.TILE_STAT.TU_BUSY (R118), RO. -/
def TILE_STAT_TU_BUSY (i : Nat) : FRef := ⟨0x2000008 + 0x10000 * i, 9, 1, 0⟩
/-- TILE.TILE_STAT.EBA_OPEN (R118), RO. -/
def TILE_STAT_EBA_OPEN (i : Nat) : FRef := ⟨0x2000008 + 0x10000 * i, 10, 1, 0⟩
/-- TILE.SPOWN.OWNER_0 (R118), RW. -/
def SPOWN_OWNER_0 (i : Nat) : FRef := ⟨0x2000010 + 0x10000 * i, 0, 3, 3⟩
/-- TILE.SPOWN.OWNER_1 (R118), RW. -/
def SPOWN_OWNER_1 (i : Nat) : FRef := ⟨0x2000010 + 0x10000 * i, 4, 3, 3⟩
/-- TILE.SPOWN.OWNER_2 (R118), RW. -/
def SPOWN_OWNER_2 (i : Nat) : FRef := ⟨0x2000010 + 0x10000 * i, 8, 3, 3⟩
/-- TILE.SPOWN.OWNER_3 (R118), RW. -/
def SPOWN_OWNER_3 (i : Nat) : FRef := ⟨0x2000010 + 0x10000 * i, 12, 3, 3⟩
/-- TILE.SPOWN.OWNER_4 (R118), RW. -/
def SPOWN_OWNER_4 (i : Nat) : FRef := ⟨0x2000010 + 0x10000 * i, 16, 3, 3⟩
/-- TILE.SPOWN.OWNER_5 (R118), RW. -/
def SPOWN_OWNER_5 (i : Nat) : FRef := ⟨0x2000010 + 0x10000 * i, 20, 3, 3⟩
/-- TILE.SPOWN.OWNER_6 (R118), RW. -/
def SPOWN_OWNER_6 (i : Nat) : FRef := ⟨0x2000010 + 0x10000 * i, 24, 3, 3⟩
/-- TILE.SPOWN.OWNER_7 (R118), RW. -/
def SPOWN_OWNER_7 (i : Nat) : FRef := ⟨0x2000010 + 0x10000 * i, 28, 3, 3⟩
/-- TILE.SPRET.RET (R118), RW. -/
def SPRET_RET (i : Nat) : FRef := ⟨0x2000014 + 0x10000 * i, 0, 8, 0⟩
/-- TILE.SPSTAT.PST_0 (R118), RO. -/
def SPSTAT_PST_0 (i : Nat) : FRef := ⟨0x2000018 + 0x10000 * i, 0, 2, 0⟩
/-- TILE.SPSTAT.PST_1 (R118), RO. -/
def SPSTAT_PST_1 (i : Nat) : FRef := ⟨0x2000018 + 0x10000 * i, 2, 2, 0⟩
/-- TILE.SPSTAT.PST_2 (R118), RO. -/
def SPSTAT_PST_2 (i : Nat) : FRef := ⟨0x2000018 + 0x10000 * i, 4, 2, 0⟩
/-- TILE.SPSTAT.PST_3 (R118), RO. -/
def SPSTAT_PST_3 (i : Nat) : FRef := ⟨0x2000018 + 0x10000 * i, 6, 2, 0⟩
/-- TILE.SPSTAT.PST_4 (R118), RO. -/
def SPSTAT_PST_4 (i : Nat) : FRef := ⟨0x2000018 + 0x10000 * i, 8, 2, 0⟩
/-- TILE.SPSTAT.PST_5 (R118), RO. -/
def SPSTAT_PST_5 (i : Nat) : FRef := ⟨0x2000018 + 0x10000 * i, 10, 2, 0⟩
/-- TILE.SPSTAT.PST_6 (R118), RO. -/
def SPSTAT_PST_6 (i : Nat) : FRef := ⟨0x2000018 + 0x10000 * i, 12, 2, 0⟩
/-- TILE.SPSTAT.PST_7 (R118), RO. -/
def SPSTAT_PST_7 (i : Nat) : FRef := ⟨0x2000018 + 0x10000 * i, 14, 2, 0⟩
/-- TILE.SPEVT.SP_OWNER (R118), W1C. -/
def SPEVT_SP_OWNER (i : Nat) : FRef := ⟨0x200001c + 0x10000 * i, 0, 1, 0⟩
/-- TILE.SPEVT.WCOLL_VC (R118), W1C. -/
def SPEVT_WCOLL_VC (i : Nat) : FRef := ⟨0x200001c + 0x10000 * i, 1, 1, 0⟩
/-- TILE.SPEVT.WCOLL_DMA (R118), W1C. -/
def SPEVT_WCOLL_DMA (i : Nat) : FRef := ⟨0x200001c + 0x10000 * i, 2, 1, 0⟩
/-- TILE.SPEVT.WCOLL_RQU (R118), W1C. -/
def SPEVT_WCOLL_RQU (i : Nat) : FRef := ⟨0x200001c + 0x10000 * i, 3, 1, 0⟩
/-- TILE.SPEVT.QSTALL (R118), W1C. -/
def SPEVT_QSTALL (i : Nat) : FRef := ⟨0x200001c + 0x10000 * i, 4, 1, 0⟩
/-- TILE.SPEVT.TU_FMT (R118), W1C. -/
def SPEVT_TU_FMT (i : Nat) : FRef := ⟨0x200001c + 0x10000 * i, 5, 1, 0⟩
/-- TILE.SPEVT.VC_FAULT (R118), W1C. -/
def SPEVT_VC_FAULT (i : Nat) : FRef := ⟨0x200001c + 0x10000 * i, 6, 1, 0⟩
/-- TILE.SPERR.WORD (R118), RO. -/
def SPERR_WORD (i : Nat) : FRef := ⟨0x2000020 + 0x10000 * i, 0, 15, 0⟩
/-- TILE.SPERR.WRITE (R118), RO. -/
def SPERR_WRITE (i : Nat) : FRef := ⟨0x2000020 + 0x10000 * i, 15, 1, 0⟩
/-- TILE.SPERR.UNIT (R118), RO. -/
def SPERR_UNIT (i : Nat) : FRef := ⟨0x2000020 + 0x10000 * i, 16, 3, 0⟩
/-- TILE.SPERR.HOLDER (R118), RO. -/
def SPERR_HOLDER (i : Nat) : FRef := ⟨0x2000020 + 0x10000 * i, 20, 3, 0⟩
/-- TILE.SPERR.VALID (R118), RO. -/
def SPERR_VALID (i : Nat) : FRef := ⟨0x2000020 + 0x10000 * i, 31, 1, 0⟩
/-- TILE.VC_PC.PC (R118), RW. -/
def VC_PC_PC (i : Nat) : FRef := ⟨0x2000040 + 0x10000 * i, 3, 18, 0⟩
/-- TILE.VC_STAT.CAUSE (R118), RO. -/
def VC_STAT_CAUSE (i : Nat) : FRef := ⟨0x2000044 + 0x10000 * i, 0, 8, 0⟩
/-- TILE.VC_STAT.FPC (R118), RO. -/
def VC_STAT_FPC (i : Nat) : FRef := ⟨0x2000044 + 0x10000 * i, 11, 21, 0⟩
/-- TILE.Q_STAT.ARR_D (R118), RO. -/
def Q_STAT_ARR_D (i : Nat) : FRef := ⟨0x2000050 + 0x10000 * i, 0, 6, 0⟩
/-- TILE.Q_STAT.TU_D (R118), RO. -/
def Q_STAT_TU_D (i : Nat) : FRef := ⟨0x2000050 + 0x10000 * i, 8, 5, 0⟩
/-- TILE.Q_STAT.DMA_D (R118), RO. -/
def Q_STAT_DMA_D (i : Nat) : FRef := ⟨0x2000050 + 0x10000 * i, 16, 5, 0⟩
/-- TILE.Q_STAT.SYNC_D (R118), RO. -/
def Q_STAT_SYNC_D (i : Nat) : FRef := ⟨0x2000050 + 0x10000 * i, 24, 5, 0⟩
/-- TILE.Q_STAT.HEAD_WAIT (R118), RO. -/
def Q_STAT_HEAD_WAIT (i : Nat) : FRef := ⟨0x2000050 + 0x10000 * i, 32, 4, 0⟩
/-- TILE.QSTALL_LIM.LIMIT (R118), RW. -/
def QSTALL_LIM_LIMIT (i : Nat) : FRef := ⟨0x2000058 + 0x10000 * i, 0, 20, 10000⟩
/-- TILE.TILE_CNT_CLR.CLR (R118), WO. -/
def TILE_CNT_CLR_CLR (i : Nat) : FRef := ⟨0x200005c + 0x10000 * i, 0, 1, 0⟩
/-- TILE.VC_INSTR_CNT.V (R119), RO. -/
def VC_INSTR_CNT (i : Nat) : FRef := ⟨0x2000080 + 0x10000 * i, 0, 64, 0⟩
/-- TILE.VC_ISTALL_CYC.V (R119), RO. -/
def VC_ISTALL_CYC (i : Nat) : FRef := ⟨0x2000088 + 0x10000 * i, 0, 64, 0⟩
/-- TILE.ARR_HW_CYC.V (R119), RO. -/
def ARR_HW_CYC (i : Nat) : FRef := ⟨0x2000090 + 0x10000 * i, 0, 64, 0⟩
/-- TILE.TU_HW_CYC.V (R119), RO. -/
def TU_HW_CYC (i : Nat) : FRef := ⟨0x2000098 + 0x10000 * i, 0, 64, 0⟩
/-- TILE.DMA_HW_CYC.V (R119), RO. -/
def DMA_HW_CYC (i : Nat) : FRef := ⟨0x20000a0 + 0x10000 * i, 0, 64, 0⟩
/-- TILE.SYNC_HW_CYC.V (R119), RO. -/
def SYNC_HW_CYC (i : Nat) : FRef := ⟨0x20000a8 + 0x10000 * i, 0, 64, 0⟩
/-- TILE.TU_BUSY_CYC.V (R119), RO. -/
def TU_BUSY_CYC (i : Nat) : FRef := ⟨0x20000b0 + 0x10000 * i, 0, 64, 0⟩
/-- TILE.TU_OP_CNT.V (R119), RO. -/
def TU_OP_CNT (i : Nat) : FRef := ⟨0x20000b8 + 0x10000 * i, 0, 32, 0⟩
/-- TILE.SP_OWNER_CNT.V (R119), RO. -/
def SP_OWNER_CNT (i : Nat) : FRef := ⟨0x20000bc + 0x10000 * i, 0, 32, 0⟩
/-- TILE.SP_WCOLL_CNT.V (R119), RO. -/
def SP_WCOLL_CNT (i : Nat) : FRef := ⟨0x20000c0 + 0x10000 * i, 0, 32, 0⟩
/-- TILE.SP_WAKE_CNT.V (R119), RO. -/
def SP_WAKE_CNT (i : Nat) : FRef := ⟨0x20000c4 + 0x10000 * i, 0, 32, 0⟩
/-- TILE.QSTALL_CNT.V (R119), RO. -/
def QSTALL_CNT (i : Nat) : FRef := ⟨0x20000c8 + 0x10000 * i, 0, 32, 0⟩
/-- TILE.SPOWN_RACE_CNT.V (R119), RO. -/
def SPOWN_RACE_CNT (i : Nat) : FRef := ⟨0x20000cc + 0x10000 * i, 0, 32, 0⟩
/-- TILE.FENCE_DROP_CNT.V (R119), RO. -/
def FENCE_DROP_CNT (i : Nat) : FRef := ⟨0x20000d0 + 0x10000 * i, 0, 32, 0⟩
/-- TILE.TU_CLAMP_CNT.V (R119), RO. -/
def TU_CLAMP_CNT (i : Nat) : FRef := ⟨0x20000d4 + 0x10000 * i, 0, 32, 0⟩
/-- TILE.EDGE_STALL_CYC.V (R119), RO. -/
def EDGE_STALL_CYC (i : Nat) : FRef := ⟨0x20000d8 + 0x10000 * i, 0, 32, 0⟩
/-- TILE.EBAFWD.HOME (R151), RW. -/
def EBAFWD_HOME (i j : Nat) : FRef := ⟨0x2003000 + 0x10000 * i + 0x4 * j, 0, 8, 0⟩
/-- TILE.EBAFWD.HOB (R151), RW. -/
def EBAFWD_HOB (i j : Nat) : FRef := ⟨0x2003000 + 0x10000 * i + 0x4 * j, 8, 5, 0⟩
/-- TILE.EBAFWD.V (R151), RW. -/
def EBAFWD (i j : Nat) : FRef := ⟨0x2003000 + 0x10000 * i + 0x4 * j, 16, 1, 0⟩
/-- TILE.LSLOT.OUT_0 (R219), RW. -/
def LSLOT_OUT_0 (i j : Nat) : FRef := ⟨0x2004000 + 0x10000 * i + 0x4 * j, 0, 4, 15⟩
/-- TILE.LSLOT.OUT_1 (R219), RW. -/
def LSLOT_OUT_1 (i j : Nat) : FRef := ⟨0x2004000 + 0x10000 * i + 0x4 * j, 4, 4, 15⟩
/-- TILE.LSLOT.OUT_2 (R219), RW. -/
def LSLOT_OUT_2 (i j : Nat) : FRef := ⟨0x2004000 + 0x10000 * i + 0x4 * j, 8, 4, 15⟩
/-- TILE.LSLOT.OUT_3 (R219), RW. -/
def LSLOT_OUT_3 (i j : Nat) : FRef := ⟨0x2004000 + 0x10000 * i + 0x4 * j, 12, 4, 15⟩
/-- TILE.LSLOT.OUT_4 (R219), RW. -/
def LSLOT_OUT_4 (i j : Nat) : FRef := ⟨0x2004000 + 0x10000 * i + 0x4 * j, 16, 4, 15⟩
/-- TILE.LSLOT.OUT_5 (R219), RW. -/
def LSLOT_OUT_5 (i j : Nat) : FRef := ⟨0x2004000 + 0x10000 * i + 0x4 * j, 20, 4, 15⟩
/-- TILE.LSLOT.OUT_6 (R219), RW. -/
def LSLOT_OUT_6 (i j : Nat) : FRef := ⟨0x2004000 + 0x10000 * i + 0x4 * j, 24, 4, 15⟩
/-- TILE.RT_FLIT_CNT.V (R220), RO. -/
def RT_FLIT_CNT (i : Nat) : FRef := ⟨0x2003400 + 0x10000 * i, 0, 64, 0⟩
/-- TILE.RT_STALL_CYC.V (R220), RO. -/
def RT_STALL_CYC (i : Nat) : FRef := ⟨0x2003408 + 0x10000 * i, 0, 64, 0⟩
/-- TILE.RT_EJ_FULL_CYC.V (R220), RO. -/
def RT_EJ_FULL_CYC (i : Nat) : FRef := ⟨0x2003410 + 0x10000 * i, 0, 32, 0⟩
/-- TILE.RT_CE.V (R220), RO. -/
def RT_CE (i : Nat) : FRef := ⟨0x2003414 + 0x10000 * i, 0, 32, 0⟩
/-- TILE.RT_UE.V (R220), RO. -/
def RT_UE (i : Nat) : FRef := ⟨0x2003418 + 0x10000 * i, 0, 32, 0⟩
/-- TILE.RT_SLOT_VIOL.V (R220), RO. -/
def RT_SLOT_VIOL (i : Nat) : FRef := ⟨0x200341c + 0x10000 * i, 0, 32, 0⟩
/-- TOP.REMAP.SITE (R154), RO. -/
def REMAP_SITE (i : Nat) : FRef := ⟨0x1000 + 0x4 * i, 0, 9, 9 * (i / 8) + i % 8⟩
/-- TOP.REMAP.ADOPTED (R154), RO. -/
def REMAP_ADOPTED (i : Nat) : FRef := ⟨0x1000 + 0x4 * i, 16, 1, 0⟩
/-- TOP.REMAP_GEN.GEN (R154), RO. -/
def REMAP_GEN_GEN : FRef := ⟨0x1400, 0, 32, 0⟩
/-- SCT.MC_CTL.SCRUB_EN (R194), RW. -/
def MC_CTL_SCRUB_EN (i : Nat) : FRef := ⟨0x1004000 + 0x10000 * i, 0, 1, 1⟩
/-- SCT.MC_CTL.CE_WB (R194), RW. -/
def MC_CTL_CE_WB (i : Nat) : FRef := ⟨0x1004000 + 0x10000 * i, 1, 1, 1⟩
/-- SCT.MC_CTL.REF2X_FORCE (R194), RW. -/
def MC_CTL_REF2X_FORCE (i : Nat) : FRef := ⟨0x1004000 + 0x10000 * i, 2, 1, 0⟩
/-- SCT.MC_CTL.SCRUB_HOURS (R194), RW. -/
def MC_CTL_SCRUB_HOURS (i : Nat) : FRef := ⟨0x1004000 + 0x10000 * i, 8, 8, 24⟩
/-- SCT.MC_CTL.UE_CHFAIL (R194), RW. -/
def MC_CTL_UE_CHFAIL (i : Nat) : FRef := ⟨0x1004000 + 0x10000 * i, 16, 4, 4⟩
/-- SCT.MC_STAT.STATE (R194), RO. -/
def MC_STAT_STATE (i : Nat) : FRef := ⟨0x1004004 + 0x10000 * i, 0, 3, 0⟩
/-- SCT.MC_STAT.REF2X (R194), RO. -/
def MC_STAT_REF2X (i : Nat) : FRef := ⟨0x1004004 + 0x10000 * i, 3, 1, 0⟩
/-- SCT.MC_STAT.TEMP (R194), RO. -/
def MC_STAT_TEMP (i : Nat) : FRef := ⟨0x1004004 + 0x10000 * i, 8, 8, 0⟩
/-- SCT.MC_STAT.PC_FAIL (R194), RO. -/
def MC_STAT_PC_FAIL (i : Nat) : FRef := ⟨0x1004004 + 0x10000 * i, 16, 16, 0⟩
/-- SCT.TRAIN_STAT.RESULT_0 (R194), RO. -/
def TRAIN_STAT_RESULT_0 (i : Nat) : FRef := ⟨0x1004008 + 0x10000 * i, 0, 2, 3⟩
/-- SCT.TRAIN_STAT.LANES_0 (R194), RO. -/
def TRAIN_STAT_LANES_0 (i : Nat) : FRef := ⟨0x1004008 + 0x10000 * i, 2, 2, 0⟩
/-- SCT.TRAIN_STAT.RESULT_1 (R194), RO. -/
def TRAIN_STAT_RESULT_1 (i : Nat) : FRef := ⟨0x1004008 + 0x10000 * i, 4, 2, 3⟩
/-- SCT.TRAIN_STAT.LANES_1 (R194), RO. -/
def TRAIN_STAT_LANES_1 (i : Nat) : FRef := ⟨0x1004008 + 0x10000 * i, 6, 2, 0⟩
/-- SCT.TRAIN_STAT.RESULT_2 (R194), RO. -/
def TRAIN_STAT_RESULT_2 (i : Nat) : FRef := ⟨0x1004008 + 0x10000 * i, 8, 2, 3⟩
/-- SCT.TRAIN_STAT.LANES_2 (R194), RO. -/
def TRAIN_STAT_LANES_2 (i : Nat) : FRef := ⟨0x1004008 + 0x10000 * i, 10, 2, 0⟩
/-- SCT.TRAIN_STAT.RESULT_3 (R194), RO. -/
def TRAIN_STAT_RESULT_3 (i : Nat) : FRef := ⟨0x1004008 + 0x10000 * i, 12, 2, 3⟩
/-- SCT.TRAIN_STAT.LANES_3 (R194), RO. -/
def TRAIN_STAT_LANES_3 (i : Nat) : FRef := ⟨0x1004008 + 0x10000 * i, 14, 2, 0⟩
/-- SCT.TRAIN_STAT.RESULT_4 (R194), RO. -/
def TRAIN_STAT_RESULT_4 (i : Nat) : FRef := ⟨0x1004008 + 0x10000 * i, 16, 2, 3⟩
/-- SCT.TRAIN_STAT.LANES_4 (R194), RO. -/
def TRAIN_STAT_LANES_4 (i : Nat) : FRef := ⟨0x1004008 + 0x10000 * i, 18, 2, 0⟩
/-- SCT.TRAIN_STAT.RESULT_5 (R194), RO. -/
def TRAIN_STAT_RESULT_5 (i : Nat) : FRef := ⟨0x1004008 + 0x10000 * i, 20, 2, 3⟩
/-- SCT.TRAIN_STAT.LANES_5 (R194), RO. -/
def TRAIN_STAT_LANES_5 (i : Nat) : FRef := ⟨0x1004008 + 0x10000 * i, 22, 2, 0⟩
/-- SCT.TRAIN_STAT.RESULT_6 (R194), RO. -/
def TRAIN_STAT_RESULT_6 (i : Nat) : FRef := ⟨0x1004008 + 0x10000 * i, 24, 2, 3⟩
/-- SCT.TRAIN_STAT.LANES_6 (R194), RO. -/
def TRAIN_STAT_LANES_6 (i : Nat) : FRef := ⟨0x1004008 + 0x10000 * i, 26, 2, 0⟩
/-- SCT.TRAIN_STAT.RESULT_7 (R194), RO. -/
def TRAIN_STAT_RESULT_7 (i : Nat) : FRef := ⟨0x1004008 + 0x10000 * i, 28, 2, 3⟩
/-- SCT.TRAIN_STAT.LANES_7 (R194), RO. -/
def TRAIN_STAT_LANES_7 (i : Nat) : FRef := ⟨0x1004008 + 0x10000 * i, 30, 2, 0⟩
/-- SCT.TRAIN_STAT.RESULT_8 (R194), RO. -/
def TRAIN_STAT_RESULT_8 (i : Nat) : FRef := ⟨0x1004008 + 0x10000 * i, 32, 2, 3⟩
/-- SCT.TRAIN_STAT.LANES_8 (R194), RO. -/
def TRAIN_STAT_LANES_8 (i : Nat) : FRef := ⟨0x1004008 + 0x10000 * i, 34, 2, 0⟩
/-- SCT.TRAIN_STAT.RESULT_9 (R194), RO. -/
def TRAIN_STAT_RESULT_9 (i : Nat) : FRef := ⟨0x1004008 + 0x10000 * i, 36, 2, 3⟩
/-- SCT.TRAIN_STAT.LANES_9 (R194), RO. -/
def TRAIN_STAT_LANES_9 (i : Nat) : FRef := ⟨0x1004008 + 0x10000 * i, 38, 2, 0⟩
/-- SCT.TRAIN_STAT.RESULT_10 (R194), RO. -/
def TRAIN_STAT_RESULT_10 (i : Nat) : FRef := ⟨0x1004008 + 0x10000 * i, 40, 2, 3⟩
/-- SCT.TRAIN_STAT.LANES_10 (R194), RO. -/
def TRAIN_STAT_LANES_10 (i : Nat) : FRef := ⟨0x1004008 + 0x10000 * i, 42, 2, 0⟩
/-- SCT.TRAIN_STAT.RESULT_11 (R194), RO. -/
def TRAIN_STAT_RESULT_11 (i : Nat) : FRef := ⟨0x1004008 + 0x10000 * i, 44, 2, 3⟩
/-- SCT.TRAIN_STAT.LANES_11 (R194), RO. -/
def TRAIN_STAT_LANES_11 (i : Nat) : FRef := ⟨0x1004008 + 0x10000 * i, 46, 2, 0⟩
/-- SCT.TRAIN_STAT.RESULT_12 (R194), RO. -/
def TRAIN_STAT_RESULT_12 (i : Nat) : FRef := ⟨0x1004008 + 0x10000 * i, 48, 2, 3⟩
/-- SCT.TRAIN_STAT.LANES_12 (R194), RO. -/
def TRAIN_STAT_LANES_12 (i : Nat) : FRef := ⟨0x1004008 + 0x10000 * i, 50, 2, 0⟩
/-- SCT.TRAIN_STAT.RESULT_13 (R194), RO. -/
def TRAIN_STAT_RESULT_13 (i : Nat) : FRef := ⟨0x1004008 + 0x10000 * i, 52, 2, 3⟩
/-- SCT.TRAIN_STAT.LANES_13 (R194), RO. -/
def TRAIN_STAT_LANES_13 (i : Nat) : FRef := ⟨0x1004008 + 0x10000 * i, 54, 2, 0⟩
/-- SCT.TRAIN_STAT.RESULT_14 (R194), RO. -/
def TRAIN_STAT_RESULT_14 (i : Nat) : FRef := ⟨0x1004008 + 0x10000 * i, 56, 2, 3⟩
/-- SCT.TRAIN_STAT.LANES_14 (R194), RO. -/
def TRAIN_STAT_LANES_14 (i : Nat) : FRef := ⟨0x1004008 + 0x10000 * i, 58, 2, 0⟩
/-- SCT.TRAIN_STAT.RESULT_15 (R194), RO. -/
def TRAIN_STAT_RESULT_15 (i : Nat) : FRef := ⟨0x1004008 + 0x10000 * i, 60, 2, 3⟩
/-- SCT.TRAIN_STAT.LANES_15 (R194), RO. -/
def TRAIN_STAT_LANES_15 (i : Nat) : FRef := ⟨0x1004008 + 0x10000 * i, 62, 2, 0⟩
/-- SCT.MC_EVT.CE (R194), W1C. -/
def MC_EVT_CE (i : Nat) : FRef := ⟨0x1004010 + 0x10000 * i, 0, 1, 0⟩
/-- SCT.MC_EVT.UE (R194), W1C. -/
def MC_EVT_UE (i : Nat) : FRef := ⟨0x1004010 + 0x10000 * i, 1, 1, 0⟩
/-- SCT.MC_EVT.SCRUB_UE (R194), W1C. -/
def MC_EVT_SCRUB_UE (i : Nat) : FRef := ⟨0x1004010 + 0x10000 * i, 2, 1, 0⟩
/-- SCT.MC_EVT.CHFAIL (R194), W1C. -/
def MC_EVT_CHFAIL (i : Nat) : FRef := ⟨0x1004010 + 0x10000 * i, 3, 1, 0⟩
/-- SCT.MC_EVT.REF2X_CHG (R194), W1C. -/
def MC_EVT_REF2X_CHG (i : Nat) : FRef := ⟨0x1004010 + 0x10000 * i, 4, 1, 0⟩
/-- SCT.MC_EVT.ADDR_ERR (R194), W1C. -/
def MC_EVT_ADDR_ERR (i : Nat) : FRef := ⟨0x1004010 + 0x10000 * i, 5, 1, 0⟩
/-- SCT.MC_EVT.PROT_DROP (R194), W1C. -/
def MC_EVT_PROT_DROP (i : Nat) : FRef := ⟨0x1004010 + 0x10000 * i, 6, 1, 0⟩
/-- SCT.MC_EVT.SR_HELD (R194), W1C. -/
def MC_EVT_SR_HELD (i : Nat) : FRef := ⟨0x1004010 + 0x10000 * i, 7, 1, 0⟩
/-- SCT.UE_ADDR.ADDR (R194), RO. -/
def UE_ADDR_ADDR (i : Nat) : FRef := ⟨0x1004018 + 0x10000 * i, 0, 38, 0⟩
/-- SCT.UE_ADDR.PC (R194), RO. -/
def UE_ADDR_PC (i : Nat) : FRef := ⟨0x1004018 + 0x10000 * i, 48, 4, 0⟩
/-- SCT.UE_ADDR.SOURCE (R194), RO. -/
def UE_ADDR_SOURCE (i : Nat) : FRef := ⟨0x1004018 + 0x10000 * i, 52, 4, 0⟩
/-- SCT.UE_ADDR.VALID (R194), RO. -/
def UE_ADDR_VALID (i : Nat) : FRef := ⟨0x1004018 + 0x10000 * i, 63, 1, 0⟩
/-- SCT.UE_TAG.OWNER (R194), RO. -/
def UE_TAG_OWNER (i : Nat) : FRef := ⟨0x1004020 + 0x10000 * i, 0, 32, 0⟩
/-- SCT.MC_CNT_CLR.CLR (R194), WO. -/
def MC_CNT_CLR_CLR (i : Nat) : FRef := ⟨0x1004028 + 0x10000 * i, 0, 1, 0⟩
/-- SCT.MREG.BASE_MIB (R194), RO. -/
def MREG_BASE_MIB (i j : Nat) : FRef := ⟨0x1004080 + 0x10000 * i + 0x8 * j, 0, 16, [0, 64, 112, 152, 152, 152, 152, 152].getD j 0⟩
/-- SCT.MREG.SIZE_MIB (R194), RO. -/
def MREG_SIZE_MIB (i j : Nat) : FRef := ⟨0x1004080 + 0x10000 * i + 0x8 * j, 16, 16, [64, 48, 40, 0, 0, 0, 0, 5992].getD j 0⟩
/-- SCT.LOCAL_BYTES.V (R195), RO. -/
def LOCAL_BYTES (i : Nat) : FRef := ⟨0x1004100 + 0x10000 * i, 0, 64, 0⟩
/-- SCT.LATT_BYTES.V (R195), RO. -/
def LATT_BYTES (i : Nat) : FRef := ⟨0x1004108 + 0x10000 * i, 0, 64, 0⟩
/-- SCT.REF_CNT.V (R195), RO. -/
def REF_CNT (i : Nat) : FRef := ⟨0x1004110 + 0x10000 * i, 0, 64, 0⟩
/-- SCT.RMW_CNT.V (R195), RO. -/
def RMW_CNT (i : Nat) : FRef := ⟨0x1004118 + 0x10000 * i, 0, 64, 0⟩
/-- SCT.CE_CNT.V (R195), RO. -/
def CE_CNT (i : Nat) : FRef := ⟨0x1004120 + 0x10000 * i, 0, 32, 0⟩
/-- SCT.UE_CNT.V (R195), RO. -/
def UE_CNT (i : Nat) : FRef := ⟨0x1004124 + 0x10000 * i, 0, 32, 0⟩
/-- SCT.SCRUB_CE.V (R195), RO. -/
def SCRUB_CE (i : Nat) : FRef := ⟨0x1004128 + 0x10000 * i, 0, 32, 0⟩
/-- SCT.SCRUB_UE.V (R195), RO. -/
def SCRUB_UE (i : Nat) : FRef := ⟨0x100412c + 0x10000 * i, 0, 32, 0⟩
/-- SCT.ADDR_ERR_CNT.V (R195), RO. -/
def ADDR_ERR_CNT (i : Nat) : FRef := ⟨0x1004130 + 0x10000 * i, 0, 32, 0⟩
/-- SCT.PROT_DROP_CNT.V (R195), RO. -/
def PROT_DROP_CNT (i : Nat) : FRef := ⟨0x1004134 + 0x10000 * i, 0, 32, 0⟩
/-- SCT.SR_HELD_CNT.V (R195), RO. -/
def SR_HELD_CNT (i : Nat) : FRef := ⟨0x1004138 + 0x10000 * i, 0, 32, 0⟩
/-- SCT.REF2X_MS.V (R195), RO. -/
def REF2X_MS (i : Nat) : FRef := ⟨0x100413c + 0x10000 * i, 0, 32, 0⟩
/-- SCT.CAL_W.K (R424), RW. -/
def CAL_W_K (i : Nat) : FRef := ⟨0x1004200 + 0x10000 * i, 0, 2, 0⟩
/-- SCT.CAL_W.F (R424), RW. -/
def CAL_W_F (i : Nat) : FRef := ⟨0x1004200 + 0x10000 * i, 8, 9, 0⟩
/-- TOP.LAT_CTL.MODE_REQ (R219), RW. -/
def LAT_CTL_MODE_REQ : FRef := ⟨0x4000, 0, 1, 0⟩
/-- TOP.LAT_CTL.FRAME (R219), RW. -/
def LAT_CTL_FRAME : FRef := ⟨0x4000, 4, 2, 2⟩
/-- TOP.LAT_CTL.QUIESCE_LIM (R219), RW. -/
def LAT_CTL_QUIESCE_LIM : FRef := ⟨0x4000, 8, 16, 100⟩
/-- TOP.LAT_STAT.MODE (R219), RO. -/
def LAT_STAT_MODE : FRef := ⟨0x4004, 0, 1, 0⟩
/-- TOP.LAT_STAT.SWITCHING (R219), RO. -/
def LAT_STAT_SWITCHING : FRef := ⟨0x4004, 1, 1, 0⟩
/-- TOP.LAT_STAT.QUIET (R219), RO. -/
def LAT_STAT_QUIET : FRef := ⟨0x4004, 2, 1, 1⟩
/-- TOP.NET_EVT.LAT_CE (R219), W1C. -/
def NET_EVT_LAT_CE : FRef := ⟨0x4008, 0, 1, 0⟩
/-- TOP.NET_EVT.LAT_UE (R219), W1C. -/
def NET_EVT_LAT_UE : FRef := ⟨0x4008, 1, 1, 0⟩
/-- TOP.NET_EVT.SLOT_VIOL (R219), W1C. -/
def NET_EVT_SLOT_VIOL : FRef := ⟨0x4008, 2, 1, 0⟩
/-- TOP.NET_EVT.QUIESCE_TO (R219), W1C. -/
def NET_EVT_QUIESCE_TO : FRef := ⟨0x4008, 3, 1, 0⟩
/-- TOP.NET_EVT.TAN_CE (R219), W1C. -/
def NET_EVT_TAN_CE : FRef := ⟨0x4008, 4, 1, 0⟩
/-- TOP.NET_EVT.TAN_UE (R219), W1C. -/
def NET_EVT_TAN_UE : FRef := ⟨0x4008, 5, 1, 0⟩
/-- TOP.NET_EVT.MODE_CHG (R219), W1C. -/
def NET_EVT_MODE_CHG : FRef := ⟨0x4008, 6, 1, 0⟩
/-- TOP.NET_CNT_CLR.CLR (R219), WO. -/
def NET_CNT_CLR_CLR : FRef := ⟨0x400c, 0, 1, 0⟩
/-- TOP.LAT_MCAST.MASK (R219), RW. -/
def LAT_MCAST_MASK (i j : Nat) : FRef := ⟨0x4100 + 0x20 * i + 0x4 * j, 0, 32, 0⟩
/-- TOP.TAN_MSG_CNT.V (R220), RO. -/
def TAN_MSG_CNT : FRef := ⟨0x4a00, 0, 64, 0⟩
/-- TOP.TAN_INS_WAIT_CYC.V (R220), RO. -/
def TAN_INS_WAIT_CYC : FRef := ⟨0x4a08, 0, 64, 0⟩
/-- TOP.TAN_CE_CNT.V (R220), RO. -/
def TAN_CE_CNT : FRef := ⟨0x4a10, 0, 32, 0⟩
/-- TOP.TAN_UE_CNT.V (R220), RO. -/
def TAN_UE_CNT : FRef := ⟨0x4a14, 0, 32, 0⟩
/-- TOP.LAT_SWITCH_CNT.V (R220), RO. -/
def LAT_SWITCH_CNT : FRef := ⟨0x4a18, 0, 32, 0⟩
/-- TOP.LAT_QTO_CNT.V (R220), RO. -/
def LAT_QTO_CNT : FRef := ⟨0x4a1c, 0, 32, 0⟩
/-- SYNC.OBJ_CMD.INDEX (R249), WO. -/
def OBJ_CMD_INDEX : FRef := ⟨0x500000, 0, 15, 0⟩
/-- SYNC.OBJ_CMD.MODE (R249), WO. -/
def OBJ_CMD_MODE : FRef := ⟨0x500000, 16, 2, 0⟩
/-- SYNC.OBJ_CMD.COUNT (R249), WO. -/
def OBJ_CMD_COUNT : FRef := ⟨0x500000, 32, 32, 0⟩
/-- SYNC.HOST_SIG.HANDLE (R249), WO. -/
def HOST_SIG_HANDLE : FRef := ⟨0x500008, 0, 23, 0⟩
/-- SYNC.HOST_SIG.OP (R249), WO. -/
def HOST_SIG_OP : FRef := ⟨0x500008, 24, 3, 0⟩
/-- SYNC.HOST_SIG.N (R249), WO. -/
def HOST_SIG_N : FRef := ⟨0x500008, 32, 32, 0⟩
/-- SYNC.LEND_CTL.EN (R249), RW. -/
def LEND_CTL_EN : FRef := ⟨0x500010, 0, 1, 1⟩
/-- SYNC.LEND_CTL.THR_US (R249), RW. -/
def LEND_CTL_THR_US : FRef := ⟨0x500010, 16, 10, 20⟩
/-- SYNC.SYNC_EVT.STALE (R249), W1C. -/
def SYNC_EVT_STALE : FRef := ⟨0x500018, 0, 1, 0⟩
/-- SYNC.SYNC_EVT.WAITQ_FULL (R249), W1C. -/
def SYNC_EVT_WAITQ_FULL : FRef := ⟨0x500018, 1, 1, 0⟩
/-- SYNC.SYNC_EVT.SIG_OVF (R249), W1C. -/
def SYNC_EVT_SIG_OVF : FRef := ⟨0x500018, 2, 1, 0⟩
/-- SYNC.SYNC_EVT.FREE_OP (R249), W1C. -/
def SYNC_EVT_FREE_OP : FRef := ⟨0x500018, 3, 1, 0⟩
/-- SYNC.SYNC_EVT.RECIRC (R249), W1C. -/
def SYNC_EVT_RECIRC : FRef := ⟨0x500018, 4, 1, 0⟩
/-- SYNC.SYNC_CNT_CLR.CLR (R249), WO. -/
def SYNC_CNT_CLR_CLR : FRef := ⟨0x50001c, 0, 1, 0⟩
/-- SYNC.OBJ.COUNTER (R249), RO. -/
def OBJ_COUNTER (i : Nat) : FRef := ⟨0x580000 + 0x10 * i, 0, 32, 0⟩
/-- SYNC.OBJ.GEN (R249), RO. -/
def OBJ_GEN (i : Nat) : FRef := ⟨0x580000 + 0x10 * i, 32, 8, 0⟩
/-- SYNC.OBJ.MODE (R249), RO. -/
def OBJ_MODE (i : Nat) : FRef := ⟨0x580000 + 0x10 * i, 40, 2, 0⟩
/-- SYNC.OBJ.WAITERS (R249), RO. -/
def OBJ_WAITERS (i : Nat) : FRef := ⟨0x580000 + 0x10 * i, 42, 7, 0⟩
/-- SYNC.OBJ.TARGET (R249), RO. -/
def OBJ_TARGET (i : Nat) : FRef := ⟨0x580000 + 0x10 * i, 64, 32, 0⟩
/-- SYNC.SIG_CNT.V (R250), RO. -/
def SIG_CNT : FRef := ⟨0x500100, 0, 64, 0⟩
/-- SYNC.WAIT_CNT.V (R250), RO. -/
def WAIT_CNT : FRef := ⟨0x500108, 0, 64, 0⟩
/-- SYNC.STALE_SIG.V (R250), RO. -/
def STALE_SIG : FRef := ⟨0x500110, 0, 32, 0⟩
/-- SYNC.WAITQ_FULL.V (R250), RO. -/
def WAITQ_FULL : FRef := ⟨0x500114, 0, 32, 0⟩
/-- SYNC.SIG_OVF.V (R250), RO. -/
def SIG_OVF : FRef := ⟨0x500118, 0, 32, 0⟩
/-- SYNC.FREE_OP_CNT.V (R250), RO. -/
def FREE_OP_CNT : FRef := ⟨0x50011c, 0, 32, 0⟩
/-- SYNC.RECIRC_CNT.V (R250), RO. -/
def RECIRC_CNT : FRef := ⟨0x500120, 0, 32, 0⟩
/-- SYNC.LEND_CNT.V (R250), RO. -/
def LEND_CNT : FRef := ⟨0x500124, 0, 32, 0⟩
/-- SYNC.RECLAIM_MAX.V (R250), RO. -/
def RECLAIM_MAX : FRef := ⟨0x500128, 0, 32, 0⟩
/-- SYNC.RECLAIM_SLOW_CNT.V (R250), RO. -/
def RECLAIM_SLOW_CNT : FRef := ⟨0x50012c, 0, 32, 0⟩
/-- SCT.DCH_CTL.ENABLE (R251), RW. -/
def DCH_CTL_ENABLE (i j : Nat) : FRef := ⟨0x1006000 + 0x10000 * i + 0x40 * j, 0, 1, 1⟩
/-- SCT.DCH_CTL.RESUME (R251), WO. -/
def DCH_CTL_RESUME (i j : Nat) : FRef := ⟨0x1006000 + 0x10000 * i + 0x40 * j, 1, 1, 0⟩
/-- SCT.DCH_CTL.FLUSH (R251), WO. -/
def DCH_CTL_FLUSH (i j : Nat) : FRef := ⟨0x1006000 + 0x10000 * i + 0x40 * j, 2, 1, 0⟩
/-- SCT.DCH_CTL.ABORT (R251), WO. -/
def DCH_CTL_ABORT (i j : Nat) : FRef := ⟨0x1006000 + 0x10000 * i + 0x40 * j, 3, 1, 0⟩
/-- SCT.DCH_STAT.STATE (R251), RO. -/
def DCH_STAT_STATE (i j : Nat) : FRef := ⟨0x1006004 + 0x10000 * i + 0x40 * j, 0, 3, 0⟩
/-- SCT.DCH_STAT.PEND (R251), RO. -/
def DCH_STAT_PEND (i j : Nat) : FRef := ⟨0x1006004 + 0x10000 * i + 0x40 * j, 4, 3, 0⟩
/-- SCT.DCH_STAT.ERR (R251), RO. -/
def DCH_STAT_ERR (i j : Nat) : FRef := ⟨0x1006004 + 0x10000 * i + 0x40 * j, 8, 4, 0⟩
/-- SCT.DCH_KICK.PTR (R251), WO. -/
def DCH_KICK_PTR (i j : Nat) : FRef := ⟨0x1006008 + 0x10000 * i + 0x40 * j, 0, 64, 0⟩
/-- SCT.DCH_CUR.PTR (R251), RO. -/
def DCH_CUR_PTR (i j : Nat) : FRef := ⟨0x1006010 + 0x10000 * i + 0x40 * j, 0, 64, 0⟩
/-- SCT.DCH_ERR_DESC.PTR (R251), RO. -/
def DCH_ERR_DESC_PTR (i j : Nat) : FRef := ⟨0x1006018 + 0x10000 * i + 0x40 * j, 0, 64, 0⟩
/-- SCT.DCH_ERR_INFO.LINE (R251), RO. -/
def DCH_ERR_INFO_LINE (i j : Nat) : FRef := ⟨0x1006020 + 0x10000 * i + 0x40 * j, 0, 16, 0⟩
/-- SCT.DCH_ERR_INFO.OWNER (R251), RO. -/
def DCH_ERR_INFO_OWNER (i j : Nat) : FRef := ⟨0x1006020 + 0x10000 * i + 0x40 * j, 32, 32, 0⟩
/-- SCT.DCH_BYTES.V (R251), RO. -/
def DCH_BYTES (i j : Nat) : FRef := ⟨0x1006028 + 0x10000 * i + 0x40 * j, 0, 64, 0⟩
/-- DMA.HCH_CTL.ENABLE (R251), RW. -/
def HCH_CTL_ENABLE (i : Nat) : FRef := ⟨0x601000 + 0x40 * i, 0, 1, 1⟩
/-- DMA.HCH_CTL.RESUME (R251), WO. -/
def HCH_CTL_RESUME (i : Nat) : FRef := ⟨0x601000 + 0x40 * i, 1, 1, 0⟩
/-- DMA.HCH_CTL.FLUSH (R251), WO. -/
def HCH_CTL_FLUSH (i : Nat) : FRef := ⟨0x601000 + 0x40 * i, 2, 1, 0⟩
/-- DMA.HCH_CTL.ABORT (R251), WO. -/
def HCH_CTL_ABORT (i : Nat) : FRef := ⟨0x601000 + 0x40 * i, 3, 1, 0⟩
/-- DMA.HCH_STAT.STATE (R251), RO. -/
def HCH_STAT_STATE (i : Nat) : FRef := ⟨0x601004 + 0x40 * i, 0, 3, 0⟩
/-- DMA.HCH_STAT.PEND (R251), RO. -/
def HCH_STAT_PEND (i : Nat) : FRef := ⟨0x601004 + 0x40 * i, 4, 3, 0⟩
/-- DMA.HCH_STAT.ERR (R251), RO. -/
def HCH_STAT_ERR (i : Nat) : FRef := ⟨0x601004 + 0x40 * i, 8, 4, 0⟩
/-- DMA.HCH_KICK.PTR (R251), WO. -/
def HCH_KICK_PTR (i : Nat) : FRef := ⟨0x601008 + 0x40 * i, 0, 64, 0⟩
/-- DMA.HCH_CUR.PTR (R251), RO. -/
def HCH_CUR_PTR (i : Nat) : FRef := ⟨0x601010 + 0x40 * i, 0, 64, 0⟩
/-- DMA.HCH_ERR_DESC.PTR (R251), RO. -/
def HCH_ERR_DESC_PTR (i : Nat) : FRef := ⟨0x601018 + 0x40 * i, 0, 64, 0⟩
/-- DMA.HCH_ERR_INFO.LINE (R251), RO. -/
def HCH_ERR_INFO_LINE (i : Nat) : FRef := ⟨0x601020 + 0x40 * i, 0, 16, 0⟩
/-- DMA.HCH_ERR_INFO.OWNER (R251), RO. -/
def HCH_ERR_INFO_OWNER (i : Nat) : FRef := ⟨0x601020 + 0x40 * i, 32, 32, 0⟩
/-- DMA.HCH_BYTES.V (R251), RO. -/
def HCH_BYTES (i : Nat) : FRef := ⟨0x601028 + 0x40 * i, 0, 64, 0⟩
/-- DMA.DMA_CTL.RSP_LIM (R251), RW. -/
def DMA_CTL_RSP_LIM : FRef := ⟨0x600000, 0, 16, 100⟩
/-- DMA.DMA_EVT.CH_ERR (R251), W1C. -/
def DMA_EVT_CH_ERR : FRef := ⟨0x600008, 0, 1, 0⟩
/-- DMA.DMA_EVT.RSP_LATE (R251), W1C. -/
def DMA_EVT_RSP_LATE : FRef := ⟨0x600008, 1, 1, 0⟩
/-- DMA.DMA_CNT_CLR.CLR (R251), WO. -/
def DMA_CNT_CLR_CLR : FRef := ⟨0x60000c, 0, 1, 0⟩
/-- DMA.DESC_CNT.V (R252), RO. -/
def DESC_CNT : FRef := ⟨0x600100, 0, 64, 0⟩
/-- DMA.ERR_CNT.V (R252), RO. -/
def ERR_CNT : FRef := ⟨0x600108, 0, 32, 0⟩
/-- DMA.RSP_LATE_CNT.V (R252), RO. -/
def RSP_LATE_CNT : FRef := ⟨0x60010c, 0, 32, 0⟩
/-- DMA.VAL_CNT.V (R252), RO. -/
def VAL_CNT : FRef := ⟨0x600110, 0, 32, 0⟩
/-- TOP.FAB_CFG.VX (R277), RW. -/
def FAB_CFG_VX : FRef := ⟨0x5000, 0, 4, 0⟩
/-- TOP.FAB_CFG.VY (R277), RW. -/
def FAB_CFG_VY : FRef := ⟨0x5000, 4, 4, 0⟩
/-- TOP.FAB_CFG.VZ (R277), RW. -/
def FAB_CFG_VZ : FRef := ⟨0x5000, 8, 4, 0⟩
/-- TOP.FAB_CFG.TX1 (R277), RW. -/
def FAB_CFG_TX1 : FRef := ⟨0x5000, 12, 4, 0⟩
/-- TOP.FAB_CFG.TY1 (R277), RW. -/
def FAB_CFG_TY1 : FRef := ⟨0x5000, 16, 4, 0⟩
/-- TOP.FAB_CFG.TZ1 (R277), RW. -/
def FAB_CFG_TZ1 : FRef := ⟨0x5000, 20, 4, 0⟩
/-- TOP.FAB_CFG.ROLE (R277), RW. -/
def FAB_CFG_ROLE : FRef := ⟨0x5000, 24, 1, 0⟩
/-- TOP.FAB_CFG.POD (R277), RW. -/
def FAB_CFG_POD : FRef := ⟨0x5000, 32, 12, 0⟩
/-- TOP.FAB_CFG.SAVE (R277), WO. -/
def FAB_CFG_SAVE : FRef := ⟨0x5000, 63, 1, 0⟩
/-- TOP.FAB_INWIN.BASE (R277), RW. -/
def FAB_INWIN_BASE : FRef := ⟨0x5008, 12, 26, 0⟩
/-- TOP.FAB_INWIN.SIZE (R277), RW. -/
def FAB_INWIN_SIZE : FRef := ⟨0x5008, 44, 20, 0⟩
/-- TOP.FAB_STAT.DSTATE_0 (R277), RO. -/
def FAB_STAT_DSTATE_0 : FRef := ⟨0x5010, 0, 2, 0⟩
/-- TOP.FAB_STAT.DSTATE_1 (R277), RO. -/
def FAB_STAT_DSTATE_1 : FRef := ⟨0x5010, 4, 2, 0⟩
/-- TOP.FAB_STAT.DSTATE_2 (R277), RO. -/
def FAB_STAT_DSTATE_2 : FRef := ⟨0x5010, 8, 2, 0⟩
/-- TOP.FAB_STAT.DSTATE_3 (R277), RO. -/
def FAB_STAT_DSTATE_3 : FRef := ⟨0x5010, 12, 2, 0⟩
/-- TOP.FAB_STAT.DSTATE_4 (R277), RO. -/
def FAB_STAT_DSTATE_4 : FRef := ⟨0x5010, 16, 2, 0⟩
/-- TOP.FAB_STAT.DSTATE_5 (R277), RO. -/
def FAB_STAT_DSTATE_5 : FRef := ⟨0x5010, 20, 2, 0⟩
/-- TOP.FAB_STAT.DSTATE_6 (R277), RO. -/
def FAB_STAT_DSTATE_6 : FRef := ⟨0x5010, 24, 2, 0⟩
/-- TOP.FAB_EVT.MISWIRE (R277), W1C. -/
def FAB_EVT_MISWIRE : FRef := ⟨0x5014, 0, 1, 0⟩
/-- TOP.FAB_EVT.LINK_FAIL (R277), W1C. -/
def FAB_EVT_LINK_FAIL : FRef := ⟨0x5014, 1, 1, 0⟩
/-- TOP.FAB_EVT.ADOPT (R277), W1C. -/
def FAB_EVT_ADOPT : FRef := ⟨0x5014, 2, 1, 0⟩
/-- TOP.FAB_EVT.STALE (R277), W1C. -/
def FAB_EVT_STALE : FRef := ⟨0x5014, 3, 1, 0⟩
/-- TOP.FAB_EVT.HOLDOVER (R277), W1C. -/
def FAB_EVT_HOLDOVER : FRef := ⟨0x5014, 4, 1, 0⟩
/-- TOP.FAB_EVT.MARK_LATE (R277), W1C. -/
def FAB_EVT_MARK_LATE : FRef := ⟨0x5014, 5, 1, 0⟩
/-- TOP.TC_CTL.LEAD_MIN (R277), RW. -/
def TC_CTL_LEAD_MIN : FRef := ⟨0x5020, 0, 16, 50⟩
/-- TOP.TC_CTL.SLEW_PPM (R277), RW. -/
def TC_CTL_SLEW_PPM : FRef := ⟨0x5020, 16, 8, 100⟩
/-- TOP.TC_STAT.STATE (R277), RO. -/
def TC_STAT_STATE : FRef := ⟨0x5024, 0, 2, 0⟩
/-- TOP.TC_STAT.PARENT (R277), RO. -/
def TC_STAT_PARENT : FRef := ⟨0x5024, 2, 3, 0⟩
/-- TOP.TC_STAT.DEPTH (R277), RO. -/
def TC_STAT_DEPTH : FRef := ⟨0x5024, 5, 7, 0⟩
/-- TOP.TC_STAT.PEND (R277), RO. -/
def TC_STAT_PEND : FRef := ⟨0x5024, 12, 4, 0⟩
/-- TOP.TC_STAT.OFFSET (R277), RO. -/
def TC_STAT_OFFSET : FRef := ⟨0x5024, 16, 16, 0⟩
/-- TOP.STEP_MARK.N (R277), WO. -/
def STEP_MARK_N : FRef := ⟨0x5028, 0, 48, 0⟩
/-- TOP.STEP_MARK.T (R277), WO. -/
def STEP_MARK_T : FRef := ⟨0x5028, 64, 64, 0⟩
/-- TOP.STEP_NOW.N (R277), RO. -/
def STEP_NOW_N : FRef := ⟨0x5038, 0, 48, 0⟩
/-- TOP.FAB_CNT_CLR.CLR (R278), WO. -/
def FAB_CNT_CLR_CLR : FRef := ⟨0x5040, 0, 1, 0⟩
/-- LNK.LNK_CTL.EN (R277), RW. -/
def LNK_CTL_EN (i : Nat) : FRef := ⟨0xc00000 + 0x1000 * i, 0, 1, 1⟩
/-- LNK.LNK_STAT.STATE (R277), RO. -/
def LNK_STAT_STATE (i : Nat) : FRef := ⟨0xc00004 + 0x1000 * i, 0, 4, 0⟩
/-- LNK.LNK_STAT.USE (R277), RO. -/
def LNK_STAT_USE (i : Nat) : FRef := ⟨0xc00004 + 0x1000 * i, 4, 2, 0⟩
/-- LNK.LNK_STAT.LANE_OK (R277), RO. -/
def LNK_STAT_LANE_OK (i : Nat) : FRef := ⟨0xc00004 + 0x1000 * i, 6, 4, 0⟩
/-- LNK.LNK_STAT.PLINK (R277), RO. -/
def LNK_STAT_PLINK (i : Nat) : FRef := ⟨0xc00004 + 0x1000 * i, 10, 6, 0⟩
/-- LNK.LNK_STAT.PVTX (R277), RO. -/
def LNK_STAT_PVTX (i : Nat) : FRef := ⟨0xc00004 + 0x1000 * i, 16, 12, 0⟩
/-- LNK.LNK_STAT.PSWITCH (R277), RO. -/
def LNK_STAT_PSWITCH (i : Nat) : FRef := ⟨0xc00004 + 0x1000 * i, 28, 1, 0⟩
/-- LNK.LNK_UE_LIM.LIMIT (R277), RW. -/
def LNK_UE_LIM_LIMIT (i : Nat) : FRef := ⟨0xc00008 + 0x1000 * i, 0, 8, 64⟩
/-- LNK.LNK_DELAY.DELAY (R277), RO. -/
def LNK_DELAY_DELAY (i : Nat) : FRef := ⟨0xc00010 + 0x1000 * i, 0, 24, 0⟩
/-- LNK.LNK_CNT_CLR.CLR (R278), WO. -/
def LNK_CNT_CLR_CLR (i : Nat) : FRef := ⟨0xc0001c + 0x1000 * i, 0, 1, 0⟩
/-- LNK.FLIT_TX.V (R278), RO. -/
def FLIT_TX (i : Nat) : FRef := ⟨0xc00100 + 0x1000 * i, 0, 64, 0⟩
/-- LNK.FLIT_RX.V (R278), RO. -/
def FLIT_RX (i : Nat) : FRef := ⟨0xc00108 + 0x1000 * i, 0, 64, 0⟩
/-- LNK.FEC_CORR.V (R278), RO. -/
def FEC_CORR (i : Nat) : FRef := ⟨0xc00110 + 0x1000 * i, 0, 64, 0⟩
/-- LNK.FEC_UNCORR.V (R278), RO. -/
def FEC_UNCORR (i : Nat) : FRef := ⟨0xc00118 + 0x1000 * i, 0, 32, 0⟩
/-- LNK.CRC_ERR.V (R278), RO. -/
def CRC_ERR (i : Nat) : FRef := ⟨0xc0011c + 0x1000 * i, 0, 32, 0⟩
/-- LNK.RETRY_CNT.V (R278), RO. -/
def RETRY_CNT (i : Nat) : FRef := ⟨0xc00120 + 0x1000 * i, 0, 32, 0⟩
/-- LNK.BEACON_RX.V (R278), RO. -/
def BEACON_RX (i : Nat) : FRef := ⟨0xc00124 + 0x1000 * i, 0, 32, 0⟩
/-- TOP.FAB_STALE_CNT.V (R278), RO. -/
def FAB_STALE_CNT : FRef := ⟨0x5100, 0, 32, 0⟩
/-- TOP.WNAK_CNT.V (R278), RO. -/
def WNAK_CNT : FRef := ⟨0x5104, 0, 32, 0⟩
/-- TOP.ROUTE_CNT.V (R278), RO. -/
def ROUTE_CNT : FRef := ⟨0x5108, 0, 32, 0⟩
/-- TOP.TC_STEP_CNT.V (R278), RO. -/
def TC_STEP_CNT : FRef := ⟨0x510c, 0, 32, 0⟩
/-- TOP.MARK_LATE_CNT.V (R278), RO. -/
def MARK_LATE_CNT : FRef := ⟨0x5110, 0, 32, 0⟩
/-- TOP.ADOPT_CNT.V (R278), RO. -/
def ADOPT_CNT : FRef := ⟨0x5114, 0, 32, 0⟩
/-- TOP.ID.SIREV (R317), RO. -/
def ID_SIREV : FRef := ⟨0x0, 0, 8, 176⟩
/-- TOP.ID.FAMILY (R317), RO. -/
def ID_FAMILY : FRef := ⟨0x0, 8, 8, 1⟩
/-- TOP.ID.PART (R317), RO. -/
def ID_PART : FRef := ⟨0x0, 16, 16, 402⟩
/-- TOP.STATE.STATE (R317), RO. -/
def STATE_STATE : FRef := ⟨0x4, 0, 3, 1⟩
/-- TOP.STATE.STEP (R317), RO. -/
def STATE_STEP : FRef := ⟨0x4, 4, 4, 1⟩
/-- TOP.STATE.PSTATE (R317), RO. -/
def STATE_PSTATE : FRef := ⟨0x4, 8, 3, 0⟩
/-- TOP.STATE.MODE (R317), RO. -/
def STATE_MODE : FRef := ⟨0x4, 11, 1, 0⟩
/-- TOP.HLINK.RATE (R317), RO. -/
def HLINK_RATE (i : Nat) : FRef := ⟨0x18 + 0x4 * i, 0, 3, 0⟩
/-- TOP.HLINK.WIDTH (R317), RO. -/
def HLINK_WIDTH (i : Nat) : FRef := ⟨0x18 + 0x4 * i, 3, 5, 0⟩
/-- TOP.HLINK.FLIT (R317), RO. -/
def HLINK_FLIT (i : Nat) : FRef := ⟨0x18 + 0x4 * i, 8, 1, 0⟩
/-- TOP.HEVT.CLAMP (R317), W1C. -/
def HEVT_CLAMP (i : Nat) : FRef := ⟨0x20 + 0x8 * i, 0, 1, 0⟩
/-- TOP.HEVT.RING_ERR (R317), W1C. -/
def HEVT_RING_ERR (i : Nat) : FRef := ⟨0x20 + 0x8 * i, 1, 1, 0⟩
/-- TOP.HEVT.STATE_CHG (R317), W1C. -/
def HEVT_STATE_CHG (i : Nat) : FRef := ⟨0x20 + 0x8 * i, 2, 1, 0⟩
/-- TOP.HEVT.FAULT (R317), W1C. -/
def HEVT_FAULT (i : Nat) : FRef := ⟨0x20 + 0x8 * i, 3, 1, 0⟩
/-- TOP.HEVT.THERM (R317), W1C. -/
def HEVT_THERM (i : Nat) : FRef := ⟨0x20 + 0x8 * i, 4, 1, 0⟩
/-- TOP.HEVT_EN.EN (R317), RW. -/
def HEVT_EN_EN (i : Nat) : FRef := ⟨0x24 + 0x8 * i, 0, 5, 0⟩
/-- TOP.RST_CTL.KEY (R288), WO. -/
def RST_CTL_KEY : FRef := ⟨0x30, 0, 16, 0⟩
/-- TOP.SETUP_LOCK.HOLDER (R294), RW. -/
def SETUP_LOCK_HOLDER : FRef := ⟨0x34, 0, 2, 0⟩
/-- TOP.MODE_STAT.REDUND (R483), RO. -/
def MODE_STAT_REDUND : FRef := ⟨0xc00, 0, 1, 0⟩
/-- TOP.MODE_STAT.PROFILE (R483), RO. -/
def MODE_STAT_PROFILE : FRef := ⟨0xc00, 1, 2, 1⟩
/-- TOP.MODE_STAT.PROFILE_HELD (R483), RO. -/
def MODE_STAT_PROFILE_HELD : FRef := ⟨0xc00, 3, 1, 0⟩
/-- TOP.MODE_STAT.LAT (R483), RO. -/
def MODE_STAT_LAT : FRef := ⟨0xc00, 4, 1, 0⟩
/-- TOP.MODE_STAT.ROLE (R483), RO. -/
def MODE_STAT_ROLE : FRef := ⟨0xc00, 5, 1, 0⟩
/-- TOP.MODE_STAT.SWAP (R483), RO. -/
def MODE_STAT_SWAP : FRef := ⟨0xc00, 6, 2, 0⟩
/-- TOP.MODE_STAT.TEST (R483), RO. -/
def MODE_STAT_TEST : FRef := ⟨0xc00, 8, 2, 1⟩
/-- TOP.MODE_STAT.LEND_FROZEN (R483), RO. -/
def MODE_STAT_LEND_FROZEN : FRef := ⟨0xc00, 10, 1, 0⟩
/-- TOP.MODE_STAT.REDUND_PEND (R483), RO. -/
def MODE_STAT_REDUND_PEND : FRef := ⟨0xc00, 11, 1, 0⟩
/-- TOP.ASQ_BASE.BASE (R317), RW. -/
def ASQ_BASE_BASE (i : Nat) : FRef := ⟨0x6000 + 0x100 * i, 12, 52, 0⟩
/-- TOP.ACQ_BASE.BASE (R317), RW. -/
def ACQ_BASE_BASE (i : Nat) : FRef := ⟨0x6008 + 0x100 * i, 12, 52, 0⟩
/-- TOP.AQ_CFG.SQ_LOG2 (R317), RW. -/
def AQ_CFG_SQ_LOG2 (i : Nat) : FRef := ⟨0x6010 + 0x100 * i, 0, 4, 6⟩
/-- TOP.AQ_CFG.CQ_LOG2 (R317), RW. -/
def AQ_CFG_CQ_LOG2 (i : Nat) : FRef := ⟨0x6010 + 0x100 * i, 8, 4, 6⟩
/-- TOP.AQ_CTL.EN (R317), RW. -/
def AQ_CTL_EN (i : Nat) : FRef := ⟨0x6014 + 0x100 * i, 0, 1, 0⟩
/-- TOP.AQ_STAT.RDY (R317), RO. -/
def AQ_STAT_RDY (i : Nat) : FRef := ⟨0x6018 + 0x100 * i, 0, 1, 0⟩
/-- TOP.AQ_STAT.ERR_SQ (R317), RO. -/
def AQ_STAT_ERR_SQ (i : Nat) : FRef := ⟨0x6018 + 0x100 * i, 8, 7, 127⟩
/-- TOP.HQ_CNT_CLR.CLR (R318), WO. -/
def HQ_CNT_CLR_CLR (i : Nat) : FRef := ⟨0x601c + 0x100 * i, 0, 1, 0⟩
/-- TOP.SQ_FETCH_CNT.V (R318), RO. -/
def SQ_FETCH_CNT (i : Nat) : FRef := ⟨0x6080 + 0x100 * i, 0, 64, 0⟩
/-- TOP.CQ_POST_CNT.V (R318), RO. -/
def CQ_POST_CNT (i : Nat) : FRef := ⟨0x6088 + 0x100 * i, 0, 64, 0⟩
/-- TOP.TQ_POST_CNT.V (R318), RO. -/
def TQ_POST_CNT (i : Nat) : FRef := ⟨0x6090 + 0x100 * i, 0, 64, 0⟩
/-- TOP.MSIX_CNT.V (R318), RO. -/
def MSIX_CNT (i : Nat) : FRef := ⟨0x6098 + 0x100 * i, 0, 64, 0⟩
/-- TOP.DB_ERR_CNT.V (R318), RO. -/
def DB_ERR_CNT (i : Nat) : FRef := ⟨0x60a0 + 0x100 * i, 0, 32, 0⟩
/-- TOP.CQ_HOLD_CNT.V (R318), RO. -/
def CQ_HOLD_CNT (i : Nat) : FRef := ⟨0x60a4 + 0x100 * i, 0, 32, 0⟩
/-- TOP.TQ_HOLD_CNT.V (R318), RO. -/
def TQ_HOLD_CNT (i : Nat) : FRef := ⟨0x60a8 + 0x100 * i, 0, 32, 0⟩
/-- TOP.CLAMP_HEAD.NEXT (R295), RO. -/
def CLAMP_HEAD_NEXT : FRef := ⟨0x8000, 0, 6, 0⟩
/-- TOP.CLAMP_HEAD.TOTAL (R295), RO. -/
def CLAMP_HEAD_TOTAL : FRef := ⟨0x8000, 32, 32, 0⟩
/-- TOP.CLAMP_LOG.ENTRY (R295), RO. -/
def CLAMP_LOG_ENTRY (i : Nat) : FRef := ⟨0x8100 + 0x20 * i, 0, 256, 0⟩
/-- SERVE.STEP_CFG.GUARD (R352), RW. -/
def STEP_CFG_GUARD : FRef := ⟨0x700000, 0, 8, 10⟩
/-- SERVE.STEP_CFG.PERIOD_MIN (R352), RW. -/
def STEP_CFG_PERIOD_MIN : FRef := ⟨0x700000, 16, 16, 20⟩
/-- SERVE.STEP_CFG.ORBIT_LIM (R352), RW. -/
def STEP_CFG_ORBIT_LIM : FRef := ⟨0x700000, 32, 16, 10000⟩
/-- SERVE.SHAPE.ROWS (R352), RO. -/
def SHAPE_ROWS : FRef := ⟨0x700008, 0, 7, 0⟩
/-- SERVE.SHAPE.MBATCH (R352), RO. -/
def SHAPE_MBATCH : FRef := ⟨0x700008, 8, 7, 0⟩
/-- SERVE.SHAPE.PF_ROWS (R352), RO. -/
def SHAPE_PF_ROWS : FRef := ⟨0x700008, 16, 7, 0⟩
/-- SERVE.SHAPE.VOCAB (R352), RO. -/
def SHAPE_VOCAB : FRef := ⟨0x700008, 32, 19, 0⟩
/-- SERVE.LIMITS.MAXPOS (R352), RO. -/
def LIMITS_MAXPOS : FRef := ⟨0x700010, 0, 20, 0⟩
/-- SERVE.LIMITS.SPACING (R352), RO. -/
def LIMITS_SPACING : FRef := ⟨0x700010, 32, 16, 0⟩
/-- SERVE.LIMITS.PFX_GRAN (R352), RO. -/
def LIMITS_PFX_GRAN : FRef := ⟨0x700010, 48, 16, 0⟩
/-- SERVE.SERVE_STAT.ROLE (R352), RO. -/
def SERVE_STAT_ROLE : FRef := ⟨0x700018, 0, 2, 0⟩
/-- SERVE.SERVE_STAT.SERVING (R352), RO. -/
def SERVE_STAT_SERVING : FRef := ⟨0x700018, 2, 1, 0⟩
/-- SERVE.SERVE_STAT.LIVE (R352), RO. -/
def SERVE_STAT_LIVE : FRef := ⟨0x700018, 4, 14, 0⟩
/-- SERVE.SERVE_EVT.STEP_OVERRUN (R352), W1C. -/
def SERVE_EVT_STEP_OVERRUN : FRef := ⟨0x70001c, 0, 1, 0⟩
/-- SERVE.SERVE_EVT.ORBIT_TO (R352), W1C. -/
def SERVE_EVT_ORBIT_TO : FRef := ⟨0x70001c, 1, 1, 0⟩
/-- SERVE.SERVE_EVT.STALE (R352), W1C. -/
def SERVE_EVT_STALE : FRef := ⟨0x70001c, 2, 1, 0⟩
/-- SERVE.SERVE_EVT.GRAMMAR_OVF (R352), W1C. -/
def SERVE_EVT_GRAMMAR_OVF : FRef := ⟨0x70001c, 3, 1, 0⟩
/-- SERVE.SERVE_EVT.PFX_EVICT (R352), W1C. -/
def SERVE_EVT_PFX_EVICT : FRef := ⟨0x70001c, 4, 1, 0⟩
/-- SERVE.SERVE_EVT.BUDGET_TO (R352), W1C. -/
def SERVE_EVT_BUDGET_TO : FRef := ⟨0x70001c, 5, 1, 0⟩
/-- SERVE.SERVE_CNT_CLR.CLR (R352), WO. -/
def SERVE_CNT_CLR_CLR : FRef := ⟨0x700020, 0, 1, 0⟩
/-- SERVE.FETCH_CFG.CH_A (R352), RW. -/
def FETCH_CFG_CH_A : FRef := ⟨0x700028, 0, 4, 7⟩
/-- SERVE.FETCH_CFG.CH_B (R352), RW. -/
def FETCH_CFG_CH_B : FRef := ⟨0x700028, 8, 4, 15⟩
/-- SERVE.TENANT.LEVEL (R352), RO. -/
def TENANT_LEVEL (i : Nat) : FRef := ⟨0x710000 + 0x20 * i, 0, 40, 0⟩
/-- SERVE.TENANT.LIVE (R352), RO. -/
def TENANT_LIVE (i : Nat) : FRef := ⟨0x710000 + 0x20 * i, 40, 14, 0⟩
/-- SERVE.TENANT.EN (R352), RO. -/
def TENANT_EN (i : Nat) : FRef := ⟨0x710000 + 0x20 * i, 54, 1, 0⟩
/-- SERVE.TENANT.RATE (R352), RO. -/
def TENANT_RATE (i : Nat) : FRef := ⟨0x710000 + 0x20 * i, 64, 32, 0⟩
/-- SERVE.TENANT.BURST (R352), RO. -/
def TENANT_BURST (i : Nat) : FRef := ⟨0x710000 + 0x20 * i, 96, 32, 0⟩
/-- SERVE.TENANT.PINNED (R352), RO. -/
def TENANT_PINNED (i : Nat) : FRef := ⟨0x710000 + 0x20 * i, 128, 32, 0⟩
/-- SERVE.TENANT.PFXQ (R352), RO. -/
def TENANT_PFXQ (i : Nat) : FRef := ⟨0x710000 + 0x20 * i, 160, 32, 0⟩
/-- SERVE.REQ.GEN (R352), RO. -/
def REQ_GEN (i : Nat) : FRef := ⟨0x720000 + 0x10 * i, 0, 12, 1⟩
/-- SERVE.REQ.STATE (R352), RO. -/
def REQ_STATE (i : Nat) : FRef := ⟨0x720000 + 0x10 * i, 12, 3, 0⟩
/-- SERVE.REQ.INFLIGHT (R352), RO. -/
def REQ_INFLIGHT (i : Nat) : FRef := ⟨0x720000 + 0x10 * i, 15, 1, 0⟩
/-- SERVE.REQ.TENANT (R352), RO. -/
def REQ_TENANT (i : Nat) : FRef := ⟨0x720000 + 0x10 * i, 16, 10, 0⟩
/-- SERVE.REQ.LENGTH (R352), RO. -/
def REQ_LENGTH (i : Nat) : FRef := ⟨0x720000 + 0x10 * i, 32, 20, 0⟩
/-- SERVE.REQ.DELIVERED (R352), RO. -/
def REQ_DELIVERED (i : Nat) : FRef := ⟨0x720000 + 0x10 * i, 64, 32, 0⟩
/-- SERVE.REQ.BWAIT (R352), RO. -/
def REQ_BWAIT (i : Nat) : FRef := ⟨0x720000 + 0x10 * i, 96, 32, 0⟩
/-- SERVE.STEP_CNT.V (R353), RO. -/
def STEP_CNT : FRef := ⟨0x700100, 0, 64, 0⟩
/-- SERVE.TOKEN_CNT.V (R353), RO. -/
def TOKEN_CNT : FRef := ⟨0x700108, 0, 64, 0⟩
/-- SERVE.ADMIT_CNT.V (R353), RO. -/
def ADMIT_CNT : FRef := ⟨0x700110, 0, 64, 0⟩
/-- SERVE.REJECT_CNT.V (R353), RO. -/
def REJECT_CNT : FRef := ⟨0x700118, 0, 32, 0⟩
/-- SERVE.STALE_ID_CNT.V (R353), RO. -/
def STALE_ID_CNT : FRef := ⟨0x70011c, 0, 32, 0⟩
/-- SERVE.STEP_OVERRUN_CNT.V (R353), RO. -/
def STEP_OVERRUN_CNT : FRef := ⟨0x700120, 0, 32, 0⟩
/-- SERVE.ORBIT_TO_CNT.V (R353), RO. -/
def ORBIT_TO_CNT : FRef := ⟨0x700124, 0, 32, 0⟩
/-- SERVE.DEADLINE_CNT.V (R353), RO. -/
def DEADLINE_CNT : FRef := ⟨0x700128, 0, 32, 0⟩
/-- SERVE.CANCEL_LATE_CNT.V (R353), RO. -/
def CANCEL_LATE_CNT : FRef := ⟨0x70012c, 0, 32, 0⟩
/-- SERVE.BUDGET_TO_CNT.V (R353), RO. -/
def BUDGET_TO_CNT : FRef := ⟨0x700130, 0, 32, 0⟩
/-- SERVE.GRAMMAR_OVF_CNT.V (R353), RO. -/
def GRAMMAR_OVF_CNT : FRef := ⟨0x700134, 0, 32, 0⟩
/-- SERVE.GRAMMAR_DEAD_CNT.V (R353), RO. -/
def GRAMMAR_DEAD_CNT : FRef := ⟨0x700138, 0, 32, 0⟩
/-- SERVE.PFX_EVICT_CNT.V (R353), RO. -/
def PFX_EVICT_CNT : FRef := ⟨0x70013c, 0, 32, 0⟩
/-- SERVE.NAN_LOGIT_CNT.V (R353), RO. -/
def NAN_LOGIT_CNT : FRef := ⟨0x700140, 0, 32, 0⟩
/-- WSTORE.WS_STAT.SWAP (R388), RO. -/
def WS_STAT_SWAP : FRef := ⟨0x800000, 0, 2, 0⟩
/-- WSTORE.WS_STAT.ACT_SLOT (R388), RO. -/
def WS_STAT_ACT_SLOT : FRef := ⟨0x800000, 2, 1, 0⟩
/-- WSTORE.WS_STAT.ACT_VALID (R388), RO. -/
def WS_STAT_ACT_VALID : FRef := ⟨0x800000, 3, 1, 0⟩
/-- WSTORE.SLOT.VERSION (R388), RO. -/
def SLOT_VERSION (i : Nat) : FRef := ⟨0x800010 + 0x10 * i, 0, 32, 0⟩
/-- WSTORE.SLOT.PLACE_ID (R388), RO. -/
def SLOT_PLACE_ID (i : Nat) : FRef := ⟨0x800010 + 0x10 * i, 32, 32, 0⟩
/-- WSTORE.SLOT.STATE (R388), RO. -/
def SLOT_STATE (i : Nat) : FRef := ⟨0x800010 + 0x10 * i, 64, 3, 0⟩
/-- WSTORE.SLOT.REF_VALID (R388), RO. -/
def SLOT_REF_VALID (i : Nat) : FRef := ⟨0x800010 + 0x10 * i, 67, 1, 0⟩
/-- WSTORE.SLOT.EXP_VALID (R388), RO. -/
def SLOT_EXP_VALID (i : Nat) : FRef := ⟨0x800010 + 0x10 * i, 68, 1, 0⟩
/-- WSTORE.SLOT.BOUND (R388), RO. -/
def SLOT_BOUND (i : Nat) : FRef := ⟨0x800010 + 0x10 * i, 80, 14, 0⟩
/-- WSTORE.LOAD_STAT.PHASE (R388), RO. -/
def LOAD_STAT_PHASE : FRef := ⟨0x800030, 0, 3, 0⟩
/-- WSTORE.LOAD_STAT.CHUNKS_DONE (R388), RO. -/
def LOAD_STAT_CHUNKS_DONE : FRef := ⟨0x800030, 8, 24, 0⟩
/-- WSTORE.LOAD_STAT.CHUNKS_TOTAL (R388), RO. -/
def LOAD_STAT_CHUNKS_TOTAL : FRef := ⟨0x800030, 32, 24, 0⟩
/-- WSTORE.PROG_CFG.PMAX (R388), RW. -/
def PROG_CFG_PMAX : FRef := ⟨0x800040, 0, 8, 32⟩
/-- WSTORE.PROG_CFG.VTOL (R388), RW. -/
def PROG_CFG_VTOL : FRef := ⟨0x800040, 8, 4, 2⟩
/-- WSTORE.PROG_CFG.CFB_LIM (R388), RW. -/
def PROG_CFG_CFB_LIM : FRef := ⟨0x800040, 12, 4, 8⟩
/-- WSTORE.PROG_CFG.BATCH (R388), RW. -/
def PROG_CFG_BATCH : FRef := ⟨0x800040, 16, 10, 512⟩
/-- WSTORE.REFRESH_CFG.EN (R388), RW. -/
def REFRESH_CFG_EN : FRef := ⟨0x800044, 0, 1, 1⟩
/-- WSTORE.REFRESH_CFG.MAXT (R388), RW. -/
def REFRESH_CFG_MAXT : FRef := ⟨0x800044, 1, 3, 0⟩
/-- WSTORE.REFRESH_CFG.DRIFT_THR (R388), RW. -/
def REFRESH_CFG_DRIFT_THR : FRef := ⟨0x800044, 8, 8, 8⟩
/-- WSTORE.REFRESH_CFG.AGE_DAYS (R388), RW. -/
def REFRESH_CFG_AGE_DAYS : FRef := ⟨0x800044, 16, 8, 30⟩
/-- WSTORE.SPARE_CFG.LIM_MS (R388), RW. -/
def SPARE_CFG_LIM_MS : FRef := ⟨0x800048, 0, 8, 10⟩
/-- WSTORE.WEAR_CFG.WEAR_LIM (R388), RW. -/
def WEAR_CFG_WEAR_LIM : FRef := ⟨0x80004c, 0, 16, 10000⟩
/-- WSTORE.WEAR_CFG.WEAR_WARN (R388), RW. -/
def WEAR_CFG_WEAR_WARN : FRef := ⟨0x80004c, 16, 16, 9000⟩
/-- WSTORE.HU_CAP.C_UF (R388), RW. -/
def HU_CAP_C_UF : FRef := ⟨0x800050, 0, 16, 0⟩
/-- WSTORE.HU_CAP.VMIN_MV (R388), RW. -/
def HU_CAP_VMIN_MV : FRef := ⟨0x800050, 16, 16, 8000⟩
/-- WSTORE.HU_EST.EARR_UJ (R388), RW. -/
def HU_EST_EARR_UJ : FRef := ⟨0x800058, 0, 16, 24⟩
/-- WSTORE.HU_EST.EFIX_UJ (R388), RW. -/
def HU_EST_EFIX_UJ : FRef := ⟨0x800058, 16, 16, 2000⟩
/-- WSTORE.HU_EST.ECFG_UJ (R388), RW. -/
def HU_EST_ECFG_UJ : FRef := ⟨0x800058, 32, 16, 400⟩
/-- WSTORE.HU_EST.WAIT_MS (R388), RW. -/
def HU_EST_WAIT_MS : FRef := ⟨0x800058, 48, 16, 100⟩
/-- WSTORE.HU_STAT.V_MV (R388), RO. -/
def HU_STAT_V_MV : FRef := ⟨0x800060, 0, 16, 0⟩
/-- WSTORE.HU_STAT.E_UJ (R388), RO. -/
def HU_STAT_E_UJ : FRef := ⟨0x800060, 16, 32, 0⟩
/-- WSTORE.HU_STAT.PASS (R388), RO. -/
def HU_STAT_PASS : FRef := ⟨0x800060, 48, 1, 0⟩
/-- WSTORE.KS_SEED.SEED (R388), RW. -/
def KS_SEED_SEED : FRef := ⟨0x800068, 0, 64, 0⟩
/-- WSTORE.WS_EVT.LOAD_FAIL (R388), W1C. -/
def WS_EVT_LOAD_FAIL : FRef := ⟨0x800070, 0, 1, 0⟩
/-- WSTORE.WS_EVT.TAG_FAIL (R388), W1C. -/
def WS_EVT_TAG_FAIL : FRef := ⟨0x800070, 1, 1, 0⟩
/-- WSTORE.WS_EVT.HOLDUP_REFUSE (R388), W1C. -/
def WS_EVT_HOLDUP_REFUSE : FRef := ⟨0x800070, 2, 1, 0⟩
/-- WSTORE.WS_EVT.REF_LOST (R388), W1C. -/
def WS_EVT_REF_LOST : FRef := ⟨0x800070, 3, 1, 0⟩
/-- WSTORE.WS_EVT.WEAR_WARN (R388), W1C. -/
def WS_EVT_WEAR_WARN : FRef := ⟨0x800070, 4, 1, 0⟩
/-- WSTORE.WS_EVT.WEAR_BLOCK (R388), W1C. -/
def WS_EVT_WEAR_BLOCK : FRef := ⟨0x800070, 5, 1, 0⟩
/-- WSTORE.WS_EVT.SWITCH (R388), W1C. -/
def WS_EVT_SWITCH : FRef := ⟨0x800070, 6, 1, 0⟩
/-- WSTORE.WS_EVT.SPARE_DONE (R388), W1C. -/
def WS_EVT_SPARE_DONE : FRef := ⟨0x800070, 7, 1, 0⟩
/-- WSTORE.WS_CNT_CLR.CLR (R388), WO. -/
def WS_CNT_CLR_CLR : FRef := ⟨0x800074, 0, 1, 0⟩
/-- WSTORE.REFRESH_REQ.TILE (R388), RW. -/
def REFRESH_REQ_TILE : FRef := ⟨0x800078, 0, 8, 0⟩
/-- WSTORE.REFRESH_REQ.GO (R388), WO. -/
def REFRESH_REQ_GO : FRef := ⟨0x800078, 31, 1, 0⟩
/-- WSTORE.WEAR.P0 (R387), RO. -/
def WEAR_P0 (i : Nat) : FRef := ⟨0x900000 + 0x4 * i, 0, 16, 0⟩
/-- WSTORE.WEAR.P1 (R387), RO. -/
def WEAR_P1 (i : Nat) : FRef := ⟨0x900000 + 0x4 * i, 16, 16, 0⟩
/-- WSTORE.CHUNK_CNT.V (R389), RO. -/
def CHUNK_CNT : FRef := ⟨0x800100, 0, 64, 0⟩
/-- WSTORE.PROG_PLANE_CNT.V (R389), RO. -/
def PROG_PLANE_CNT : FRef := ⟨0x800108, 0, 64, 0⟩
/-- WSTORE.PULSE_CNT.V (R389), RO. -/
def PULSE_CNT : FRef := ⟨0x800110, 0, 64, 0⟩
/-- WSTORE.LOAD_CNT.V (R389), RO. -/
def LOAD_CNT : FRef := ⟨0x800118, 0, 32, 0⟩
/-- WSTORE.LOAD_FAIL_CNT.V (R389), RO. -/
def LOAD_FAIL_CNT : FRef := ⟨0x80011c, 0, 32, 0⟩
/-- WSTORE.TAG_FAIL_CNT.V (R389), RO. -/
def TAG_FAIL_CNT : FRef := ⟨0x800120, 0, 32, 0⟩
/-- WSTORE.REFETCH_CNT.V (R389), RO. -/
def REFETCH_CNT : FRef := ⟨0x800124, 0, 32, 0⟩
/-- WSTORE.STUCK_CELL_CNT.V (R389), RO. -/
def STUCK_CELL_CNT : FRef := ⟨0x800128, 0, 32, 0⟩
/-- WSTORE.W_CLAMP_CNT.V (R389), RO. -/
def W_CLAMP_CNT : FRef := ⟨0x80012c, 0, 32, 0⟩
/-- WSTORE.DUP_REC_CNT.V (R389), RO. -/
def DUP_REC_CNT : FRef := ⟨0x800130, 0, 32, 0⟩
/-- WSTORE.HOLDUP_WAIT_CNT.V (R389), RO. -/
def HOLDUP_WAIT_CNT : FRef := ⟨0x800134, 0, 32, 0⟩
/-- WSTORE.HOLDUP_REFUSE_CNT.V (R389), RO. -/
def HOLDUP_REFUSE_CNT : FRef := ⟨0x800138, 0, 32, 0⟩
/-- WSTORE.REFRESH_CNT.V (R389), RO. -/
def REFRESH_CNT : FRef := ⟨0x80013c, 0, 32, 0⟩
/-- WSTORE.REFRESH_WAIT_CNT.V (R389), RO. -/
def REFRESH_WAIT_CNT : FRef := ⟨0x800140, 0, 32, 0⟩
/-- WSTORE.SPARE_PROG_CNT.V (R389), RO. -/
def SPARE_PROG_CNT : FRef := ⟨0x800144, 0, 32, 0⟩
/-- WSTORE.WEAR_BLOCK_CNT.V (R389), RO. -/
def WEAR_BLOCK_CNT : FRef := ⟨0x800148, 0, 32, 0⟩
/-- WSTORE.SWITCH_CNT.V (R389), RO. -/
def SWITCH_CNT : FRef := ⟨0x80014c, 0, 32, 0⟩
/-- WSTORE.REBUILD_CNT.V (R389), RO. -/
def REBUILD_CNT : FRef := ⟨0x800150, 0, 32, 0⟩
/-- PWR.PWR_STAT.PSTATE (R424), RO. -/
def PWR_STAT_PSTATE : FRef := ⟨0x100000, 0, 3, 0⟩
/-- PWR.PWR_STAT.PROFILE (R424), RO. -/
def PWR_STAT_PROFILE : FRef := ⟨0x100000, 3, 2, 1⟩
/-- PWR.PWR_STAT.LEND_FROZEN (R424), RO. -/
def PWR_STAT_LEND_FROZEN : FRef := ⟨0x100000, 5, 1, 0⟩
/-- PWR.PWR_STAT.PLL_LOCK (R424), RO. -/
def PWR_STAT_PLL_LOCK : FRef := ⟨0x100000, 6, 1, 0⟩
/-- PWR.PWR_STAT.CLK_SRC (R424), RO. -/
def PWR_STAT_CLK_SRC : FRef := ⟨0x100000, 7, 1, 0⟩
/-- PWR.PWR_STAT.TRIPPED (R424), RO. -/
def PWR_STAT_TRIPPED : FRef := ⟨0x100000, 8, 1, 0⟩
/-- PWR.PWR_STAT.STOPPED (R424), RO. -/
def PWR_STAT_STOPPED : FRef := ⟨0x100000, 9, 1, 0⟩
/-- PWR.PWR_STAT.POWER_W (R424), RO. -/
def PWR_STAT_POWER_W : FRef := ⟨0x100000, 16, 10, 0⟩
/-- PWR.BUDGET.BUDGET_W (R424), RW. -/
def BUDGET_BUDGET_W : FRef := ⟨0x100004, 0, 10, 950⟩
/-- PWR.LEND_CFG.P1_MW (R424), RW. -/
def LEND_CFG_P1_MW : FRef := ⟨0x100008, 0, 16, 150⟩
/-- PWR.LEND_CFG.LEND_MAX (R424), RW. -/
def LEND_CFG_LEND_MAX : FRef := ⟨0x100008, 16, 8, 200⟩
/-- PWR.THERM_CFG.JWARN (R424), RW. -/
def THERM_CFG_JWARN : FRef := ⟨0x100010, 0, 8, 95⟩
/-- PWR.THERM_CFG.JSTOP (R424), RW. -/
def THERM_CFG_JSTOP : FRef := ⟨0x100010, 8, 8, 102⟩
/-- PWR.THERM_CFG.SWARN (R424), RW. -/
def THERM_CFG_SWARN : FRef := ⟨0x100010, 16, 8, 88⟩
/-- PWR.THERM_CFG.SSTOP (R424), RW. -/
def THERM_CFG_SSTOP : FRef := ⟨0x100010, 24, 8, 92⟩
/-- PWR.THERM_CFG.RWARN (R424), RW. -/
def THERM_CFG_RWARN : FRef := ⟨0x100010, 32, 8, 20⟩
/-- PWR.THERM_CFG.RSTOP (R424), RW. -/
def THERM_CFG_RSTOP : FRef := ⟨0x100010, 40, 8, 50⟩
/-- PWR.THERM_CFG.STOP_LIM (R424), RW. -/
def THERM_CFG_STOP_LIM : FRef := ⟨0x100010, 48, 16, 20⟩
/-- PWR.THERM_STAT.TJ_MAX (R424), RO. -/
def THERM_STAT_TJ_MAX : FRef := ⟨0x100018, 0, 16, 0⟩
/-- PWR.THERM_STAT.TS_MAX (R424), RO. -/
def THERM_STAT_TS_MAX : FRef := ⟨0x100018, 16, 16, 0⟩
/-- PWR.THERM_STAT.RATE_MAX (R424), RO. -/
def THERM_STAT_RATE_MAX : FRef := ⟨0x100018, 32, 16, 0⟩
/-- PWR.THERM_STAT.JWARN (R424), RO. -/
def THERM_STAT_JWARN : FRef := ⟨0x100018, 48, 1, 0⟩
/-- PWR.THERM_STAT.SWARN (R424), RO. -/
def THERM_STAT_SWARN : FRef := ⟨0x100018, 49, 1, 0⟩
/-- PWR.THERM_STAT.RWARN (R424), RO. -/
def THERM_STAT_RWARN : FRef := ⟨0x100018, 50, 1, 0⟩
/-- PWR.THERM_STAT.LC_MISMATCH (R424), RO. -/
def THERM_STAT_LC_MISMATCH : FRef := ⟨0x100018, 51, 1, 0⟩
/-- PWR.THERM_STAT.LCLASS (R424), RO. -/
def THERM_STAT_LCLASS : FRef := ⟨0x100018, 52, 2, 0⟩
/-- PWR.CAL_CTL.SECTORS (R424), RW. -/
def CAL_CTL_SECTORS : FRef := ⟨0x100020, 0, 32, 0⟩
/-- PWR.CAL_CTL.POINT (R424), RW. -/
def CAL_CTL_POINT : FRef := ⟨0x100020, 32, 3, 0⟩
/-- PWR.CAL_CTL.GO (R424), WO. -/
def CAL_CTL_GO : FRef := ⟨0x100020, 35, 1, 0⟩
/-- PWR.CAL_STAT.STATE (R424), RO. -/
def CAL_STAT_STATE : FRef := ⟨0x100028, 0, 2, 0⟩
/-- PWR.CAL_STAT.RESULT (R424), RO. -/
def CAL_STAT_RESULT : FRef := ⟨0x100028, 4, 4, 0⟩
/-- PWR.CAL_STAT.SECTOR (R424), RO. -/
def CAL_STAT_SECTOR : FRef := ⟨0x100028, 8, 5, 0⟩
/-- PWR.PWR_EVT.JWARN (R424), W1C. -/
def PWR_EVT_JWARN : FRef := ⟨0x10002c, 0, 1, 0⟩
/-- PWR.PWR_EVT.SWARN (R424), W1C. -/
def PWR_EVT_SWARN : FRef := ⟨0x10002c, 1, 1, 0⟩
/-- PWR.PWR_EVT.RWARN (R424), W1C. -/
def PWR_EVT_RWARN : FRef := ⟨0x10002c, 2, 1, 0⟩
/-- PWR.PWR_EVT.STOP (R424), W1C. -/
def PWR_EVT_STOP : FRef := ⟨0x10002c, 3, 1, 0⟩
/-- PWR.PWR_EVT.OVER (R424), W1C. -/
def PWR_EVT_OVER : FRef := ⟨0x10002c, 4, 1, 0⟩
/-- PWR.PWR_EVT.DROOP (R424), W1C. -/
def PWR_EVT_DROOP : FRef := ⟨0x10002c, 5, 1, 0⟩
/-- PWR.PWR_EVT.CLK_FAIL (R424), W1C. -/
def PWR_EVT_CLK_FAIL : FRef := ⟨0x10002c, 6, 1, 0⟩
/-- PWR.PWR_EVT.LOADCLASS_MISMATCH (R424), W1C. -/
def PWR_EVT_LOADCLASS_MISMATCH : FRef := ⟨0x10002c, 7, 1, 0⟩
/-- PWR.PWR_EVT.CAL_DONE (R424), W1C. -/
def PWR_EVT_CAL_DONE : FRef := ⟨0x10002c, 8, 1, 0⟩
/-- PWR.CAL_CFG.STEP (R424), RW. -/
def CAL_CFG_STEP : FRef := ⟨0x100030, 0, 8, 8⟩
/-- PWR.PWR_CNT_CLR.CLR (R424), WO. -/
def PWR_CNT_CLR_CLR : FRef := ⟨0x100034, 0, 1, 0⟩
/-- PWR.THROTTLE_CYC.V (R425), RO. -/
def THROTTLE_CYC : FRef := ⟨0x100100, 0, 64, 0⟩
/-- PWR.DROOP_CNT.V (R425), RO. -/
def DROOP_CNT : FRef := ⟨0x100108, 0, 32, 0⟩
/-- PWR.OVER_CNT.V (R425), RO. -/
def OVER_CNT : FRef := ⟨0x10010c, 0, 32, 0⟩
/-- PWR.WARN_CNT.V (R425), RO. -/
def WARN_CNT : FRef := ⟨0x100110, 0, 32, 0⟩
/-- PWR.STOP_CNT.V (R425), RO. -/
def STOP_CNT : FRef := ⟨0x100114, 0, 32, 0⟩
/-- PWR.LC_MISMATCH_CNT.V (R425), RO. -/
def LC_MISMATCH_CNT : FRef := ⟨0x100118, 0, 32, 0⟩
/-- PWR.CAL_RUN_CNT.V (R425), RO. -/
def CAL_RUN_CNT : FRef := ⟨0x10011c, 0, 32, 0⟩
/-- PWR.PROFILE_CHG_CNT.V (R425), RO. -/
def PROFILE_CHG_CNT : FRef := ⟨0x100120, 0, 32, 0⟩
/-- HK.HK_CTL.EN (R424), RW. -/
def HK_CTL_EN : FRef := ⟨0x200000, 0, 1, 1⟩
/-- HK.HK_CTL.AVG (R424), RW. -/
def HK_CTL_AVG : FRef := ⟨0x200000, 1, 3, 6⟩
/-- HK.HK_CTL.DMA_EN (R424), RW. -/
def HK_CTL_DMA_EN : FRef := ⟨0x200000, 4, 1, 0⟩
/-- HK.BUF_BASE.ADDR (R424), RW. -/
def BUF_BASE_ADDR : FRef := ⟨0x200008, 6, 58, 0⟩
/-- HK.BUF_CFG.SPACE (R424), RW. -/
def BUF_CFG_SPACE : FRef := ⟨0x200010, 0, 2, 0⟩
/-- HK.BUF_CFG.LOG2 (R424), RW. -/
def BUF_CFG_LOG2 : FRef := ⟨0x200010, 8, 5, 10⟩
/-- HK.BUF_WP.WP (R424), RO. -/
def BUF_WP_WP : FRef := ⟨0x200014, 0, 20, 0⟩
/-- HK.BUF_RP.RP (R424), RW. -/
def BUF_RP_RP : FRef := ⟨0x200018, 0, 20, 0⟩
/-- HK.HK_STAT.VREF_PRESENT (R424), RO. -/
def HK_STAT_VREF_PRESENT : FRef := ⟨0x20001c, 0, 1, 0⟩
/-- HK.DROOP_CTL.CH (R424), RW. -/
def DROOP_CTL_CH : FRef := ⟨0x200020, 0, 6, 40⟩
/-- HK.DROOP_CTL.ARM (R424), W1S. -/
def DROOP_CTL_ARM : FRef := ⟨0x200020, 6, 1, 0⟩
/-- HK.DROOP_CTL.FORCE (R424), WO. -/
def DROOP_CTL_FORCE : FRef := ⟨0x200020, 7, 1, 0⟩
/-- HK.DROOP_CTL.SECTOR (R424), RW. -/
def DROOP_CTL_SECTOR : FRef := ⟨0x200020, 8, 5, 0⟩
/-- HK.DROOP_CTL.TRIG_ANY (R424), RW. -/
def DROOP_CTL_TRIG_ANY : FRef := ⟨0x200020, 13, 1, 0⟩
/-- HK.DROOP_CTL.LEN (R424), RW. -/
def DROOP_CTL_LEN : FRef := ⟨0x200020, 16, 12, 0⟩
/-- HK.DROOP_CTL.PRE (R424), RW. -/
def DROOP_CTL_PRE : FRef := ⟨0x200020, 28, 4, 0⟩
/-- HK.HU_DIV.RATIO (R424), RW. -/
def HU_DIV_RATIO : FRef := ⟨0x200024, 0, 16, 10000⟩
/-- HK.GCORR.GCORR (R424), RO. -/
def GCORR_GCORR : FRef := ⟨0x200028, 0, 16, 0⟩
/-- HK.HK_CNT_CLR.CLR (R424), WO. -/
def HK_CNT_CLR_CLR : FRef := ⟨0x200034, 0, 1, 0⟩
/-- HK.VAL.V (R424), RO. -/
def VAL (i : Nat) : FRef := ⟨0x200100 + 0x4 * i, 0, 32, 0⟩
/-- HK.ROUND_CNT.V (R425), RO. -/
def ROUND_CNT : FRef := ⟨0x200200, 0, 64, 0⟩
/-- HK.HK_DROP_CNT.V (R425), RO. -/
def HK_DROP_CNT : FRef := ⟨0x200208, 0, 32, 0⟩
/-- HK.CAPTURE_CNT.V (R425), RO. -/
def CAPTURE_CNT : FRef := ⟨0x20020c, 0, 32, 0⟩
/-- TOP.FLT_CTL.TEST (R454), RW. -/
def FLT_CTL_TEST : FRef := ⟨0xa000, 0, 2, 1⟩
/-- TOP.FLT_CTL.REDUND (R454), RW. -/
def FLT_CTL_REDUND : FRef := ⟨0xa000, 2, 1, 0⟩
/-- TOP.FLT_CTL.KS_LOG (R454), RW. -/
def FLT_CTL_KS_LOG : FRef := ⟨0xa000, 4, 4, 12⟩
/-- TOP.FLT_CTL.DUAL_TOL (R454), RW. -/
def FLT_CTL_DUAL_TOL : FRef := ⟨0xa000, 8, 4, 3⟩
/-- TOP.FLT_CTL.NET_UE_LIM (R454), RW. -/
def FLT_CTL_NET_UE_LIM : FRef := ⟨0xa000, 12, 4, 4⟩
/-- TOP.FLT_CTL.EBA_LIM (R454), RW. -/
def FLT_CTL_EBA_LIM : FRef := ⟨0xa000, 16, 16, 10000⟩
/-- TOP.FLT_KS.KS_TOL (R454), RW. -/
def FLT_KS_KS_TOL : FRef := ⟨0xa004, 0, 16, 64⟩
/-- TOP.FLT_KS.FLEET_PERIOD (R454), RW. -/
def FLT_KS_FLEET_PERIOD : FRef := ⟨0xa004, 16, 16, 60⟩
/-- TOP.FLT_STAT.QDEPTH (R454), RO. -/
def FLT_STAT_QDEPTH : FRef := ⟨0xa008, 0, 5, 0⟩
/-- TOP.FLT_STAT.DECIDING (R454), RO. -/
def FLT_STAT_DECIDING : FRef := ⟨0xa008, 5, 1, 0⟩
/-- TOP.FLT_STAT.REDUND (R454), RO. -/
def FLT_STAT_REDUND : FRef := ⟨0xa008, 6, 1, 0⟩
/-- TOP.FLT_STAT.PKG_VALID (R454), RO. -/
def FLT_STAT_PKG_VALID : FRef := ⟨0xa008, 7, 1, 0⟩
/-- TOP.FLT_STAT.BUSY_CNT (R454), RO. -/
def FLT_STAT_BUSY_CNT : FRef := ⟨0xa008, 8, 8, 0⟩
/-- TOP.FLT_CAUSE.CAUSE (R454), RO. -/
def FLT_CAUSE_CAUSE : FRef := ⟨0xa00c, 0, 8, 0⟩
/-- TOP.FLT_CAUSE.SITE (R454), RO. -/
def FLT_CAUSE_SITE : FRef := ⟨0xa00c, 8, 9, 511⟩
/-- TOP.FLT_CAUSE.VALID (R454), RO. -/
def FLT_CAUSE_VALID : FRef := ⟨0xa00c, 31, 1, 0⟩
/-- TOP.FLT_EVT.FENCE (R454), W1C. -/
def FLT_EVT_FENCE : FRef := ⟨0xa010, 0, 1, 0⟩
/-- TOP.FLT_EVT.COL_REPAIR (R454), W1C. -/
def FLT_EVT_COL_REPAIR : FRef := ⟨0xa010, 1, 1, 0⟩
/-- TOP.FLT_EVT.KS_FAIL (R454), W1C. -/
def FLT_EVT_KS_FAIL : FRef := ⟨0xa010, 2, 1, 0⟩
/-- TOP.FLT_EVT.DRIFT (R454), W1C. -/
def FLT_EVT_DRIFT : FRef := ⟨0xa010, 3, 1, 0⟩
/-- TOP.FLT_EVT.STALL (R454), W1C. -/
def FLT_EVT_STALL : FRef := ⟨0xa010, 4, 1, 0⟩
/-- TOP.FLT_EVT.DUAL (R454), W1C. -/
def FLT_EVT_DUAL : FRef := ⟨0xa010, 5, 1, 0⟩
/-- TOP.FLT_EVT.TMR_CORR (R454), W1C. -/
def FLT_EVT_TMR_CORR : FRef := ⟨0xa010, 6, 1, 0⟩
/-- TOP.FLT_LOG_HEAD.NEXT (R454), RO. -/
def FLT_LOG_HEAD_NEXT : FRef := ⟨0xa014, 0, 16, 0⟩
/-- TOP.POWERED_S.S (R454), RO. -/
def POWERED_S_S : FRef := ⟨0xa018, 0, 32, 0⟩
/-- TOP.FLT_CNT_CLR.CLR (R454), WO. -/
def FLT_CNT_CLR_CLR : FRef := ⟨0xa01c, 0, 1, 0⟩
/-- TOP.FLT_PKG.PKG_ID (R454), RO. -/
def FLT_PKG_PKG_ID : FRef := ⟨0xa020, 0, 32, 0⟩
/-- TOP.FLT_PKG.PKG_VER (R454), RO. -/
def FLT_PKG_PKG_VER : FRef := ⟨0xa020, 32, 32, 0⟩
/-- TOP.EVT_CNT.V (R455), RO. -/
def EVT_CNT : FRef := ⟨0xa100, 0, 64, 0⟩
/-- TOP.KS_TEST_CNT.V (R455), RO. -/
def KS_TEST_CNT : FRef := ⟨0xa108, 0, 64, 0⟩
/-- TOP.KS_FAIL_CNT.V (R455), RO. -/
def KS_FAIL_CNT : FRef := ⟨0xa110, 0, 32, 0⟩
/-- TOP.KS_UNCONF_CNT.V (R455), RO. -/
def KS_UNCONF_CNT : FRef := ⟨0xa114, 0, 32, 0⟩
/-- TOP.COL_REPAIR_CNT.V (R455), RO. -/
def COL_REPAIR_CNT : FRef := ⟨0xa118, 0, 32, 0⟩
/-- TOP.FENCE_CNT.V (R455), RO. -/
def FENCE_CNT : FRef := ⟨0xa11c, 0, 32, 0⟩
/-- TOP.FLUSH_CNT.V (R455), RO. -/
def FLUSH_CNT : FRef := ⟨0xa120, 0, 32, 0⟩
/-- TOP.MERGE_CNT.V (R455), RO. -/
def MERGE_CNT : FRef := ⟨0xa124, 0, 32, 0⟩
/-- TOP.DRIFT_CNT.V (R455), RO. -/
def DRIFT_CNT : FRef := ⟨0xa128, 0, 32, 0⟩
/-- TOP.DUAL_MISMATCH_CNT.V (R455), RO. -/
def DUAL_MISMATCH_CNT : FRef := ⟨0xa12c, 0, 32, 0⟩
/-- TOP.TMR_CORR_CNT.V (R455), RO. -/
def TMR_CORR_CNT : FRef := ⟨0xa130, 0, 32, 0⟩
/-- TOP.PARITY_CNT.V (R455), RO. -/
def PARITY_CNT : FRef := ⟨0xa134, 0, 32, 0⟩
/-- TOP.REC_RESET_CNT.V (R455), RO. -/
def REC_RESET_CNT : FRef := ⟨0xa138, 0, 32, 0⟩
/-- SECU.SECU_STAT.IMAGE (R477), RO. -/
def SECU_STAT_IMAGE : FRef := ⟨0x300000, 0, 1, 0⟩
/-- SECU.SECU_STAT.FALLBACK (R477), RO. -/
def SECU_STAT_FALLBACK : FRef := ⟨0x300000, 1, 1, 0⟩
/-- SECU.SECU_STAT.DEBUG (R477), RO. -/
def SECU_STAT_DEBUG : FRef := ⟨0x300000, 2, 1, 0⟩
/-- SECU.SECU_STAT.ID_OK (R477), RO. -/
def SECU_STAT_ID_OK : FRef := ⟨0x300000, 3, 1, 0⟩
/-- SECU.SECU_STAT.RNG_OK (R477), RO. -/
def SECU_STAT_RNG_OK : FRef := ⟨0x300000, 4, 1, 0⟩
/-- SECU.SECU_STAT.KEYS (R477), RO. -/
def SECU_STAT_KEYS : FRef := ⟨0x300000, 8, 4, 0⟩
/-- SECU.SVN.COUNTER (R477), RO. -/
def SVN_COUNTER : FRef := ⟨0x300004, 0, 32, 0⟩
/-- SECU.SECU_EVT.FALLBACK (R477), W1C. -/
def SECU_EVT_FALLBACK : FRef := ⟨0x300008, 0, 1, 0⟩
/-- SECU.SECU_EVT.RNG_FAIL (R477), W1C. -/
def SECU_EVT_RNG_FAIL : FRef := ⟨0x300008, 1, 1, 0⟩
/-- SECU.SECU_EVT.ENROL (R477), W1C. -/
def SECU_EVT_ENROL : FRef := ⟨0x300008, 2, 1, 0⟩
/-- SECU.SECU_EVT.DENIED (R477), W1C. -/
def SECU_EVT_DENIED : FRef := ⟨0x300008, 3, 1, 0⟩
/-- SECU.SECU_EVT.ZEROISE (R477), W1C. -/
def SECU_EVT_ZEROISE : FRef := ⟨0x300008, 4, 1, 0⟩
/-- SECU.SECU_EVT.DEBUG (R477), W1C. -/
def SECU_EVT_DEBUG : FRef := ⟨0x300008, 5, 1, 0⟩
/-- SECU.SECU_CNT_CLR.CLR (R477), WO. -/
def SECU_CNT_CLR_CLR : FRef := ⟨0x30000c, 0, 1, 0⟩
/-- SECU.REPORT_CNT.V (R478), RO. -/
def REPORT_CNT : FRef := ⟨0x300100, 0, 32, 0⟩
/-- SECU.MSG_CNT.V (R478), RO. -/
def MSG_CNT : FRef := ⟨0x300104, 0, 32, 0⟩
/-- SECU.DENIED_CNT.V (R478), RO. -/
def DENIED_CNT : FRef := ⟨0x300108, 0, 32, 0⟩
/-- SECU.ZEROISE_CNT.V (R478), RO. -/
def ZEROISE_CNT : FRef := ⟨0x30010c, 0, 32, 0⟩
/-- SECU.RNG_FAIL_CNT.V (R478), RO. -/
def RNG_FAIL_CNT : FRef := ⟨0x300110, 0, 32, 0⟩
/-- MGMT.MGMT_STAT.DADDR (R477), RO. -/
def MGMT_STAT_DADDR : FRef := ⟨0x400000, 0, 7, 0⟩
/-- MGMT.MGMT_STAT.EID (R477), RO. -/
def MGMT_STAT_EID : FRef := ⟨0x400000, 8, 8, 0⟩
/-- MGMT.MGMT_STAT.UPDATE (R477), RO. -/
def MGMT_STAT_UPDATE : FRef := ⟨0x400000, 16, 1, 0⟩
/-- MGMT.MGMT_CNT_CLR.CLR (R477), WO. -/
def MGMT_CNT_CLR_CLR : FRef := ⟨0x400008, 0, 1, 0⟩
/-- MGMT.MCTP_RX_CNT.V (R478), RO. -/
def MCTP_RX_CNT : FRef := ⟨0x400100, 0, 32, 0⟩
/-- MGMT.MCTP_DROP_CNT.V (R478), RO. -/
def MCTP_DROP_CNT : FRef := ⟨0x400104, 0, 32, 0⟩
/-- MGMT.EVT_DROP_CNT.V (R478), RO. -/
def EVT_DROP_CNT : FRef := ⟨0x400108, 0, 32, 0⟩

end Sys2Proof.Machine.R
end

