-- ==== Sys2Proof/Machine/State.lean ====
section
/-! DEFINITION. The state of the part as plain data: everything the spec gives it beside the queue of waiting commands, and that queue. -/

namespace Sys2Proof.Machine

open Sys2Proof

/-- States of the vector core (Table 3-5, R112). -/
inductive VcState where
  | halt | run | issueStall | wait | fault
deriving DecidableEq, Repr

/-- Power states of a scratchpad bank (R102). -/
inductive BankPower where
  | on | ret | waking | entering
deriving DecidableEq, Repr

/-- What a queue entry asks for, with the register values it read at issue (R125, R138 to R143). -/
inductive QOp where
  | rquQv (desc ca ea oa src step nb : Nat)
  | arrMvm (desc ca ea oa mask blk : Nat) (plane : Bool) (gmax fmt nm2 ocap efb dcol : Nat)
  | ebaOpen (desc out exps sig ob nob count nbv : Nat) (cs : Bool)
  | tuMma (x y c m k n fx fy fc : Nat) (acc eba : Bool) (rnd : Nat) (ieee : Bool)
  | dmaKick (ptr ch : Nat)
  | signal (h : Handle) (n : BitVec 32)
  | reset (h : Handle) (n : BitVec 32)
  | wait (h : Handle) (n : BitVec 32)
  | acquire (h : Handle) (n : BitVec 32)
  | spOwn (bank owner : Nat)
deriving DecidableEq, Repr

/-- An entry of an issue queue: the address of its instruction, its place in program order and what it asks for. -/
structure QEntry where
  pc : Nat
  ord : Nat
  op : QOp
deriving DecidableEq, Repr

/-- What holds the head of a queue (R90, R138, R140, R99): nothing; a WAIT or ACQUIRE sent at `since`, whether R92 has been raised for it, and when a REFUSE came; a unit instruction that has left but is not complete; an SP.OWN whose change has not taken effect. -/
inductive Head where
  | free
  | waiting (since : Nat) (raised : Bool) (refused : Option Nat)
  | busy (e : QEntry)
  | own (bank : Nat)
deriving DecidableEq, Repr

/-- An issue queue (R89). -/
structure Queue where
  /-- Entries not yet left, oldest first, at most the depth of Table 3-2; R89; reset empty. -/
  ents : List QEntry
  /-- What holds the head; R90; reset free. -/
  head : Head
deriving DecidableEq, Repr

/-- Why issue is blocked (R89, R103). -/
inductive Stall where
  | queue (q : Nat) (e : QEntry)
  | bank (b : Nat)
deriving DecidableEq, Repr

/-- What an in-line instruction waits for (R142): a synchronisation object, or an ownership change. -/
inductive InWait where
  | obj (acq : Bool) (h : Handle) (n : BitVec 32) (refused : Option Nat)
  | own (bank : Nat)
deriving DecidableEq, Repr

/-- A requested change of a bank's owner: when it executed, its rank under R100, the new owner, the queue it came from. -/
structure OwnChg where
  time : Nat
  rank : Nat
  owner : Nat
deriving DecidableEq, Repr

/-- A scratchpad bank (R102, R103). -/
structure Bank where
  /-- Power state, 2 bits; R102; reset ON. -/
  pst : BankPower
  /-- The tick at which a wake completes, 64 bits; R102; reset 0. -/
  wakeAt : Nat
  /-- The tick of the last access, 64 bits; R103; reset 0. -/
  last : Nat
  /-- Ownership changes executed and not yet in effect; R99, R100; reset none. -/
  chg : List OwnChg
  /-- Its SPRET bit was set while it was WAKING: it goes on to retention when the wake ends, 1 bit; R102; reset 0. -/
  again : Bool
deriving DecidableEq, Repr

/-- The effective fields of a quantisation record (Table 2-4, R60) and whether a reserved value was replaced. -/
structure QRec where
  srcFmt : Nat
  trn : Bool
  n : Nat
  rot : Bool
  rms : Bool
  ocap : Nat
  efb : Nat
  nfZero : Bool
  fixed : Bool
  outBf16 : Bool
  krms : Nat
  seed : BitVec 32
  anchor : Int
  fix : Bool
deriving DecidableEq, Repr

/-- An RQU.QV in progress (R138). -/
structure RquRun where
  /-- The entry; R138; reset none. -/
  e : QEntry
  /-- The effective record, read at acceptance; R60; reset none. -/
  qr : QRec
  /-- Blocks done; R59; reset 0. -/
  blk : Nat
deriving DecidableEq, Repr

/-- A TU.MMA in progress (R105 to R110). -/
structure TuRun where
  /-- The entry; R141; reset none. -/
  e : QEntry
  /-- Result bytes still to be written, each with its scratchpad address; R105; reset none. -/
  out : List (Nat × List Byte)
  /-- FP32 partials still to be taken by the EBA, each with its element; R105, R110; reset none. -/
  parts : List (Nat × BitVec 32)
deriving DecidableEq, Repr

/-- A row group of a bit plane (R24): active rows in rising order, the plane p, whether it is an outlier plane, whether it is the most significant of its vector; the empty planes that the detector counts on its way to the group, and whether the group is the first of a plane it divides (R23). -/
structure Grp where
  rows : List Nat
  p : Nat
  outl : Bool
  top : Bool
  empt : Nat
  split : Bool
deriving DecidableEq, Repr

/-- A test of the fault engine (R434, R439, R441): the fleet record it comes from, the known-sum vector, or the codes of a reference-row test, the physical plane, the GMAX code, the deviations of V1 when it is the second half of a KSPAIR, and the columns that failed when it is the repeat. -/
structure TestOp where
  fleet : Option Nat
  v : Nat
  codes : Option (List Int)
  plane : Bool
  gmax : Nat
  firstHalf : Option (List Int)
  rep : Option (List Nat)
  since : Nat
deriving DecidableEq, Repr

/-- The result of a test that the fault engine has still to judge (R436): sums of the 512 data columns, 8 spare columns and 4 checksum columns in LSB of their own, the columns of them with a code at a limit, lsb_units. -/
structure TestRes where
  op : TestOp
  w : List Int
  lim : List Bool
  lsb : Nat
deriving DecidableEq, Repr

/-- An array operation on one array (R30 to R38), with the values it latched at LOAD. Its column lists hold the 512 data columns, the 8 spare columns and the 4 checksum columns. -/
structure ArrOp where
  /-- Number of the array operation that named this array; R31. -/
  id : Nat
  /-- The test it is, if it is one; R44, R435. -/
  test : Option TestOp
  /-- Element rotation DCOL; R139. -/
  dcol : Nat
  /-- Block exponent byte E8; R74. -/
  e8 : Nat
  /-- Weight plane; R18. -/
  plane : Bool
  /-- Weight code of the plane; R16. -/
  wcode : Nat
  /-- REDUCED gain in force; R25, R27. -/
  reduced : Bool
  /-- ASEQ_CTL.RERUN_EN latched at LOAD; R47. -/
  rerun : Bool
  /-- ASEQ_CTL.CHK_EN latched at LOAD; R47. -/
  chk : Bool
  /-- ASEQ_CTL.CHKTOL latched at LOAD; R47. -/
  tol : Nat
  /-- Spare remap entries latched at LOAD, data column of each spare; R39. -/
  spares : List (Option Nat)
  /-- Row groups still to convert; R24. -/
  plan : List Grp
  /-- Empty bit planes after the last group; R23. -/
  tail : Nat
  /-- Gain trim and column offset trims in force; R28. -/
  gtrim : Nat
  otrim : Sparse Int
  /-- Codes of the conversion that is being re-run, and of its first half; R33. -/
  orig : Option (List Int)
  half : Option (List Int)
  /-- Columns that have shown a code at a limit; R441. -/
  lim : List Bool
  /-- Narrow adders, 16 bits; R37. -/
  narrow : List Int
  /-- Weight bound of the run; R37. -/
  m : Nat
  /-- Partials in the run; R37. -/
  parts : Nat
  /-- Last plane of the run; R37. -/
  pLast : Option Nat
  /-- Whether the run belongs to the outlier vector; R37. -/
  vecOut : Bool
  /-- Wide accumulators, 32 bits; R38. -/
  wide : List Int
deriving DecidableEq, Repr

/-- States of an array controller (Table 1-10, R45). -/
inductive ArrState where
  | idle | load | conv | rerun | drain | prog | test | halt
deriving DecidableEq, Repr

/-- The edge output buffer of an array (R85, R87): operation, DCOL, exponent byte, 512 partials. -/
structure EdgeBuf where
  id : Nat
  dcol : Nat
  e8 : Nat
  w : List Int
deriving DecidableEq, Repr

/-- The row a column group is working on (R374): row, 132 when done, pulses given, whether a pulse comes next, the carry of each of the group's columns in 1/128 of a level step. -/
structure ProgGrp where
  row : Nat
  pulses : Nat
  pulse : Bool
  carry : Sparse Int
deriving DecidableEq, Repr

/-- Programming in progress on one array (R373, R374): physical plane, weight code, the 65,536 weights two to a byte, the single spare column of an in-place repair, the four groups. -/
structure ProgRun where
  plane : Bool
  code : Nat
  gain : Nat
  weights : List Byte
  only : Option Nat
  grps : List ProgGrp
  /-- Stuck columns found. -/
  stuck : List Nat
  /-- The group whose turn the next slot is (R374). -/
  turn : Nat
deriving DecidableEq, Repr

/-- An array controller with its adders and edge output buffer. -/
structure ArrCtl where
  /-- Controller state, 4 bits; R45; reset IDLE. -/
  st : ArrState
  /-- The operation in progress; R30; reset none. -/
  op : Option ArrOp
  /-- The next operation, when its LOAD and COUNT have overlapped the conversions of the one in progress; R30; reset none. -/
  nxt : Option ArrOp
  /-- The tick of the latest LOAD, and the tick at which a programming slot ends, 64 bits each; R30, R20; reset 0. -/
  loadAt : Nat
  slotEnd : Nat
  /-- The edge output buffer; R85; reset empty. -/
  edge : Option EdgeBuf
  /-- Operations since the last programming slot while one was pending; R20; reset 0. -/
  share : Nat
  /-- Plane selected by the most recent operation, 1 bit; R48; reset 0. -/
  last : Bool
  /-- Column offset trims in force, 6 bits each; R28, R48; reset 0 (DESIGN CHOICE, log entry 3). -/
  otrim : Sparse Int
  /-- Operations completed since the last known-sum test; R434; reset 0. -/
  ksCnt : Nat
  /-- Next test vector, 4 bits; R434; reset 0. -/
  ksVec : Nat
  /-- Physical plane tested last, 1 bit; R434; reset 0. -/
  ksPlane : Bool
  /-- Tests to run as next operations, first one first; R436, R439, R441; reset none. -/
  due : List TestOp
  /-- A completed test not yet judged; R436; reset none. -/
  res : Option TestRes
  /-- The tick of the last out-of-turn test; R439; reset none. -/
  ootAt : Option Nat
  /-- The programming in progress on the array; R374; reset none. -/
  prog : Option ProgRun
  /-- Operations completed since reset, the model's own, by which a due test in SCHEDULED mode tells how long it has waited; R481; reset 0. -/
  ops : Nat
deriving DecidableEq, Repr

/-- An output block of the EBA (R75, R78). -/
structure Blk where
  /-- OPEN; R78; reset CLOSED. -/
  opn : Bool
  /-- Anchor A, 9 bits signed; R77; reset 0. -/
  anchor : Int
  /-- Expected partial count, 16 bits; R78; reset 0. -/
  count : Nat
  /-- The accumulation that opened it; R78; reset 0. -/
  acc : Nat
  /-- Registers S of its 128 elements, 96 bits; R75; reset 0. -/
  s : Sparse Int
  /-- Partials received by each element, 16 bits; R78; reset 0. -/
  got : Sparse Nat
  /-- Elements marked non-finite; R74; reset none. -/
  nonfin : Sparse Bool
  /-- The tick at which it opened; R78, R446; reset 0. -/
  since : Nat
deriving DecidableEq, Repr

/-- An opened accumulation (R88, R140). -/
structure Accum where
  /-- Its number; R88. -/
  id : Nat
  /-- Address of its EBA.OPEN and its place in program order; R88. -/
  pc : Nat
  ord : Nat
  /-- Output address; R140. -/
  out : Nat
  /-- OUTFMT is BF16; R79. -/
  bf16 : Bool
  /-- First output block; R140. -/
  ob : Nat
  /-- Blocks not yet written; R88. -/
  left : Nat
  /-- Completion signal, when CS is 1; R88. -/
  sig : Option (Handle × BitVec 32)
  /-- A word was dropped; R88. -/
  dropped : Bool
  /-- FP16 weight scales of its elements in the edge scale buffer; R86. -/
  scales : List (BitVec 16)
deriving DecidableEq, Repr

/-- A closed block waiting in the edge writeback (R88): its accumulation, its block number, its converted elements, and whether it still waits for its comparison under DUAL (R448). -/
structure WbBlk where
  acc : Nat
  ob : Nat
  vals : List Nat
  held : Bool
deriving DecidableEq, Repr

/-- One tile (Table 3-1). -/
structure Tile where
  /-- Vector core state, 3 bits; R112; reset HALT. -/
  vc : VcState
  /-- PC, byte address of the next instruction, 21 bits; R120; reset 0. -/
  pc : Nat
  /-- s0-s31, 64 bits each; R120; reset 0 (R121). -/
  sr : Sparse Word64
  /-- v0-v31, 1,024 bits each; R120; reset 0 (R121). -/
  vr : Sparse (BitVec 1024)
  /-- X-tags of v0-v31, 64 bits each; R120; reset 0 (R121). -/
  xt : Sparse (BitVec 64)
  /-- m0-m7, 512 bits each; R120; reset 0 (R121). -/
  mr : Sparse (BitVec 512)
  /-- VFLAGS, 5 bits; R148; reset 0 (R121). -/
  vflags : BitVec 5
  /-- Instructions issued, the place in program order; R148; reset 0. -/
  ord : Nat
  /-- The tick and the place in program order of the exception VC_STAT holds; R148; reset none. -/
  faultAt : Option (Nat × Nat)
  /-- What ISSUE_STALL waits for; R112; reset none. -/
  stall : Option Stall
  /-- What an in-line instruction waits for; R142; reset none. -/
  inwait : Option InWait
  /-- ARR queue, depth 32; R89; reset empty. -/
  qArr : Queue
  /-- TU queue, depth 16; R89; reset empty. -/
  qTu : Queue
  /-- DMA queue, depth 16; R89; reset empty. -/
  qDma : Queue
  /-- SYNC queue, depth 16; R89; reset empty. -/
  qSync : Queue
  /-- The eight banks; R93; reset ON, no change pending. -/
  banks : Sparse Bank
  /-- Words written through write port 0 in the tick `wTick`; R98; reset none. -/
  w0 : List Nat
  /-- Words written through write port 1 in that tick, with what they held, the unit and the number of writes; R98; reset none. -/
  w1 : List (Nat × List Byte × Nat × Nat)
  /-- The tick of those writes; R98; reset 0. -/
  wTick : Nat
  /-- The RQU's instruction; R138; reset none. -/
  rqu : Option RquRun
  /-- The tensor unit's instruction; R105; reset none. -/
  tu : Option TuRun
  /-- The 64 array controllers; R45; reset IDLE. -/
  arr : Sparse ArrCtl
  /-- Array operations accepted and not complete: number and arrays outstanding; R89; reset none. -/
  live : List (Nat × Nat)
  /-- The number the next array operation or accumulation takes; R31; reset 0. -/
  seq : Nat
  /-- The 32 EBA output blocks; R75; reset CLOSED. -/
  blks : Sparse Blk
  /-- Accumulations opened and not yet fully written; R88; reset none. -/
  accs : List Accum
  /-- Closed blocks in the edge writeback, oldest first; R88; reset none. -/
  wbq : List WbBlk
  /-- Pointer of the EBA's round-robin over 66 sources, 7 bits; R87; reset 0. -/
  rr : Nat
  /-- Tile power state P0, P1 or P2, 2 bits; R233, R397; reset P0. -/
  pstate : Nat
  /-- Fenced; R114; reset 0. -/
  fenced : Bool
  /-- The tick since which the tile has been parked; R233; reset none. -/
  parked : Option Nat
  /-- The tick at which a reclaim began; R234; reset none. -/
  reclaim : Option Nat
  /-- The vector core is to start or resume when the reclaim ends; R234; reset 0. -/
  vcResume : Bool
  /-- The tile clock is stopped; R396, R417; reset 0. -/
  clkOff : Bool
  /-- Blocks that FAIL left unquantised, by code area and block number; R72; reset none. -/
  unq : List (Nat × Nat)
  /-- Partial packets in the ejection buffer of the LOCAL port, oldest first: whether FP32, and the packet; R87, R203; reset none. -/
  ej : List (Bool × LatPkt)
  /-- Energies of the events of the last microsecond, in pJ, with their ticks, latest first; R404; reset none. -/
  energy : List (Nat × Nat)
deriving DecidableEq, Repr

/-- A queue at reset (R89). -/
def Queue.init : Queue := ⟨[], .free⟩
/-- A bank at reset (R102). -/
def Bank.init : Bank := ⟨.on, 0, 0, [], false⟩
/-- An array controller at reset (R45). -/
def ArrCtl.init : ArrCtl := ⟨.idle, none, none, 0, 0, none, 0, false, [], 0, 0, false, [], none, none, none, 0⟩
/-- An output block at reset (R78). -/
def Blk.init : Blk := ⟨false, 0, 0, 0, [], [], [], 0⟩
/-- A tile at reset. -/
def Tile.init : Tile :=
  { vc := .halt, pc := 0, sr := [], vr := [], xt := [], mr := [], vflags := 0, ord := 0, faultAt := none, stall := none, inwait := none,
    qArr := Queue.init, qTu := Queue.init, qDma := Queue.init, qSync := Queue.init, banks := [], w0 := [], w1 := [],
    wTick := 0, rqu := none, tu := none, arr := [], live := [], seq := 0, blks := [], accs := [], wbq := [], rr := 0,
    pstate := 0, fenced := false, parked := none, reclaim := none, vcResume := false, clkOff := false,
    unq := [], ej := [], energy := [] }

/-- A waiter in an object's queue (R222, R227). -/
structure Waiter where
  who : WaiterId
  acq : Bool
  thr : BitVec 32
deriving DecidableEq, Repr

/-- A synchronisation object (R222, Table 8-1). -/
structure Obj where
  /-- Counter, 32 bits; R222; reset 0. -/
  counter : Nat
  /-- Generation, 8 bits; R222; reset 0. -/
  gen : Nat
  /-- Mode: 0 FREE, 1 COUNTER, 2 BARRIER, 2 bits; R223; reset FREE. -/
  mode : Nat
  /-- Target, 32 bits; R222; reset 0. -/
  target : Nat
  /-- Waiters, at most 64, in arrival order; R222; reset none. -/
  q : List Waiter
deriving DecidableEq, Repr

/-- An object at reset (Table 8-10). -/
def Obj.init : Obj := ⟨0, 0, 0, 0, []⟩

/-- A DMA descriptor (Table 8-4), with its own pointer. -/
structure Desc where
  ptr : BitVec 64
  src : Nat
  dst : Nat
  srcSpace : Nat
  dstSpace : Nat
  srcNode : Nat
  dstNode : Nat
  swap : Nat
  len : Nat
  cnt : Nat
  srcStride : Int
  dstStride : Int
  sig : Option (Handle × BitVec 32)
  vtx : BitVec 12
  last : Bool
  dpod : BitVec 12
  next : BitVec 64
  owner : BitVec 32
deriving DecidableEq, Repr

/-- Who started a chain (R237): the kicking tile, a register write, a ring command, a context, prefix or grammar fetch. -/
inductive ChainBy where
  | tile (t : Site)
  | reg
  | ring (c : Cmd)
  | fetch (c : Cmd)
deriving DecidableEq, Repr

/-- A chain head accepted by a channel (R237). -/
structure Chain where
  ptr : BitVec 64
  fromWho : ChainBy
deriving DecidableEq, Repr

/-- States of a channel (Table 8-13). -/
inductive ChanState where
  | idle | fetch | run | error
deriving DecidableEq, Repr

/-- A DMA channel (R236, R237). -/
structure Chan where
  /-- State, 3 bits (DISABLED shows while idle with ENABLE 0); R251; reset IDLE. -/
  st : ChanState
  /-- Pending chain heads, at most 4; R237; reset none. -/
  pend : List Chain
  /-- The chain being run: its start and the pointer of its next descriptor; R237; reset none. -/
  chain : Option Chain
  /-- Pointer of the descriptor in progress or to be fetched, 64 bits; R251; reset 0. -/
  cur : BitVec 64
  /-- The descriptor to be fetched is the first of its chain; R238; reset 0. -/
  first : Bool
  /-- The descriptor in progress; R239; reset none. -/
  desc : Option Desc
  /-- Line in progress, 16 bits; R240; reset 0. -/
  line : Nat
  /-- Bytes of the line already sent, 24 bits; R240; reset 0. -/
  off : Nat
  /-- Bytes of the packet in progress already read; R244; reset none. -/
  buf : List Byte
  /-- A READ without response: bytes it will bring, first byte within its first word, the tick it was sent; R248; reset none. -/
  rd : Option (Nat × Nat × Nat)
  /-- READs given up under R248 whose responses may still come; R248; reset 0. -/
  late : Nat
  /-- A write of the descriptor was dropped or not performed; R245; reset 0. -/
  dropped : Bool
  /-- Descriptors started, the model's own number of the one in progress, by which a dropped write is charged to its descriptor; R245; reset 0. -/
  dseq : Nat
  /-- The access at hand waits for its stack and has been counted as held; R190, R192; reset 0. -/
  waits : Bool
  /-- Remote descriptors waiting for WACK: slot, descriptor, the tick of its last packet; R267; reset none. -/
  slots : List (Nat × Desc × Option Nat)
deriving DecidableEq, Repr

/-- A channel at reset (Table 8-13). -/
def Chan.init : Chan := ⟨.idle, [], none, 0, false, none, 0, 0, [], none, 0, false, 0, false, []⟩

/-- What a stack controller holds under R190 or R192: an access, a lattice WRITE with the descriptor it belongs to and the finding of the code, a lattice READ, a fabric READ. -/
inductive Held where
  | acc (x : StackAcc)
  | write (p : LatPkt) (tr : Option (Nat × Nat × Nat)) (e : Ecc)
  | read (p : LatPkt) (e : Ecc)
  | fab (spine : Bool) (p : FabPkt)
deriving DecidableEq, Repr

/-- A stack controller beside its registers (R176 to R193). -/
structure Sec where
  /-- Accesses held under R190 or R192, in arrival order; R190; reset none. -/
  held : List Held
  /-- 32-byte words known to hold a correctable error that no write-back has mended, by stack offset / 32; R184; reset none. -/
  soft : List Nat
  /-- The word the patrol scrubber reads next, by stack offset / 32, and the tick at which its pass began; R186; reset 0. -/
  scrub : Nat
  pass : Nat
  /-- 32-byte words known to hold an uncorrectable error, by stack offset / 32; R185; reset none. -/
  bad : List Nat
  /-- Uncorrectable errors of the last second: tick, pseudo-channel, word; R187; reset none. -/
  ues : List (Nat × Nat × Nat)
  /-- The tick at which self refresh was entered; R190; reset none. -/
  srAt : Option Nat
  /-- The tick since which readings have stayed below 83 degrees; R189; reset none. -/
  cool : Option Nat
  /-- The latest temperature reading failed; R189; reset 0. -/
  tempFail : Bool
  /-- Records appended to the memory error log in SYS; R184; reset none. -/
  log : List (Nat × Nat × Nat)
  /-- The sector's clock omits edges under a droop; R394; reset 0. -/
  droop : Bool
  /-- Writes performed in the tick `wTick`: the 64-byte word, the rank of its requester, the bytes it enabled; R177; reset none. -/
  wrs : List (Nat × Nat × BitVec 64)
  wTick : Nat
deriving DecidableEq, Repr

/-- A stack controller at reset. -/
def Sec.init : Sec := ⟨[], [], 0, 0, [], [], none, none, false, [], false, [], 0⟩

/-- What a link transmits in units of 16 bytes: a fabric packet, a beacon or a management packet, with the vertices it is sent between (R256, R263). -/
inductive TxItem where
  | pkt (p : FabPkt)
  | beacon (b : Beacon)
  | mgmt (r : MgmtRec)
deriving DecidableEq, Repr

/-- A DATA flit kept for replay (R256, R257): FSEQ, virtual channel, PSTART, its payload, and what lies in it, each with whether it ends there. -/
structure TxFlit where
  fseq : Nat
  vc : Nat
  pstart : Nat
  data : List Byte
  items : List (TxItem × Bool)
deriving DecidableEq, Repr

/-- A fabric link beside its registers (R253 to R259). -/
structure Lnk where
  /-- FSEQ of the next DATA flit to be accepted, 12 bits; R257; reset 0. -/
  rx : Nat
  /-- A gap or a failed CRC is being waited out; R257; reset 0. -/
  gap : Bool
  /-- FSEQ of the next DATA flit to be sent, 12 bits; R257; reset 0. -/
  tx : Nat
  /-- Unacknowledged flits, at most 128, oldest first; R257; reset none. -/
  replay : List TxFlit
  /-- What waits for flits, credits or replay room, oldest first; R256, R257; reset none. -/
  wait : List TxItem
  /-- Units already sent of the first waiting item of each virtual channel; R256; reset 0. -/
  sent : List Nat
  /-- Spine packets accepted last, at most 128, latest first, and those of a failed link whose copies this link discards; R261; reset none. -/
  seen : List FabPkt
  dups : List FabPkt
  /-- The tick at which the training state in progress began; R259; reset 0. -/
  stageAt : Nat
  /-- Credits held for each virtual channel; R257; reset 96, 96, 16, 8. -/
  credit : List Nat
  /-- Replays since a flit was last accepted in order; R258; reset 0. -/
  fruitless : Nat
  /-- Uncorrectable codewords of the last millisecond: tick and number; R258; reset none. -/
  ues : List (Nat × Nat)
  /-- The tick at which training began; R259; reset none. -/
  trainAt : Option Nat
  /-- The tick of the first MISWIRED, and of the latest attempt; R259; reset none. -/
  misAt : Option (Nat × Nat)
  /-- The spare that this link's failure caused to be adopted; R259; reset none. -/
  takenBy : Option Nat
  /-- The tick of the last BEACON sent; R273; reset 0. -/
  beaconAt : Nat
deriving DecidableEq, Repr

/-- A link at reset (R257). -/
def Lnk.init : Lnk := ⟨0, false, 0, [], [], [0, 0, 0, 0], [], [], 0, [96, 96, 16, 8], 0, [], none, none, none, 0⟩

/-- A bundle: one direction and virtual channel (R263). -/
structure Bundle where
  /-- BSEQ of the next packet sent, 16 bits; R263; reset 0. -/
  tx : Nat
  /-- BSEQ of the next packet to be released, 16 bits; R263; reset 0. -/
  rx : Nat
  /-- Packets received ahead of their turn; R263; reset none. -/
  held : List FabPkt
  /-- Round-robin position over the direction's links; R263; reset 0. -/
  rr : Nat
  /-- Packets of the direction that wait for a working link; R263; reset none. -/
  wait : List FabPkt
deriving DecidableEq, Repr

/-- A bundle at reset. -/
def Bundle.init : Bundle := ⟨0, 0, [], 0, []⟩

/-- The slice binding of the device (R159, R311). -/
structure Binding where
  sliceId : BitVec 16
  tx : Nat
  ty : Nat
  tz : Nat
  ox : Nat
  oy : Nat
  oz : Nat
  ex : Nat
  ey : Nat
  ez : Nat
  axes : Nat
  bgen : BitVec 8
deriving DecidableEq, Repr

/-- Time alignment (R272 to R276). -/
structure TimeSt where
  /-- The 64-bit time counter, in ticks of 940 MHz; R272; reset 0. -/
  time : Nat
  /-- Pending step marks (n, T), at most 8; R276; reset none. -/
  marks : List (Nat × Nat)
  /-- The last mark (n, T) known; R276; reset (0, 0). -/
  lastMark : Nat × Nat
  /-- Offsets being averaged, in 1/8 tick; R274; reset none. -/
  offs : List Int
  /-- Successive offsets within 4 ns; R274; reset 0. -/
  near : Nat
  /-- The first lock has been reached; R274; reset 0. -/
  locked1 : Bool
  /-- Slew still to be applied, in 1/8 tick; R274; reset 0. -/
  slew : Int
  /-- The tick of the parent's last beacon; R275; reset 0. -/
  lastBeacon : Nat
  /-- The 512-tick interval of the parent's time whose beacon was last used; R273, R274; reset none. -/
  lastIv : Option Nat
deriving DecidableEq, Repr

/-- Time alignment at reset (R275). -/
def TimeSt.init : TimeSt := ⟨0, [], (0, 0), [], 0, false, 0, 0, none⟩

/-- A submission ring (R296). -/
structure Sq where
  base : BitVec 64
  log2 : Nat
  cq : Nat
  prio : Nat
  /-- Head and tail indices; R297; reset 0. -/
  head : Nat
  tail : Nat
  /-- In ERROR; R303; reset 0. -/
  err : Bool
  /-- Entries fetched whose completion has not been posted, oldest first, each with its index and the head after its fetch, and whether it has started; R297, R306; reset none. -/
  flight : List (Nat × Entry × Nat × Bool)
  /-- A DELETE_RING of this ring waits for `flight` to empty; R310; reset none. -/
  del : Option Cmd
deriving DecidableEq, Repr

/-- A completion or token ring (R296, R298, R304). -/
structure Cq where
  base : BitVec 64
  log2 : Nat
  vector : Nat
  cnt : Nat
  us : Nat
  /-- The part's own tail and phase; R298; reset 0 and 1. -/
  tail : Nat
  phase : Bool
  /-- The host's head; R299; reset 0. -/
  head : Nat
  /-- Entries held because the ring is full, oldest first; R299; reset none. -/
  held : List Nat
  /-- Entries written since the ring's last message, and the tick of the first; R304; reset 0. -/
  since : Nat
  first : Nat
deriving DecidableEq, Repr

/-- An MSI-X vector (R281, R304): its message address and data, 64 and 32 bits, masked, pending. -/
structure Vec where
  addr : Nat
  data : Nat
  masked : Bool
  pend : Bool
deriving DecidableEq, Repr

/-- A vector at reset: masked (PRESUMED, PCI Express, log entry 89). -/
def Vec.init : Vec := ⟨0, 0, true, false⟩

/-- A host port beside its registers (R279, R296). -/
structure PortSt where
  /-- Link up; R280; reset 0. -/
  up : Bool
  /-- Submission rings by SQID; R296; reset none. -/
  sqs : Sparse (Option Sq)
  /-- Completion rings by CQID; R296; reset none. -/
  cqs : Sparse (Option Cq)
  /-- Token rings by TQID; R296; reset none. -/
  tqs : Sparse (Option Cq)
  /-- A grouped setting's held writes (offset, source, value); R291; reset none. -/
  heldW : List (Nat × Nat × Nat)
  /-- The SQ served last in each PRIO; R297; reset 0. -/
  turn : Sparse Nat
  /-- The 2,048 MSI-X vectors; R281, R304; reset as Vec.init. -/
  vecs : Sparse Vec
  /-- MSI-X Enable and Function Mask, 1 bit each; R281; reset 0 (PRESUMED, log entry 89). -/
  msixEn : Bool
  msixFm : Bool
  /-- Maximum payload and read request sizes in bytes; R281; reset 128 and 512 (PRESUMED, log entry 89). -/
  mps : Nat
  mrrs : Nat
  /-- In D3hot, and ASPM L1 enabled, 1 bit each; R281; reset 0 (PRESUMED, log entry 89). -/
  d3 : Bool
  aspm : Bool
deriving DecidableEq, Repr

/-- A port at reset. -/
def PortSt.init : PortSt := ⟨false, [], [], [], [], [], [], false, false, 128, 512, false, false⟩

/-- What the part sends or shows outside, in order: messages on its networks, packets on its links, writes and messages to hosts, transfers to the board. -/
inductive Out where
  /-- A SIG message (R226): SIGNAL 0, WAIT 1, ACQUIRE 2, RESET 3, with the waiter of a WAIT or ACQUIRE. -/
  | sig (h : Handle) (op : Nat) (n : BitVec 32) (w : Option WaiterId)
  /-- RELEASE and REFUSE to a waiter (R226). -/
  | release (w : WaiterId)
  | refuse (w : WaiterId)
  /-- A fault event record sent to the fault engine (R426). -/
  | fault (e : FaultEv)
  /-- An EVT message to control core 0 (R246, R295): a code and a value. -/
  | evt (code : Nat) (v : Nat)
  /-- A lattice packet with its operation code of Table 7-5 (R199). -/
  | lat (op : Nat) (p : LatPkt)
  /-- A VAL message to a site (R216). -/
  | val (t : Site) (m : ValMsg)
  /-- A packet delivered to the agent at a node (R197): its operation code, and the packet. -/
  | latIn (node : BitVec 11) (op : Nat) (p : LatPkt)
  /-- A CTRL message to the block of a BAR0 offset, and the CRSP message that answers it (R217): the offset, its size in bytes, the value written. -/
  | ctrl (off size v : Nat)
  | crsp (off : Nat)
  /-- A DATA flit as put on a link (R256): its 256 bytes. -/
  | flit (link : Nat) (bytes : List Byte)
  /-- The identity sent on a link in PARTNER (R260). -/
  | ident (link : Nat) (id : PartnerId)
  /-- A fabric packet on a link (R263). -/
  | fab (link : Nat) (p : FabPkt)
  /-- A NAK flit (R257), a beacon (R273), a management packet (R263). -/
  | nak (link : Nat) (ack : Nat)
  /-- An IDLE flit (R257): acknowledgement and credits. -/
  | idle (link ack credVc credN : Nat)
  /-- A packet released by a link in its order, for the receiving agent (R263); whether it came by the spine. -/
  | fabIn (spine : Bool) (p : FabPkt)
  | beacon (link : Nat) (b : Beacon)
  | mgmt (link : Nat) (r : MgmtRec)
  /-- A memory write to a host (R298, R245): port, address, bytes. -/
  | hostWrite (port : Nat) (addr : Nat) (data : List Byte)
  /-- An MSI-X message (R304): port, vector. -/
  | msix (port : Nat) (vector : Nat)
  /-- A request ended or a tile's work failed, as told to Enara firmware (R95, R246): owner, status, reason. -/
  | endReq (owner : BitVec 32) (status reason : Nat)
  /-- The work of a tile failed (R95, R72): site, status. -/
  | tileWork (t : Site) (status : Nat)
  /-- The result of a reference-row or known-sum operation for the fault engine (R44, R435): site, array, 512 sums. -/
  | test (t : Site) (a : ArrIx) (w : List Int)
  /-- What a stack read brings back to its requester (R185): address, bytes, and whether the word holds an uncorrectable error. -/
  | stackData (addr : Nat) (data : List Byte) (ue : Bool)
  /-- A new AVSBus target (R391): rail address, mV. -/
  | avs (rail mv : Nat)
  /-- Body bias of the tile logic and scratchpads in mV, read assist and write assist (R393, Table 13-2). -/
  | bias (mv : Int) (read write : Bool)
  /-- A response to a security message (R465): transport, CODE, TAG, RC, payload. -/
  | secResp (via : Transport) (code tag rc : Nat) (data : List Byte)
  /-- A PLDM or MCTP control response (R472 to R475): command row, completion code (0 SUCCESS), values. -/
  | pldm (what : String) (code : Nat) (vals : List Int)
  /-- A PlatformEventMessage to the event receiver (R474): sensor and value. -/
  | event (sensor : Nat) (value : Int)
  /-- What a read through the unlocked debug port brings (R471). -/
  | debugData (v : Nat)
  /-- A request for update data (R475): offset and length. -/
  | wantData (off len : Nat)
  /-- A micro-batch sent around the orbit (R325): index, step tag, rows, each with its request, how many, and the plane bit of its slot (R356). -/
  | orbit (m : Nat) (tag : Nat) (rows : List (BitVec 32 × Nat × Nat))
  /-- The page entries that Enara firmware gives the attention kernels for the rows of a request (R181, Table 6-4): request, sector, layer, head, entries. -/
  | pages (req : BitVec 32) (sector layer head : Nat) (entries : List (BitVec 64))
  /-- A message of Enara firmware to another device of the slice (R371, R378): orbit index, what, values. -/
  | toDevice (k : Nat) (what : String) (vals : List Nat)
  /-- A report of Enara firmware to the ingress device of the slice (R319, R328, R371): what, values. -/
  | toIngress (what : String) (vals : List Nat)
  /-- A chunk fetch (R367, R370): chunk, host port, host channel, address, length. -/
  | fetch (chunk port ch addr len : Nat)
  /-- An alert of the management port (R415, R476). -/
  | alert (what : String)
deriving DecidableEq, Repr

/-! ### In flight on the networks -/

/-- A packet in flight on the lattice (R200 to R202): its operation code, the packet, where it leaves, the routers whose flits it counts, those at which its head waits for its slot (R208), whether a slot never carries it, and the descriptor its signal belongs to (R245). -/
structure LatFly where
  op : Nat
  p : LatPkt
  dst : LatDst
  path : List Nat
  viol : List Nat
  stuck : Bool
  tr : Option (Nat × Nat × Nat)
deriving DecidableEq, Repr

/-- The rings of the tangent (Table 7-7). -/
inductive Ring where
  | sector (s : Nat)
  | row (r : Nat)
  | root
  | system
deriving DecidableEq, Repr

/-- A stop of the tangent: its ring and its index in the ring (Table 7-7). -/
structure TStop where
  ring : Ring
  ix : Nat
deriving DecidableEq, Repr

/-- A message's way on one ring (R213): where it enters, in which direction it goes (true: of increasing stop index), and how many hops. -/
structure TLeg where
  at_ : TStop
  up : Bool
  hops : Nat
deriving DecidableEq, Repr

/-- A message in flight on the tangent (R213 to R215): its stops, its class, what it carries, its way, the tick by which it arrives on idle rings. -/
structure TanFly where
  src : TStop
  dst : TStop
  cls : Nat
  o : Out
  legs : List TLeg
  due : Nat
deriving DecidableEq, Repr

/-- Pins, straps and supplies (R279, R488 to R498). -/
structure Board where
  /-- HOST_BIF as sampled at supply ramp, 1 for X8X8, 1 bit; R279; reset 0 (DESIGN CHOICE, log entry 5). -/
  x8 : Bool
  /-- MGMT_ADDR as sampled, 2 bits; R488; reset 0 (DESIGN CHOICE, log entry 5). -/
  mgmtAddr : Nat
  /-- The tick at which VDD_AON came into range; R488; reset none. -/
  aonAt : Option Nat
  /-- PWR_REQ released, with the tick (none: driven low); R488; reset none. -/
  pwrReq : Option Nat
  /-- RAILS_PG asserted, with the tick; R488; reset none. -/
  railsPg : Option Nat
  /-- PWR_REQ stays low until the next supply ramp: RAILS_PG came too late, or supplies were withdrawn; R417, R488; reset 0. -/
  pgFailed : Bool
  /-- Power-on reset released; R488; reset 0. -/
  por : Bool
  /-- FAULT_N driven low; R476; reset 0. -/
  faultN : Bool
  /-- PROG_EN high; R490; reset 0. -/
  progEn : Bool
  /-- LASER_EN_N high; R498; reset 0 (DESIGN CHOICE, log entry 5). -/
  laserOff : Bool
deriving DecidableEq, Repr

/-- The board at reset. -/
def Board.init : Board :=
  { x8 := false, mgmtAddr := 0, aonAt := none, pwrReq := none, railsPg := none, pgFailed := false, por := false, faultN := false,
    progEn := false, laserOff := false }

/-- States of a request-table entry (Table 11-1). -/
inductive ReqState where
  | free | inAdmission | prefill | decode | rebuild | waitBudget | held | ending
deriving DecidableEq, Repr

/-- Settings of the sampling unit for a request, as applied (Table 11-3). -/
structure Sampling where
  temp : BitVec 16
  topp : BitVec 16
  minp : BitVec 16
  rpen : BitVec 16
  topk : Nat
  rpwin : Nat
  seed : BitVec 64
  stops : List Nat
  noEos : Bool
deriving DecidableEq, Repr

/-- A request-table entry (R322). -/
structure Req where
  /-- GEN, 12 bits; R321; reset 1. -/
  gen : Nat
  /-- State, 3 bits; R322; reset FREE. -/
  st : ReqState
  /-- The state that WAIT_BUDGET or HELD left, 3 bits; R322; reset FREE. -/
  left : ReqState
  /-- INFLIGHT, 1 bit; R322; reset 0. -/
  inflight : Bool
  /-- The tick of its latest launch; R326; reset none. -/
  launched : Option Nat
  /-- The step tag of its latest launch, 48 bits; R325; reset none. -/
  tag : Option Nat
  /-- Tenant, 10 bits; R334; reset 0. -/
  tenant : Nat
  /-- The SUBMIT or PREFIX_CREATE; R334; reset none. -/
  cmd : Option Cmd
  /-- A payload field was clamped, 1 bit; R293; reset 0. -/
  clamped : Bool
  /-- Completed at admission, 1 bit; R336; reset 0. -/
  early : Bool
  /-- Token ring, 4 bits; R334; reset 0. -/
  tq : Nat
  /-- PRIO, 2 bits; R334; reset 0. -/
  prio : Nat
  /-- ADSLOT in force at admission, 8 bits; R331; reset 0. -/
  adslot : Nat
  /-- The tick of the deadline; R334; reset none. -/
  deadline : Option Nat
  /-- BWAIT_MS of the request, 16 bits; R334; reset 0. -/
  bwaitMs : Nat
  /-- Budget-wait clock up to the tick `bwaitAt`, in ticks; R333; reset 0. -/
  bwait : Nat
  /-- The tick since which the budget-wait clock runs; R333; reset none. -/
  bwaitAt : Option Nat
  /-- Grammar and allowed-list IDs, 16 bits each; R334; reset 0. -/
  grammar : Nat
  alist : Nat
  /-- State and stack of the automaton, top first; R343, R345; reset 0 and empty. -/
  gstate : Nat
  gstack : List Nat
  /-- The grammar stack has overflowed, 1 bit; R345; reset 0. -/
  govf : Bool
  /-- Sampling settings; R334; reset 0. -/
  samp : Sampling
  /-- MAX_NEW as applied, 20 bits; R334; reset 0. -/
  maxNew : Nat
  /-- Index of the prefix handle it names; R338; reset none. -/
  pfx : Option Nat
  /-- Its sequence: kept prefix tokens, context, delivered tokens; R337; reset empty. -/
  seq : List Nat
  /-- Position of its first generated token; R337, R343; reset 0. -/
  gen0 : Nat
  /-- Next position to be run; R326; reset 0. -/
  next : Nat
  /-- Tokens delivered; R336; reset 0. -/
  delivered : Nat
  /-- Rebuilt on a new version, 1 bit; R342; reset 0. -/
  rebuilt : Bool
  /-- Pending for REBUILD at its commit point, 1 bit; R342, R380; reset 0. -/
  pendRebuild : Bool
  /-- Version slot it is bound to, 1 bit; R356; reset 0. -/
  slot : Nat
  /-- CANCEL commands that wait for its end; R329; reset none. -/
  cancels : List Cmd
  /-- It ends CANCELLED at its commit point with its completions discarded, its port having been reset, 1 bit; R289; reset 0. -/
  orphan : Bool
  /-- A PREFIX_CREATE: the handle index reserved for it; R339; reset none. -/
  creating : Option Nat
  /-- The SQ's head index after its command was fetched, 16 bits; R306; reset 0. -/
  hd : Nat
  /-- Pages reserved, by sector of the slice (32 * k + sector of its device k); R182, R337; reset none. -/
  pages : Sparse Nat
  /-- Its end is decided (status, reason) and its completion waits: for room (R299), or for its fetch to run to its end (R320); reset none. -/
  waitEnd : Option (Nat × Nat)
deriving DecidableEq, Repr

/-- A request-table entry at reset (R352). -/
def Req.init : Req :=
  { gen := 1, st := .free, left := .free, inflight := false, launched := none, tag := none, tenant := 0, cmd := none, clamped := false,
    early := false, tq := 0, prio := 0, adslot := 0, deadline := none, bwaitMs := 0, bwait := 0, bwaitAt := none, grammar := 0,
    alist := 0, gstate := 0, gstack := [], govf := false, samp := ⟨0, 0, 0, 0, 0, 0, 0, [], false⟩, maxNew := 0, pfx := none, seq := [],
    gen0 := 0, next := 0, delivered := 0, rebuilt := false, pendRebuild := false, slot := 0, cancels := [], orphan := false,
    creating := none, hd := 0, pages := [], waitEnd := none }

/-- A tenant (R331, R350). -/
structure Tenant where
  /-- Enabled, 1 bit; R350; reset 0. -/
  en : Bool
  /-- LEVEL in 1/16 token, 40 bits; R331; reset 0. -/
  level : Nat
  /-- The fraction carried to the next mark, in 1/940,000,000; R331; reset 0. -/
  frac : Nat
  /-- RATE, BURST, PFW and BWAIT_MS in force; R331; reset 0. -/
  rate : Nat
  burst : Nat
  pfw : Nat
  bwaitMs : Nat
  /-- Those that take effect at the next mark; R331; reset none. -/
  nextSet : Option (Nat × Nat × Nat × Nat)
  /-- ADSLOT, 8 bits; R350; reset 0. -/
  adslot : Nat
  /-- MAXREQ, 14 bits; R350; reset 0. -/
  maxReq : Nat
  /-- PFXQ, 32 bits; R350; reset 0. -/
  pfxq : Nat
deriving DecidableEq, Repr

/-- A tenant at reset (Table 11-12). -/
def Tenant.init : Tenant := ⟨false, 0, 0, 0, 0, 0, 0, none, 0, 0, 0⟩

/-- A prefix handle (R338 to R341). -/
structure Pfx where
  /-- GEN, 16 bits; R338; reset 1. -/
  gen : Nat
  /-- Its pages are held: by a valid handle, or by a stale one whose requests still live; R341; reset 0. -/
  held : Bool
  /-- The handle is valid, 1 bit; R338; reset 0. -/
  valid : Bool
  /-- Tenant and version slot; R338; reset 0. -/
  tenant : Nat
  slot : Nat
  /-- Kept tokens; R339; reset none. -/
  toks : List Nat
  /-- The tick of its latest use; R340; reset 0. -/
  used : Nat
  /-- Its pages, counted as those of a request; R339; reset none. -/
  pages : Sparse Nat
deriving DecidableEq, Repr

/-- A handle at reset. -/
def Pfx.init : Pfx := ⟨1, false, false, 0, 0, [], 0, []⟩

/-- A stored grammar image (R344): automaton or list, its stack and offset, its bytes. -/
structure Gram where
  auto : Bool
  stack : Nat
  off : Nat
  img : List Byte
deriving DecidableEq, Repr

/-- A request's rows in a micro-batch (R326): its ID, how many rows, whether the last of them yields a token. -/
structure MRow where
  req : BitVec 32
  n : Nat
  fin : Bool
deriving DecidableEq, Repr

/-- A micro-batch index (R325). -/
structure MBatch where
  /-- The tick of the launch in flight; R327; reset none. -/
  launched : Option Nat
  /-- Step tag of the latest slot judged, 48 bits; R325; reset none. -/
  tag : Option Nat
  /-- Its rows; R326; reset none. -/
  rows : List MRow
  /-- A slot passed before its commit point, 1 bit; R325; reset 0. -/
  late : Bool
  /-- Launch-to-commit time of the latest committed launch; R324; reset none. -/
  took : Option Nat
deriving DecidableEq, Repr

/-- A micro-batch index at reset. -/
def MBatch.init : MBatch := ⟨none, none, [], false, none⟩

/-- A LAYER record (R364): layer, KV format code, head dimension, whether ZERO is allowed. -/
structure Layer where
  ix : Nat
  fmt : Nat
  d : Nat
  nfZero : Bool
deriving DecidableEq, Repr

/-- An entry of the adapter directory (R364, R350): logical tile, ADSLOT, layer, offset, format, rank, alpha. -/
structure AdEnt where
  tile : Nat
  adslot : Nat
  layer : Nat
  off : Nat
  fmt : Nat
  rank : Nat
  alpha : BitVec 16
deriving DecidableEq, Repr

/-- The serving engine beside its registers (R319 to R353). -/
structure Serve where
  /-- The 8,192 entries of the request table; R321; reset FREE. -/
  reqs : Sparse Req
  /-- The 1,024 tenants; R331; reset 0. -/
  tenants : Sparse Tenant
  /-- The 65,536 prefix handles; R338; reset stale. -/
  pfxs : Sparse Pfx
  /-- Grammar images by ID; R344; reset none. -/
  grams : Sparse (Option Gram)
  /-- The micro-batches; R325; reset idle. -/
  mbs : Sparse MBatch
  /-- What each other device of the slice reported last; R319, R358; reset none. -/
  peers : Sparse (Option PeerState)
  /-- The slice was serving when last judged, 1 bit; R320; reset 0. -/
  was : Bool
  /-- End tokens of the model; R337; reset none. -/
  eos : List Nat
  /-- Layers and the assignment of KV heads (sector, layer, head) of the placement; R364; reset none. -/
  layers : List Layer
  kvHeads : List (Nat × Nat × Nat)
  /-- The adapter directory; R364; reset none. -/
  adir : List AdEnt
  /-- Time of the previous step mark; R331; reset none. -/
  mark : Option Nat
  /-- The time at which the first request was admitted to an idle slice that has had no mark since; R324; reset none. -/
  firstAt : Option Nat
deriving DecidableEq, Repr

/-- The serving engine at reset. -/
def Serve.init : Serve := ⟨[], [], [], [], [], [], false, [], [], [], [], none, none⟩

/-- A chunk entry of a manifest (Table 12-3). -/
structure Chunk where
  tag : List Byte
  cls : Nat
  sector : Nat
  len : Nat
deriving DecidableEq, Repr

/-- A verified manifest (Table 12-2), of which the shard of this device is kept, and its SHA-384 (R467). -/
structure Manif where
  version : Nat
  modelId : List Byte
  placeId : Nat
  chunks : List Chunk
  digest : List Byte
deriving DecidableEq, Repr

/-- A decrypted array record (R362). -/
structure ArrRec where
  tile : Nat
  arr : Nat
  code : Nat
  gain : Nat
  weights : List Byte
deriving DecidableEq, Repr

/-- What a programming job is for (R373, R384, R385, R437). -/
inductive JobFor where
  | load | refresh | spare | column (col : Nat)
deriving DecidableEq, Repr

/-- Arrays still to be programmed for one purpose, in order: logical tile, site, slot, records; those of the batch in progress; the tick since which a hold-up check has waited. -/
structure Job where
  what : JobFor
  tile : Nat
  slot : Nat
  todo : List (Nat × ArrRec)
  batch : List (Nat × ArrRec)
  since : Option Nat
deriving DecidableEq, Repr

/-- A placement object (R364, R447): its number, its object, that of the odd copy, mode and count. -/
structure PObj where
  num : Nat
  ix : Nat
  odd : Option Nat
  mode : Nat
  count : Nat
deriving DecidableEq, Repr

/-- A load or a RESTORE in progress (R367 to R372). -/
structure Load where
  cmd : Option Cmd
  man : Manif
  slot : Nat
  restore : Bool
  peer : Bool
  place : Bool
  deadline : Nat
  /-- Chunks taken in. -/
  got : List Nat
  /-- Refetches of each chunk. -/
  tries : Sparse Nat
  /-- Bytes of a record continued in the next chunk, by class and sector. -/
  part : Sparse (List Byte)
  /-- Array records taken in, in order. -/
  recs : List ArrRec
  /-- Read requests of a peer's REF without answer: request number and chunk. -/
  reads : List (Nat × Nat)
  /-- Bytes received of a chunk read from a peer. -/
  bytes : Sparse (List Byte)
  /-- This device has reported; the reports received on the ingress device: orbit index and reason. -/
  done : Bool
  reports : List (Nat × Option Nat)
deriving DecidableEq, Repr

/-- A scheduled version switch (R378). -/
structure Switch where
  cmd : Cmd
  step : Nat
  slot : Nat
  rebuild : Bool
  drainS : Nat
  fetched : Nat
  leadUs : Nat
  acks : List Nat
  marked : Bool
deriving DecidableEq, Repr

/-- A model key (R365). -/
structure MKey where
  key : List Byte
  modelId : List Byte
  version : Nat
deriving DecidableEq, Repr

/-- The weight store beside its registers (R354 to R389). -/
structure WStore where
  /-- The load in progress; R367; reset none. -/
  load : Option Load
  /-- Programming jobs, first one first; R373, R384 to R386; reset none. -/
  jobs : List Job
  /-- The 16 key slots; R365; reset empty. -/
  keys : Sparse (Option MKey)
  /-- Manifests of the two slots, from which REF and EXP were filled; R359; reset none. -/
  mans : Sparse (Option Manif)
  /-- Tiles queued for refresh, and whether REFRESH_WAIT_CNT has counted each; R383, R384; reset none. -/
  queue : List (Nat × Bool)
  /-- Ticks at which the planes of each slot were last programmed, by 2 * logical tile + slot; R383; reset 0. -/
  born : Sparse Nat
  /-- The switch in progress; R378; reset none. -/
  switch : Option Switch
  /-- The switch record in the configuration area, not yet confirmed: step and slot; R357, R378; reset none. -/
  record : Option (Nat × Nat)
  /-- The tick at which a DRAINING slot's requests are rebuilt; R380; reset none. -/
  drainAt : Option Nat
  /-- Adopted spares being programmed: logical tile, the tick of the fence, whether the planes are programmed, whether the scratchpad copy is done; R385, R443; reset none. -/
  spares : List (Nat × Nat × Bool × Bool)
  /-- Objects of the placement; R364, R442; reset none. -/
  objs : List PObj
  /-- PATCH sites of the placement: logical tile, address, SUB, placement object; R364, R442; reset none. -/
  patches : List (Nat × Nat × Nat × Nat)
  /-- SPOWN at kernel entry by logical tile, plus one; R364, R442; reset none. -/
  entry : Sparse Nat
  /-- Hold-up voltages sampled within the last ms, in mV; R377; reset none. -/
  vhu : List Nat
  /-- The tick of those samples; R377; reset 0. -/
  vhuAt : Nat
  /-- The tick of the last PROG_EN use; R490; reset 0. -/
  progAt : Nat
  /-- Number of the next fabric READ of the weight store, 11 bits; R268; reset 0. -/
  nread : Nat
  /-- The scratchpads have been zeroised: no ACTIVE VERSION is reported until a RESTORE; R469; reset 0. -/
  scrubbed : Bool
deriving DecidableEq, Repr

/-- The weight store at reset. -/
def WStore.init : WStore := ⟨none, [], [], [], [], [], none, none, none, [], [], [], [], [], 0, 0, 0, false⟩


/-! ### Power, start-up and sensing -/

/-- A calibration run (R423). -/
structure CalRun where
  since : Nat
  sectors : Nat
  point : Nat
deriving DecidableEq, Repr

/-- A calibration set (Table 13-9): SEQ, and for each point the captured temperature, the load class and the run it comes from (none: FACTORY); GCORR. -/
structure CalSet where
  seq : Nat
  tcap : List Int
  lclass : List Nat
  src : List (Option Nat)
  gcorr : Int
deriving DecidableEq, Repr

/-- Power, clocks, start-up and sensing beside their registers (R390 to R423). -/
structure Power where
  /-- The tick at which the start-up step in progress began; R400; reset 0. -/
  stepAt : Nat
  /-- Sectors that have left P2 in the wake in progress, and the tick from which their spacing counts; R399; reset none. -/
  wake : Option (Nat × Nat)
  /-- A POWER_STATE that waits for its state; R314, R398; reset none. -/
  cmd : Option Cmd
  /-- The profile requested, 2 bits; R314, R415; reset NOMINAL. -/
  want : Nat
  /-- A profile change in progress, with the tick of its start; R393; reset none. -/
  changing : Option (Nat × Nat)
  /-- The VDD_CORE target in mV; R392; reset 750 (boot target of Table 17-2). -/
  coreMv : Nat
  /-- Powers of the nine rails in the last 1 ms, in mW, in the order of Table 13-1; R391; reset none. -/
  mw : List Nat
  /-- Package powers of the last 100 readings, newest first, in mW; R422; reset none. -/
  pkg : List Nat
  /-- The last firing of each sector's droop detector, plus one; R394; reset none. -/
  droopAt : Sparse Nat
  /-- A droop capture in progress, with the tick of its trigger; R411; reset none. -/
  cap : Option Nat
  /-- A droop capture has begun since the last slow round; R411; reset 0. -/
  capd : Bool
  /-- Results of the last 58 rounds, newest first: channels 0 to 39, then the 32 stacks, in 1/16 degree; R414; reset none. -/
  hist : List (List Int)
  /-- The tick since which every sensor has stayed below its clearing threshold; R415; reset none. -/
  calm : Option Nat
  /-- The tick at which an orderly stop began; R416; reset none. -/
  stopAt : Option Nat
  /-- Temperature of the last CAL_W written for each sector; R421; reset 0. -/
  calT : Sparse Int
  /-- A calibration run in progress; R423; reset none. -/
  cal : Option CalRun
  /-- Allowances of sites that differ from the base, in mW, plus one; R403, R405; reset none. -/
  lent : Sparse Nat
  /-- The tile pool and the base allowance, in mW, and the cut of the base in percent; R403, R407; reset 950,000, 3,710 and 0, as R403 gives with nothing measured (DESIGN CHOICE, log entry 85). -/
  pool : Nat
  base : Nat
  cut : Nat
  /-- The scale of the energy estimates, as a fraction, and the estimate of all tiles since the last telemetry, in pJ; R404; reset 1 and 0 (DESIGN CHOICE, log entry 85). -/
  scale : Nat × Nat
  spent : Nat
  /-- The package is over its budget and the base is being cut; R407; reset 0. -/
  overB : Bool
  /-- Calibration sets in the trim stores, by sector; R419; reset none. -/
  trims : Sparse (Option CalSet)
  /-- Sectors whose load class differed at the last comparison; R422; reset none. -/
  lcBad : List Nat
deriving DecidableEq, Repr

/-- Power at reset. -/
def Power.init : Power :=
  { stepAt := 0, wake := none, cmd := none, want := 1, changing := none, coreMv := 750, mw := [], pkg := [], droopAt := [], cap := none, capd := false,
    hist := [], calm := none, stopAt := none, calT := [], cal := none, lent := [], pool := 950000, base := 3710, cut := 0, scale := (1, 1), spent := 0, overB := false, trims := [], lcBad := [] }

/-! ### Reliability -/

/-- A tile history record (Table 14-4): STATUS (GOOD 0, SUSPECT 1, PERMANENT 2), NEXT, counts, powered seconds of the three latest confirmed failures (oldest first) and of PERMANENT, EVENT[0..7] with powered seconds and action. -/
structure Hist where
  status : Nat
  next : Nat
  ksFail : Nat
  ksUnconf : Nat
  chkEvt : Nat
  colRepair : Nat
  regEvt : Nat
  stall : Nat
  dual : Nat
  selftest : Nat
  merged : Nat
  ksT : List Nat
  permS : Nat
  events : Sparse (Option (FaultEv × Nat × Nat))
deriving DecidableEq, Repr

/-- A history record as shipped: GOOD, nothing counted. -/
def Hist.init : Hist := ⟨0, 0, 0, 0, 0, 0, 0, 0, 0, 0, 0, [], 0, []⟩

/-- A fleet test record (Table 14-5). -/
structure FleetTest where
  refrow : Bool
  target : Nat
  gmax : Nat
  v1 : Nat
  v2 : Nat
  codes : List Int
  tol : Nat
  planes : Nat
deriving DecidableEq, Repr

/-- A fleet package (R440). -/
structure FleetPkg where
  id : Nat
  ver : Nat
  tests : List FleetTest
  bytes : List Byte
deriving DecidableEq, Repr

/-- The fault engine beside its registers (R426 to R455). -/
structure Engine where
  /-- TILE and STALL events waiting for a decision, at most 16; R429; reset none. -/
  pend : List FaultEv
  /-- The tick at which the decision in progress ends; R429; reset none. -/
  deciding : Option Nat
  /-- Sites BUSY, with the action in progress and its event; R429; reset none. -/
  busy : List (Nat × Nat × FaultEv)
  /-- NET events of the last hour: router or stop, powered seconds; R429; reset none. -/
  net : List (Nat × Nat)
  /-- The fault log, oldest first, at most 65,536: record, time, action; R428; reset none. -/
  log : List (FaultEv × Nat × Nat)
  /-- The engine's copies of the history records; R432; reset as the configuration area holds them. -/
  hist : Sparse Hist
  /-- Drift estimates m_j by array, plane and column; R438; reset 0. -/
  drift : Sparse Rat
  /-- Tests of each plane since it was programmed; R438; reset 0. -/
  tests : Sparse Nat
  /-- Spare columns that have failed: site, array, entry; R437; reset none. -/
  badSpare : List (Nat × Nat × Nat)
  /-- Repairs pending: site, array, entry; R437; reset none. -/
  repairs : List (Nat × Nat × Nat)
  /-- The tick of the last fleet pass; R441; reset 0. -/
  fleetAt : Nat
  /-- Orbit rows held at their entry; R442; reset 0. -/
  rowsHeld : Bool
  /-- Home tiles whose micro-batch is being re-run after a mismatch; R449; reset none. -/
  rerun : List Nat
  /-- In DUAL, the STEP state that each micro-batch in flight entered with, by scratchpad byte; R449; reset none. -/
  kept : Sparse (List (Nat × Byte))
  /-- Ticks of the powered second in progress; R432; reset 0. -/
  frac : Nat
  /-- Triple-modular registers read as copy 0: offset, copy 0, the value they are to be rewritten with; R450; reset none. -/
  copies : List (Nat × Nat × Nat)
deriving DecidableEq, Repr

/-- The fault engine at reset. -/
def Engine.init : Engine := ⟨[], none, [], [], [], [], [], [], [], [], 0, false, [], [], 0, []⟩

/-! ### The configuration area -/

/-- The boot record (R458): PREF (A 0, B 1), TRIES, COUNTER, REVOKED. -/
structure BootRec where
  pref : Nat
  triesA : Nat
  triesB : Nat
  counter : Nat
  revoked : Nat
deriving DecidableEq, Repr

/-- A firmware image slot whose contents are no longer as shipped (R457): header and body. -/
structure Image where
  head : List Byte
  body : List Byte
deriving DecidableEq, Repr

/-- A write or a batch waiting for its hold-up check (R377). -/
inductive HuItem where
  | batch
  | table
  | hist (t : Nat)
  | remap
  | powered
  | devRec
  | tries
  | commit
  | confirm
  | fab (v : Nat)
  | switchRec (step slot : Nat)
  | enrol (m : SecMsg) (slot : Nat) (key : Option (List Byte))
  | fleet (c : Option Cmd) (p : FleetPkg)
  | cal
  | entry (t a col : Nat)
  | fwHead (zero : Bool)
  | fwBody (off : Nat) (data : List Byte)
  | activate
deriving DecidableEq, Repr

/-- The configuration area: what the part keeps unpowered beside the array cells (R3, R357, R418, R431, R432, R440, R445, R453, R457, R458, R463). -/
structure CfgArea where
  /-- Saved TOP.FAB_CFG; R277; reset 0 (DESIGN CHOICE, log entry 6). -/
  fab : Nat
  /-- The slot table: slot, plane, swap, wear and spare-column registers as last recorded, keyed as the register file; R357; reset nothing recorded (DESIGN CHOICE, log entry 6). -/
  table : Sparse Nat
  /-- A switch record not yet confirmed: step and slot; R357, R378; reset none. -/
  record : Option (Nat × Nat)
  /-- History records; R431; reset GOOD, nothing counted (DESIGN CHOICE, log entry 6). -/
  hist : Sparse Hist
  /-- The remap record: logical tiles that an adoption moved to their sector's spare, and the state of each sector's spare (AVAILABLE 0, ADOPTED 1, PERMANENT 2); R445; reset none, AVAILABLE (DESIGN CHOICE, log entry 6). -/
  remap : List Nat
  spares : Sparse Nat
  /-- POWERED_S as last stored; R432; reset 0 (DESIGN CHOICE, log entry 6). -/
  powered : Nat
  /-- The boot record; R458; reset PREF A, all zero (DESIGN CHOICE, log entry 6). -/
  boot : BootRec
  /-- Image slots A and B, none while as shipped; R457; reset as shipped. -/
  images : Sparse (Option Image)
  /-- Model-signing keys and ENROL_SEQ of the four slots; R463; reset empty and 0 (DESIGN CHOICE, log entry 6). -/
  keys : Sparse (Option (List Byte))
  seqs : Sparse Nat
  /-- The stored fleet package; R440; reset none (DESIGN CHOICE, log entry 6). -/
  pkg : Option FleetPkg
  /-- Calibration sets by 2 * sector + copy, and the copy in use; R418; reset as shipped. -/
  cal : Sparse CalSet
  use : Sparse Nat
  /-- GCORR as stored; R412, R423; reset 0 (DESIGN CHOICE, log entry 6). -/
  gcorr : Int
  /-- The device fault record: cause, site, the last 8 log entries; R453; reset none. -/
  fault : Option (Nat × Nat × List (FaultEv × Nat × Nat))
deriving DecidableEq, Repr

/-- A calibration set as shipped (Table 13-9). -/
def CalSet.init : CalSet := ⟨0, [400, 720, 1040, 1360, 1680], [0, 0, 0, 0, 0], [none, none, none, none, none], 0⟩

/-- The configuration area as shipped. -/
def CfgArea.init : CfgArea :=
  { fab := 0, table := [], record := none, hist := [], remap := [], spares := [], powered := 0, boot := ⟨0, 0, 0, 0, 0⟩, images := [],
    keys := [], seqs := [], pkg := none, cal := [], use := [], gcorr := 0, fault := none }

/-! ### Security and management -/

/-- An update (R475): component, length, bytes received, a write refused, verified and applied. -/
structure Update where
  comp : Nat
  len : Nat
  got : List Byte
  failed : Bool
  applied : Bool
deriving DecidableEq, Repr

/-- A port's mailbox (R477). -/
structure Mailbox where
  busy : Bool
  done : Bool
  resp : List Byte
  /-- The request buffer, 4,096 bytes, by offset; R477; reset 0 (DESIGN CHOICE, log entry 7). -/
  buf : Sparse Byte
deriving DecidableEq, Repr

/-- The state of the random bit generator: CTR_DRBG with AES-256 (R468). -/
structure Drbg where
  /-- The key, 256 bits; R468; reset 0 (DESIGN CHOICE, log entry 7). -/
  key : BitVec 256
  /-- The counter block V, 128 bits; R468; reset 0 (DESIGN CHOICE, log entry 7). -/
  v : BitVec 128
  /-- Requests since the last reseed, up to 2^20; R468; reset 0 (DESIGN CHOICE, log entry 7). -/
  count : Nat
deriving DecidableEq, Repr

/-- The generator before start-up has instantiated it. -/
def Drbg.init : Drbg := ⟨0, 0, 0⟩

/-- The security core and the management port beside their registers (R456 to R478). -/
structure Secu where
  /-- The challenge in force; R471; reset none. -/
  challenge : Option (List Byte)
  /-- Reports signed since device reset, 32 bits; R467; reset 0. -/
  seq : Nat
  /-- The request whose service awaits a configuration-area write; R466; reset none. -/
  serving : Option SecMsg
  /-- Requests of the five transports that wait for the security core, oldest first, at most one a transport, each with its CODE; R466; reset none. -/
  wait : List (Nat × SecMsg)
  /-- The two mailboxes; R477; reset idle. -/
  mbox : Sparse Mailbox
  /-- The update in progress; R475; reset none. -/
  update : Option Update
  /-- The event receiver; R474; reset none. -/
  receiver : Option Nat
  /-- An event has been sent and not acknowledged; R474; reset 0. -/
  unacked : Bool
  /-- Events held, oldest first, at most 64; R474; reset none. -/
  events : List (Nat × Int)
  /-- Sensor readings as of the latest slow round, by sensor number; R473; reset 0 (DESIGN CHOICE, log entry 7). -/
  sens : Sparse Int
  /-- TOKEN_CNT, and the tick, at the start of the second over which tokens are being counted; R473; reset 0. -/
  tokBase : Nat
  tokAt : Nat
  /-- The random bit generator; R468; reset zero, instantiated at start-up (DESIGN CHOICE, log entry 7). -/
  drbg : Drbg
deriving DecidableEq, Repr

/-- A mailbox at reset. -/
def Mailbox.init : Mailbox := ⟨false, false, [], []⟩

/-- The security core at reset. -/
def Secu.init : Secu := ⟨none, 0, none, [], [], none, none, false, [], [], 0, 0, Drbg.init⟩

/-- The whole part. -/
structure State where
  /-- Commands waiting, first in, first out; the model's own queue; reset empty. -/
  pending : List Instr
  /-- The register file of BAR0: each field by offset and bit, held exclusive-ored with its reset value; R284; reset as each register's table gives (the lines above). -/
  regs : Sparse Nat
  /-- Ticks of 940 MHz since supply ramp, 64 bits; R12; reset 0 (DESIGN CHOICE, log entry 1). -/
  now : Nat
  /-- The tick of the clock switch of start-up step 5, from which CYCLE counts; R148; reset none. -/
  cycle0 : Option Nat
  /-- Scratchpad bytes by site * 2^21 + address, 8 bits each; R93, R287; reset 0. -/
  sp : Sparse Byte
  /-- Stack bytes by stack address, 8 bits each; R173, R183; reset 0. -/
  stk : Sparse Byte
  /-- Array cells, in sixteenths of a level step; R14, R374; reset level 8 (as shipped). -/
  cells : Sparse Nat
  /-- The 288 tiles; R13; reset as Tile.init. -/
  tiles : Sparse Tile
  /-- The 32,768 synchronisation objects; R222; reset FREE. -/
  objs : Sparse Obj
  /-- The 272 DMA channels; R236; reset IDLE. -/
  chans : Sparse Chan
  /-- The 32 stack controllers; R170; reset as Sec.init. -/
  secs : Sparse Sec
  /-- The 64 links; R253; reset as Lnk.init. -/
  lnks : Sparse Lnk
  /-- Bundles by 4 * direction + virtual channel; R263; reset 0. -/
  bundles : Sparse Bundle
  /-- TOP.FAB_CFG as taken by the latest link training, 44 bits; R277; reset 0. -/
  fab : Nat
  /-- The binding of the device to a slice; R159, R311; reset unbound. -/
  bind : Option Binding
  /-- The binding that the fabric uses, taken at each beacon sent; R311; reset unbound. -/
  fbind : Option Binding
  /-- Time and step alignment; R272; reset as TimeSt.init. -/
  tm : TimeSt
  /-- The tick at which a lattice mode switch began; R209; reset none. -/
  latSw : Option Nat
  /-- Packets in flight on the lattice, oldest first; R200, R201; reset none. -/
  lat : List LatFly
  /-- Packets whose injection is held while the lattice switches its mode, oldest first, each with its operation code and the descriptor its signal belongs to; R209; reset none. -/
  latHold : List (Nat × LatPkt × Option (Nat × Nat × Nat))
  /-- Messages in flight on the tangent, oldest first; R213, R215; reset none. -/
  tan : List TanFly
  /-- The channel of each DMA engine that was served last, by engine, 32 for the host interface; R236; reset 0. -/
  chTurn : Sparse Nat
  /-- Straps and pins; R279; reset as Board.init. -/
  board : Board
  /-- The two host ports; R279; reset down. -/
  ports : Sparse PortSt
  /-- The serving engine; R319; reset as Serve.init. -/
  serve : Serve
  /-- The weight store; R354; reset as WStore.init. -/
  ws : WStore
  /-- Power, start-up and sensing; R390; reset as Power.init. -/
  pw : Power
  /-- The fault engine; R426; reset as Engine.init. -/
  fe : Engine
  /-- The configuration area; R3; reset as shipped. -/
  cfg : CfgArea
  /-- Writes and batches waiting for a hold-up check: what, the tick since which, the tick of the next check; R377; reset none. -/
  hu : List (HuItem × Nat × Nat)
  /-- Security and management; R456; reset as Secu.init. -/
  secu : Secu
  /-- Latched lower words of wide registers (register offset, partner code, word, value); R284; reset none. -/
  latch : List (Nat × Nat × Nat × Nat)
  /-- Registers that port B has written (register offset, tick, value), the latest of each; R285; reset none. -/
  wrB : List (Nat × Nat × Nat)
  /-- Transfers of which a write was dropped at its destination (router, source node, owner), whose signal is not applied; R96, R245; reset none. -/
  lost : List (Nat × Nat × Nat)
  /-- Work that has failed and whose request Enara firmware has still to end: owner, status, reason; R95, R184, R246; reset none. -/
  fails : List (BitVec 32 × Nat × Nat)
  /-- The model's own counter of free values drawn (no register of the part); reset 0 (DESIGN CHOICE, log entry 2). -/
  free : Nat
  /-- Everything sent outside or between units, in order; the model's own record; reset empty. -/
  out : List Out
deriving DecidableEq, Repr

/-- Why a command stops the model: no meaning raises it (safe). -/
inductive Fault where
  /-- Raised by no command; every row of the table has an effect the spec gives. -/
  | unused
deriving DecidableEq, Repr

/-- Why a command has no meaning. -/
inductive Refusal where
  /-- Raised by an arm of Dispatch whose command has no meaning yet; safe. -/
  | notModelled (mnemonic : String)
deriving DecidableEq, Repr

/-- The outcome of a command. -/
abbrev Res (σ : Type) := Host.Outcome σ Fault Refusal

/-- The part at reset: every register at its reset value, memory listing nothing. -/
def State.reset : State :=
  { pending := [], regs := [], now := 0, cycle0 := none, sp := [], stk := [], cells := [], tiles := [], objs := [],
    chans := [], secs := [], lnks := [], bundles := [], fab := 0, bind := none, fbind := none, tm := TimeSt.init, latSw := none, lat := [], latHold := [], tan := [], chTurn := [], board := Board.init, ports := [], serve := Serve.init, ws := WStore.init, pw := Power.init, fe := Engine.init, cfg := CfgArea.init, hu := [], secu := Secu.init,
    latch := [], wrB := [], lost := [], fails := [], free := 0, out := [] }

end Sys2Proof.Machine
end

