-- ==== Sys2Proof/Machine/Access.lean ====
section
/-! DEFINITION. Access to the state: registers, counters, tiles, what is sent. -/

namespace Sys2Proof.Machine

open Sys2Proof

/-- Ticks of 940 MHz in `n` microseconds (R12). -/
def usTicks (n : Nat) : Nat := n * 940

/-! ### Registers (R9 to R12) -/

/-- The value of a field. -/
def State.get (s : State) (f : FRef) : Nat := Nat.xor (sget 0 s.regs f.key) f.rst

/-- The state with field `f` holding the low bits of `v`. -/
def State.put (s : State) (f : FRef) (v : Nat) : State :=
  { s with regs := sset 0 s.regs f.key (Nat.xor (v % 2 ^ f.w) f.rst) }

/-- A saturating counter advanced by `n` (R49, R119 and the counter rules). -/
def State.bump (s : State) (f : FRef) (n : Nat := 1) : State := s.put f (min (s.get f + n) (2 ^ f.w - 1))

/-- An event bit set. -/
def State.set1 (s : State) (f : FRef) : State := s.put f 1

/-- Every field of a list at zero (the counter clears). -/
def State.zero (s : State) (l : List FRef) : State := l.foldl (fun s f => s.put f 0) s

/-- Something sent. -/
def State.emit (s : State) (o : Out) : State := { s with out := s.out ++ [o] }

/-- A counter and its event bit advanced by `n`. -/
def State.bumpEvt (s : State) (cnt evt : FRef) (n : Nat := 1) : State :=
  if n = 0 then s else (s.bump cnt n).set1 evt

/-- Work of request `owner` has failed; Enara firmware ends the request with `status` and `reason` (R95, R184, R246). Work of the system has no owner. -/
def State.workFailed (s : State) (owner : BitVec 32) (status reason : Nat) : State :=
  if owner = 0xFFFFFFFF#32 then s
  else { s with fails := s.fails ++ [(owner, status, reason)] }.emit (.endReq owner status reason)

/-- Status codes of Table 10-9. -/
def stNONFINITE : Nat := 6
/-- FAULT. -/
def stFAULT : Nat := 7

/-- A number for the next free value. -/
def State.draw (s : State) (n : Nat := 1) : State := { s with free := s.free + n }

/-- `f` iterated over a list of states' changes. -/
def State.each {α : Type} (s : State) (l : List α) (f : State → α → State) : State := l.foldl f s

/-! ### Tiles -/

/-- Tile `t`. -/
def State.tile (s : State) (t : Site) : Tile := sget Tile.init s.tiles t.val

/-- The state with tile `t` changed by `f`. -/
def State.onTile (s : State) (t : Site) (f : Tile → Tile) : State :=
  { s with tiles := supd Tile.init s.tiles t.val f }

/-- Scalar register `i`; s0 reads as zero (R121). -/
def Tile.s (x : Tile) (i : BitVec 5) : Word64 := if i = 0 then 0 else sget 0 x.sr i.toNat

/-- A write of scalar register `i`; writes to s0 are discarded (R121). -/
def Tile.setS (x : Tile) (i : BitVec 5) (v : Word64) : Tile :=
  if i = 0 then x else { x with sr := sset 0 x.sr i.toNat v }

/-- Vector register `i` (R120). -/
def Tile.v (x : Tile) (i : BitVec 5) : BitVec 1024 := sget 0 x.vr i.toNat

/-- The X-tag of vector register `i` (R120). -/
def Tile.x (x : Tile) (i : BitVec 5) : BitVec 64 := sget 0 x.xt i.toNat

/-- A write of vector register `i`. -/
def Tile.setV (x : Tile) (i : BitVec 5) (v : BitVec 1024) : Tile := { x with vr := sset 0 x.vr i.toNat v }

/-- A write of the X-tag of vector register `i`. -/
def Tile.setX (x : Tile) (i : BitVec 5) (v : BitVec 64) : Tile := { x with xt := sset 0 x.xt i.toNat v }

/-- Mask register number `i` (its low 3 bits, R124); m0 reads as all ones (R121). -/
def Tile.m (x : Tile) (i : Nat) : BitVec 512 := if i % 8 = 0 then BitVec.allOnes 512 else sget 0 x.mr (i % 8)

/-- A write of mask register `i`; writes to m0 are discarded (R121). -/
def Tile.setM (x : Tile) (i : Nat) (v : BitVec 512) : Tile :=
  if i % 8 = 0 then x else { x with mr := sset 0 x.mr (i % 8) v }

/-- The issue queue with code `q` (Table 3-2). -/
def Tile.queue (x : Tile) (q : Nat) : Queue :=
  if q = 0 then x.qArr else if q = 1 then x.qTu else if q = 2 then x.qDma else x.qSync

/-- The tile with issue queue `q` replaced. -/
def Tile.setQueue (x : Tile) (q : Nat) (v : Queue) : Tile :=
  if q = 0 then { x with qArr := v } else if q = 1 then { x with qTu := v }
  else if q = 2 then { x with qDma := v } else { x with qSync := v }

/-- The depth of queue `q` (Table 3-2). -/
def queueDepth (q : Nat) : Nat := if q = 0 then 32 else 16

/-- Bank `b` of a tile. -/
def Tile.bank (x : Tile) (b : Nat) : Bank := sget Bank.init x.banks b

/-- The tile with bank `b` changed. -/
def Tile.onBank (x : Tile) (b : Nat) (f : Bank → Bank) : Tile := { x with banks := supd Bank.init x.banks b f }

/-- Array controller `a` of a tile. -/
def Tile.ctl (x : Tile) (a : Nat) : ArrCtl := sget ArrCtl.init x.arr a

/-- The tile with controller `a` changed. -/
def Tile.onCtl (x : Tile) (a : Nat) (f : ArrCtl → ArrCtl) : Tile := { x with arr := supd ArrCtl.init x.arr a f }

/-- Output block `k` of a tile's EBA. -/
def Tile.blk (x : Tile) (k : Nat) : Blk := sget Blk.init x.blks k

/-- The tile with output block `k` changed. -/
def Tile.onBlk (x : Tile) (k : Nat) (f : Blk → Blk) : Tile := { x with blks := supd Blk.init x.blks k f }

/-- TILE[t].SPOWN.OWNER_b. -/
def spownF (t b : Nat) : FRef := ⟨0x2000010 + 0x10000 * t, 4 * b, 3, 3⟩

/-- The owner of bank `b` (R94): NONE 0, VC 1, TU 2, DMA 3, EDGE 4, RQU 5. -/
def State.owner (s : State) (t : Site) (b : Nat) : Nat := s.get (spownF t.val b)

/-- The logical tile mapped to site `t` by TOP.REMAP (R154). -/
def State.logicalOf (s : State) (t : Nat) : Option Nat :=
  findIx (fun l => s.get (R.REMAP_SITE l) == t) (List.range 256)

/-- The site of logical tile `l` (R154). -/
def State.siteOf (s : State) (l : Nat) : Site := Fin.ofNat 288 (s.get (R.REMAP_SITE l))

/-- DUAL is in force (R447). -/
def State.dual (s : State) : Bool := s.get R.FLT_STAT_REDUND == 1

/-- The value TILE[t].TILE_ID reads (Table 3-8); LVALID and LOGICAL follow the REMAP entries at reset too, where the table gives 0 (DESIGN CHOICE, log entry 86). -/
def State.tileId (s : State) (t : Site) : Nat :=
  t.val + t.val % 9 * 2 ^ 12 + t.val / 9 * 2 ^ 16 +
    (match s.logicalOf t.val with | some l => 2 ^ 23 + l * 2 ^ 24 | none => 0)

/-! ### Objects, channels, stacks -/

/-- Object `i`. -/
def State.obj (s : State) (i : Nat) : Obj := sget Obj.init s.objs i

/-- The state with object `i` changed. -/
def State.onObj (s : State) (i : Nat) (f : Obj → Obj) : State := { s with objs := supd Obj.init s.objs i f }

/-- Channel `c`. -/
def State.chan (s : State) (c : Nat) : Chan := sget Chan.init s.chans c

/-- The state with channel `c` changed. -/
def State.onChan (s : State) (c : Nat) (f : Chan → Chan) : State := { s with chans := supd Chan.init s.chans c f }

/-- Stack controller `n`. -/
def State.sec (s : State) (n : Nat) : Sec := sget Sec.init s.secs n

/-- The state with stack controller `n` changed. -/
def State.onSec (s : State) (n : Nat) (f : Sec → Sec) : State := { s with secs := supd Sec.init s.secs n f }

end Sys2Proof.Machine
end

