-- ==== Sys2Proof/Machine/Counters.lean ====
section
/-! DEFINITION. The counters of each block, as the rules list them (R49, R84, R119, R195, R220, R250, R252, R278, R318, R353, R389, R425, R455, R478). -/

namespace Sys2Proof.Machine

open Sys2Proof

/-- Counters of the array sequencer of tile `i` (Table 1-20). -/
def ctrAseq (i : Nat) : List FRef :=
  [R.OP_CNT i, R.CONV_CNT i, R.SPLIT_CNT i, R.RERUN_CNT i, R.COLSAT_CNT i, R.CHK_FAIL_CNT i, R.CHK_SKIP_CNT i, R.EMPTY_PLANE_CNT i,
   R.GAIN_FORCE_CNT i, R.GMAX_CAP_CNT i, R.PLOCK_CNT i, R.PROG_SLOT_CNT i]

/-- Counters of the digital pipeline of tile `i` (R84). -/
def ctrRqu (i : Nat) : List FRef :=
  [R.BLK_CNT i, R.ZERO_BLK i, R.OUT_OVF i, R.OUTLIER_CNT i, R.QCLIP_CNT i, R.NONFIN_CNT i, R.NONFIN_FAIL i, R.EBA_RANGE i, R.EBA_LATE i,
   R.CVT_OVF i, R.QREC_FIX i]

/-- Counters of tile `i` (R119). -/
def ctrTile (i : Nat) : List FRef :=
  [R.VC_INSTR_CNT i, R.VC_ISTALL_CYC i, R.ARR_HW_CYC i, R.TU_HW_CYC i, R.DMA_HW_CYC i, R.SYNC_HW_CYC i, R.TU_BUSY_CYC i, R.TU_OP_CNT i,
   R.SP_OWNER_CNT i, R.SP_WCOLL_CNT i, R.SP_WAKE_CNT i, R.QSTALL_CNT i, R.SPOWN_RACE_CNT i, R.FENCE_DROP_CNT i, R.TU_CLAMP_CNT i,
   R.EDGE_STALL_CYC i]

/-- Counters of stack controller `i` (R195). -/
def ctrMc (i : Nat) : List FRef :=
  [R.LOCAL_BYTES i, R.LATT_BYTES i, R.REF_CNT i, R.RMW_CNT i, R.CE_CNT i, R.UE_CNT i, R.SCRUB_CE i, R.SCRUB_UE i, R.ADDR_ERR_CNT i,
   R.PROT_DROP_CNT i, R.SR_HELD_CNT i, R.REF2X_MS i]

/-- Counters of router `i` (Table 7-14). -/
def ctrRouter (i : Nat) : List FRef :=
  [R.RT_FLIT_CNT i, R.RT_STALL_CYC i, R.RT_EJ_FULL_CYC i, R.RT_CE i, R.RT_UE i, R.RT_SLOT_VIOL i]

/-- Counters of the tangent and the lattice (Table 7-14). -/
def ctrNet : List FRef :=
  [R.TAN_MSG_CNT, R.TAN_INS_WAIT_CYC, R.TAN_CE_CNT, R.TAN_UE_CNT, R.LAT_SWITCH_CNT, R.LAT_QTO_CNT]

/-- Counters of the synchronisation block (R250). -/
def ctrSync : List FRef :=
  [R.SIG_CNT, R.WAIT_CNT, R.STALE_SIG, R.WAITQ_FULL, R.SIG_OVF, R.FREE_OP_CNT, R.RECIRC_CNT, R.LEND_CNT, R.RECLAIM_MAX, R.RECLAIM_SLOW_CNT]

/-- Counters of the DMA block (Table 8-15). -/
def ctrDma : List FRef :=
  [R.DESC_CNT, R.ERR_CNT, R.RSP_LATE_CNT, R.VAL_CNT]

/-- Counters of link `i` (R278). -/
def ctrLnk (i : Nat) : List FRef :=
  [R.FLIT_TX i, R.FLIT_RX i, R.FEC_CORR i, R.FEC_UNCORR i, R.CRC_ERR i, R.RETRY_CNT i, R.BEACON_RX i]

/-- Counters of the fabric (R278). -/
def ctrFab : List FRef :=
  [R.FAB_STALE_CNT, R.WNAK_CNT, R.ROUTE_CNT, R.TC_STEP_CNT, R.MARK_LATE_CNT, R.ADOPT_CNT]

/-- Counters of host port `i` (R318). -/
def ctrHq (i : Nat) : List FRef :=
  [R.SQ_FETCH_CNT i, R.CQ_POST_CNT i, R.TQ_POST_CNT i, R.MSIX_CNT i, R.DB_ERR_CNT i, R.CQ_HOLD_CNT i, R.TQ_HOLD_CNT i]

/-- Counters of the serving engine (R353). -/
def ctrServe : List FRef :=
  [R.STEP_CNT, R.TOKEN_CNT, R.ADMIT_CNT, R.REJECT_CNT, R.STALE_ID_CNT, R.STEP_OVERRUN_CNT, R.ORBIT_TO_CNT, R.DEADLINE_CNT,
   R.CANCEL_LATE_CNT, R.BUDGET_TO_CNT, R.GRAMMAR_OVF_CNT, R.GRAMMAR_DEAD_CNT, R.PFX_EVICT_CNT, R.NAN_LOGIT_CNT]

/-- Counters of the weight store (R389). -/
def ctrWs : List FRef :=
  [R.CHUNK_CNT, R.PROG_PLANE_CNT, R.PULSE_CNT, R.LOAD_CNT, R.LOAD_FAIL_CNT, R.TAG_FAIL_CNT, R.REFETCH_CNT, R.STUCK_CELL_CNT, R.W_CLAMP_CNT,
   R.DUP_REC_CNT, R.HOLDUP_WAIT_CNT, R.HOLDUP_REFUSE_CNT, R.REFRESH_CNT, R.REFRESH_WAIT_CNT, R.SPARE_PROG_CNT, R.WEAR_BLOCK_CNT,
   R.SWITCH_CNT, R.REBUILD_CNT]

/-- Counters of the power block (R425). -/
def ctrPwr : List FRef :=
  [R.THROTTLE_CYC, R.DROOP_CNT, R.OVER_CNT, R.WARN_CNT, R.STOP_CNT, R.LC_MISMATCH_CNT, R.CAL_RUN_CNT, R.PROFILE_CHG_CNT]

/-- Counters of housekeeping (R425). -/
def ctrHk : List FRef :=
  [R.ROUND_CNT, R.HK_DROP_CNT, R.CAPTURE_CNT]

/-- Counters of the fault engine (Table 14-13). -/
def ctrFlt : List FRef :=
  [R.EVT_CNT, R.KS_TEST_CNT, R.KS_FAIL_CNT, R.KS_UNCONF_CNT, R.COL_REPAIR_CNT, R.FENCE_CNT, R.FLUSH_CNT, R.MERGE_CNT, R.DRIFT_CNT,
   R.DUAL_MISMATCH_CNT, R.TMR_CORR_CNT, R.PARITY_CNT, R.REC_RESET_CNT]

/-- Counters of the security core (R478). -/
def ctrSecu : List FRef :=
  [R.REPORT_CNT, R.MSG_CNT, R.DENIED_CNT, R.ZEROISE_CNT, R.RNG_FAIL_CNT]

/-- Counters of the management port (R478). -/
def ctrMgmt : List FRef :=
  [R.MCTP_RX_CNT, R.MCTP_DROP_CNT, R.EVT_DROP_CNT]

/-- The event counters of an array (R49). -/
def ctrArrerr (i j : Nat) : List FRef := [R.ARRERR_COLSAT_A i j, R.ARRERR_CHKF_A i j]

/-- The byte counters of the 272 channels (R251). -/
def ctrBytes : List FRef :=
  ((List.range 32).flatMap fun n => (List.range 8).map fun c => R.DCH_BYTES n c) ++ (List.range 16).map fun c => R.HCH_BYTES c

/-- The counters whose block holds offset `off`. -/
def ctrAt (off : Nat) : List FRef :=
  if 0x2000000 ≤ off then
    let t := (off - 0x2000000) / 0x10000
    ctrAseq t ++ ctrRqu t ++ ctrTile t ++ ctrRouter t ++ ctrArrerr t ((off % 0x10000 - 0x8000) / 0x80)
  else if 0x1000000 ≤ off then
    ctrMc ((off - 0x1000000) / 0x10000) ++ [R.DCH_BYTES ((off - 0x1000000) / 0x10000) ((off % 0x10000 - 0x6000) / 0x40)]
  else if 0xC00000 ≤ off then ctrLnk ((off - 0xC00000) / 0x1000)
  else if 0x800000 ≤ off then ctrWs
  else if 0x700000 ≤ off then ctrServe
  else if 0x600000 ≤ off then ctrDma ++ [R.HCH_BYTES ((off - 0x601000) / 0x40)]
  else if 0x500000 ≤ off then ctrSync
  else if 0x400000 ≤ off then ctrMgmt
  else if 0x300000 ≤ off then ctrSecu
  else if 0x200000 ≤ off then ctrHk
  else if 0x100000 ≤ off then ctrPwr
  else ctrNet ++ ctrFab ++ ctrFlt ++ ctrHq ((off - 0x6000) / 0x100)

/-- The counters of which the 32-bit word at `off` is a part. -/
def ctrWord (off : Nat) : List FRef := (ctrAt off).filter fun f => decide (f.off ≤ off) && decide (off < f.off + (f.lsb + f.w + 31) / 32 * 4)

end Sys2Proof.Machine
end

