-- ==== Sys2Proof/Machine/RegTable.lean ====
section
/-! DEFINITION. The register map of BAR0 as a table: name, offset, bytes, instances, fields with access and range (R10, R285 and the register tables). -/

namespace Sys2Proof.Machine

open Sys2Proof

/-- Access codes of Table 0-4 (R10). -/
inductive Acc where
  | rw | ro | wo | w1c | w1s | rc
deriving DecidableEq, Repr

/-- What a written value of a field becomes (the field's Description column, R295). -/
inductive WRule where
  | any
  | range (lo hi : Nat)
  | subst (lo hi v : Nat)
  | aqcq
  | fetchA
deriving DecidableEq, Repr

/-- A field of the map: bits, access, reset, rule. -/
structure FDesc where
  lsb : Nat
  w : Nat
  acc : Acc
  rst : Nat
  rule : WRule
deriving DecidableEq, Repr

/-- A register of the map: name, offset of instance 0, bytes, (stride, count) of its instances, fields. -/
structure RDesc where
  name : String
  off : Nat
  bytes : Nat
  inst : List (Nat × Nat)
  fields : List FDesc
deriving DecidableEq, Repr

/-- Part 1 of the map. -/
def regTable1 : List RDesc :=
  [ ⟨"TILE.ASEQ_CTL", 0x2002000, 4, [(65536, 288)], [⟨0, 1, .rw, 1, .any⟩, ⟨1, 1, .rw, 1, .any⟩, ⟨2, 1, .rw, 1, .any⟩, ⟨4, 2, .rw, 3, .any⟩, ⟨8, 8, .rw, 32, .range 4 255⟩, ⟨16, 8, .rw, 16, .range 4 64⟩]⟩,
    ⟨"TILE.ASEQ_STAT", 0x2002004, 4, [(65536, 288)], [⟨0, 6, .ro, 0, .any⟩, ⟨8, 1, .ro, 1, .any⟩, ⟨9, 1, .ro, 0, .any⟩]⟩,
    ⟨"TILE.ASEQ_EVT", 0x2002008, 4, [(65536, 288)], [⟨0, 1, .w1c, 0, .any⟩, ⟨1, 1, .w1c, 0, .any⟩, ⟨2, 1, .w1c, 0, .any⟩, ⟨3, 1, .w1c, 0, .any⟩, ⟨4, 1, .w1c, 0, .any⟩]⟩,
    ⟨"TILE.ASEQ_BUSY", 0x2002010, 8, [(65536, 288)], [⟨0, 64, .ro, 0, .any⟩]⟩,
    ⟨"TILE.ASEQ_CNT_CLR", 0x2002018, 4, [(65536, 288)], [⟨0, 1, .wo, 0, .any⟩]⟩,
    ⟨"TILE.OTRIM_SEL", 0x2002020, 4, [(65536, 288)], [⟨0, 6, .rw, 0, .any⟩]⟩,
    ⟨"TILE.PSWAP", 0x2002028, 8, [(65536, 288)], [⟨0, 64, .ro, 0, .any⟩]⟩,
    ⟨"TILE.ARRCFG", 0x2008000, 4, [(65536, 288), (128, 64)], [⟨0, 2, .ro, 3, .any⟩, ⟨2, 2, .ro, 3, .any⟩, ⟨4, 1, .ro, 0, .any⟩, ⟨5, 1, .ro, 0, .any⟩]⟩,
    ⟨"TILE.ARRSTAT", 0x2008004, 4, [(65536, 288), (128, 64)], [⟨0, 4, .ro, 0, .any⟩, ⟨4, 1, .ro, 0, .any⟩, ⟨5, 1, .ro, 0, .any⟩, ⟨6, 1, .ro, 0, .any⟩]⟩,
    ⟨"TILE.ARRSPR0", 0x2008008, 4, [(65536, 288), (128, 64)], [⟨0, 7, .ro, 0, .any⟩, ⟨7, 1, .ro, 0, .any⟩, ⟨8, 7, .ro, 0, .any⟩, ⟨15, 1, .ro, 0, .any⟩, ⟨16, 7, .ro, 0, .any⟩, ⟨23, 1, .ro, 0, .any⟩, ⟨24, 7, .ro, 0, .any⟩, ⟨31, 1, .ro, 0, .any⟩]⟩,
    ⟨"TILE.ARRSPR1", 0x200800c, 4, [(65536, 288), (128, 64)], [⟨0, 7, .ro, 0, .any⟩, ⟨7, 1, .ro, 0, .any⟩, ⟨8, 7, .ro, 0, .any⟩, ⟨15, 1, .ro, 0, .any⟩, ⟨16, 7, .ro, 0, .any⟩, ⟨23, 1, .ro, 0, .any⟩, ⟨24, 7, .ro, 0, .any⟩, ⟨31, 1, .ro, 0, .any⟩]⟩,
    ⟨"TILE.ARRCAL", 0x2008010, 4, [(65536, 288), (128, 64)], [⟨0, 12, .ro, 2048, .any⟩]⟩,
    ⟨"TILE.ARRERR", 0x2008018, 4, [(65536, 288), (128, 64)], [⟨0, 16, .ro, 0, .any⟩, ⟨16, 16, .ro, 0, .any⟩]⟩,
    ⟨"TILE.OP_CNT", 0x2002040, 8, [(65536, 288)], [⟨0, 64, .ro, 0, .any⟩]⟩,
    ⟨"TILE.CONV_CNT", 0x2002048, 8, [(65536, 288)], [⟨0, 64, .ro, 0, .any⟩]⟩,
    ⟨"TILE.SPLIT_CNT", 0x2002050, 4, [(65536, 288)], [⟨0, 32, .ro, 0, .any⟩]⟩ ]

/-- Part 2 of the map. -/
def regTable2 : List RDesc :=
  [ ⟨"TILE.RERUN_CNT", 0x2002054, 4, [(65536, 288)], [⟨0, 32, .ro, 0, .any⟩]⟩,
    ⟨"TILE.COLSAT_CNT", 0x2002058, 4, [(65536, 288)], [⟨0, 32, .ro, 0, .any⟩]⟩,
    ⟨"TILE.CHK_FAIL_CNT", 0x200205c, 4, [(65536, 288)], [⟨0, 32, .ro, 0, .any⟩]⟩,
    ⟨"TILE.CHK_SKIP_CNT", 0x2002060, 4, [(65536, 288)], [⟨0, 32, .ro, 0, .any⟩]⟩,
    ⟨"TILE.EMPTY_PLANE_CNT", 0x2002064, 4, [(65536, 288)], [⟨0, 32, .ro, 0, .any⟩]⟩,
    ⟨"TILE.GAIN_FORCE_CNT", 0x2002068, 4, [(65536, 288)], [⟨0, 32, .ro, 0, .any⟩]⟩,
    ⟨"TILE.GMAX_CAP_CNT", 0x200206c, 4, [(65536, 288)], [⟨0, 32, .ro, 0, .any⟩]⟩,
    ⟨"TILE.PLOCK_CNT", 0x2002070, 4, [(65536, 288)], [⟨0, 32, .ro, 0, .any⟩]⟩,
    ⟨"TILE.PROG_SLOT_CNT", 0x2002074, 4, [(65536, 288)], [⟨0, 32, .ro, 0, .any⟩]⟩,
    ⟨"TILE.RQU_CNT_CLR", 0x2002100, 4, [(65536, 288)], [⟨0, 1, .wo, 0, .any⟩]⟩,
    ⟨"TILE.BLK_CNT", 0x2002110, 8, [(65536, 288)], [⟨0, 64, .ro, 0, .any⟩]⟩,
    ⟨"TILE.ZERO_BLK", 0x2002118, 4, [(65536, 288)], [⟨0, 32, .ro, 0, .any⟩]⟩,
    ⟨"TILE.OUT_OVF", 0x200211c, 4, [(65536, 288)], [⟨0, 32, .ro, 0, .any⟩]⟩,
    ⟨"TILE.OUTLIER_CNT", 0x2002120, 4, [(65536, 288)], [⟨0, 32, .ro, 0, .any⟩]⟩,
    ⟨"TILE.QCLIP_CNT", 0x2002124, 4, [(65536, 288)], [⟨0, 32, .ro, 0, .any⟩]⟩,
    ⟨"TILE.NONFIN_CNT", 0x2002128, 4, [(65536, 288)], [⟨0, 32, .ro, 0, .any⟩]⟩ ]

/-- Part 3 of the map. -/
def regTable3 : List RDesc :=
  [ ⟨"TILE.NONFIN_FAIL", 0x200212c, 4, [(65536, 288)], [⟨0, 32, .ro, 0, .any⟩]⟩,
    ⟨"TILE.EBA_RANGE", 0x2002130, 4, [(65536, 288)], [⟨0, 32, .ro, 0, .any⟩]⟩,
    ⟨"TILE.EBA_LATE", 0x2002134, 4, [(65536, 288)], [⟨0, 32, .ro, 0, .any⟩]⟩,
    ⟨"TILE.CVT_OVF", 0x2002138, 4, [(65536, 288)], [⟨0, 32, .ro, 0, .any⟩]⟩,
    ⟨"TILE.QREC_FIX", 0x200213c, 4, [(65536, 288)], [⟨0, 32, .ro, 0, .any⟩]⟩,
    ⟨"TILE.TILE_ID", 0x2000000, 4, [(65536, 288)], [⟨0, 9, .ro, 0, .any⟩, ⟨12, 4, .ro, 0, .any⟩, ⟨16, 5, .ro, 0, .any⟩, ⟨23, 1, .ro, 0, .any⟩, ⟨24, 8, .ro, 0, .any⟩]⟩,
    ⟨"TILE.TILE_CTL", 0x2000004, 4, [(65536, 288)], [⟨0, 1, .rw, 0, .any⟩, ⟨1, 1, .wo, 0, .any⟩, ⟨2, 1, .rw, 1, .any⟩]⟩,
    ⟨"TILE.TILE_STAT", 0x2000008, 4, [(65536, 288)], [⟨0, 3, .ro, 0, .any⟩, ⟨4, 2, .ro, 0, .any⟩, ⟨8, 1, .ro, 0, .any⟩, ⟨9, 1, .ro, 0, .any⟩, ⟨10, 1, .ro, 0, .any⟩]⟩,
    ⟨"TILE.SPOWN", 0x2000010, 4, [(65536, 288)], [⟨0, 3, .rw, 3, .subst 6 4294967295 0⟩, ⟨4, 3, .rw, 3, .subst 6 4294967295 0⟩, ⟨8, 3, .rw, 3, .subst 6 4294967295 0⟩, ⟨12, 3, .rw, 3, .subst 6 4294967295 0⟩, ⟨16, 3, .rw, 3, .subst 6 4294967295 0⟩, ⟨20, 3, .rw, 3, .subst 6 4294967295 0⟩, ⟨24, 3, .rw, 3, .subst 6 4294967295 0⟩, ⟨28, 3, .rw, 3, .subst 6 4294967295 0⟩]⟩,
    ⟨"TILE.SPRET", 0x2000014, 4, [(65536, 288)], [⟨0, 8, .rw, 0, .any⟩]⟩,
    ⟨"TILE.SPSTAT", 0x2000018, 4, [(65536, 288)], [⟨0, 2, .ro, 0, .any⟩, ⟨2, 2, .ro, 0, .any⟩, ⟨4, 2, .ro, 0, .any⟩, ⟨6, 2, .ro, 0, .any⟩, ⟨8, 2, .ro, 0, .any⟩, ⟨10, 2, .ro, 0, .any⟩, ⟨12, 2, .ro, 0, .any⟩, ⟨14, 2, .ro, 0, .any⟩]⟩,
    ⟨"TILE.SPEVT", 0x200001c, 4, [(65536, 288)], [⟨0, 1, .w1c, 0, .any⟩, ⟨1, 1, .w1c, 0, .any⟩, ⟨2, 1, .w1c, 0, .any⟩, ⟨3, 1, .w1c, 0, .any⟩, ⟨4, 1, .w1c, 0, .any⟩, ⟨5, 1, .w1c, 0, .any⟩, ⟨6, 1, .w1c, 0, .any⟩]⟩,
    ⟨"TILE.SPERR", 0x2000020, 4, [(65536, 288)], [⟨0, 15, .ro, 0, .any⟩, ⟨15, 1, .ro, 0, .any⟩, ⟨16, 3, .ro, 0, .any⟩, ⟨20, 3, .ro, 0, .any⟩, ⟨31, 1, .ro, 0, .any⟩]⟩,
    ⟨"TILE.VC_PC", 0x2000040, 4, [(65536, 288)], [⟨3, 18, .rw, 0, .any⟩]⟩,
    ⟨"TILE.VC_STAT", 0x2000044, 4, [(65536, 288)], [⟨0, 8, .ro, 0, .any⟩, ⟨11, 21, .ro, 0, .any⟩]⟩,
    ⟨"TILE.Q_STAT", 0x2000050, 8, [(65536, 288)], [⟨0, 6, .ro, 0, .any⟩, ⟨8, 5, .ro, 0, .any⟩, ⟨16, 5, .ro, 0, .any⟩, ⟨24, 5, .ro, 0, .any⟩, ⟨32, 4, .ro, 0, .any⟩]⟩ ]

/-- Part 4 of the map. -/
def regTable4 : List RDesc :=
  [ ⟨"TILE.QSTALL_LIM", 0x2000058, 4, [(65536, 288)], [⟨0, 20, .rw, 10000, .range 100 1000000⟩]⟩,
    ⟨"TILE.TILE_CNT_CLR", 0x200005c, 4, [(65536, 288)], [⟨0, 1, .wo, 0, .any⟩]⟩,
    ⟨"TILE.VC_INSTR_CNT", 0x2000080, 8, [(65536, 288)], [⟨0, 64, .ro, 0, .any⟩]⟩,
    ⟨"TILE.VC_ISTALL_CYC", 0x2000088, 8, [(65536, 288)], [⟨0, 64, .ro, 0, .any⟩]⟩,
    ⟨"TILE.ARR_HW_CYC", 0x2000090, 8, [(65536, 288)], [⟨0, 64, .ro, 0, .any⟩]⟩,
    ⟨"TILE.TU_HW_CYC", 0x2000098, 8, [(65536, 288)], [⟨0, 64, .ro, 0, .any⟩]⟩,
    ⟨"TILE.DMA_HW_CYC", 0x20000a0, 8, [(65536, 288)], [⟨0, 64, .ro, 0, .any⟩]⟩,
    ⟨"TILE.SYNC_HW_CYC", 0x20000a8, 8, [(65536, 288)], [⟨0, 64, .ro, 0, .any⟩]⟩,
    ⟨"TILE.TU_BUSY_CYC", 0x20000b0, 8, [(65536, 288)], [⟨0, 64, .ro, 0, .any⟩]⟩,
    ⟨"TILE.TU_OP_CNT", 0x20000b8, 4, [(65536, 288)], [⟨0, 32, .ro, 0, .any⟩]⟩,
    ⟨"TILE.SP_OWNER_CNT", 0x20000bc, 4, [(65536, 288)], [⟨0, 32, .ro, 0, .any⟩]⟩,
    ⟨"TILE.SP_WCOLL_CNT", 0x20000c0, 4, [(65536, 288)], [⟨0, 32, .ro, 0, .any⟩]⟩,
    ⟨"TILE.SP_WAKE_CNT", 0x20000c4, 4, [(65536, 288)], [⟨0, 32, .ro, 0, .any⟩]⟩,
    ⟨"TILE.QSTALL_CNT", 0x20000c8, 4, [(65536, 288)], [⟨0, 32, .ro, 0, .any⟩]⟩,
    ⟨"TILE.SPOWN_RACE_CNT", 0x20000cc, 4, [(65536, 288)], [⟨0, 32, .ro, 0, .any⟩]⟩,
    ⟨"TILE.FENCE_DROP_CNT", 0x20000d0, 4, [(65536, 288)], [⟨0, 32, .ro, 0, .any⟩]⟩ ]

/-- Part 5 of the map. -/
def regTable5 : List RDesc :=
  [ ⟨"TILE.TU_CLAMP_CNT", 0x20000d4, 4, [(65536, 288)], [⟨0, 32, .ro, 0, .any⟩]⟩,
    ⟨"TILE.EDGE_STALL_CYC", 0x20000d8, 4, [(65536, 288)], [⟨0, 32, .ro, 0, .any⟩]⟩,
    ⟨"TILE.EBAFWD", 0x2003000, 4, [(65536, 288), (4, 32)], [⟨0, 8, .rw, 0, .any⟩, ⟨8, 5, .rw, 0, .any⟩, ⟨16, 1, .rw, 0, .any⟩]⟩,
    ⟨"TILE.LSLOT", 0x2004000, 4, [(65536, 288), (4, 256)], [⟨0, 4, .rw, 15, .subst 7 13 15⟩, ⟨4, 4, .rw, 15, .subst 7 13 15⟩, ⟨8, 4, .rw, 15, .subst 7 13 15⟩, ⟨12, 4, .rw, 15, .subst 7 13 15⟩, ⟨16, 4, .rw, 15, .subst 7 13 15⟩, ⟨20, 4, .rw, 15, .subst 7 13 15⟩, ⟨24, 4, .rw, 15, .subst 7 13 15⟩]⟩,
    ⟨"TILE.RT_FLIT_CNT", 0x2003400, 8, [(65536, 288)], [⟨0, 64, .ro, 0, .any⟩]⟩,
    ⟨"TILE.RT_STALL_CYC", 0x2003408, 8, [(65536, 288)], [⟨0, 64, .ro, 0, .any⟩]⟩,
    ⟨"TILE.RT_EJ_FULL_CYC", 0x2003410, 4, [(65536, 288)], [⟨0, 32, .ro, 0, .any⟩]⟩,
    ⟨"TILE.RT_CE", 0x2003414, 4, [(65536, 288)], [⟨0, 32, .ro, 0, .any⟩]⟩,
    ⟨"TILE.RT_UE", 0x2003418, 4, [(65536, 288)], [⟨0, 32, .ro, 0, .any⟩]⟩,
    ⟨"TILE.RT_SLOT_VIOL", 0x200341c, 4, [(65536, 288)], [⟨0, 32, .ro, 0, .any⟩]⟩,
    ⟨"TOP.REMAP", 0x1000, 4, [(4, 256)], [⟨0, 9, .ro, 0, .any⟩, ⟨16, 1, .ro, 0, .any⟩]⟩,
    ⟨"TOP.REMAP_GEN", 0x1400, 4, [], [⟨0, 32, .ro, 0, .any⟩]⟩,
    ⟨"SCT.MC_CTL", 0x1004000, 4, [(65536, 32)], [⟨0, 1, .rw, 1, .any⟩, ⟨1, 1, .rw, 1, .any⟩, ⟨2, 1, .rw, 0, .any⟩, ⟨8, 8, .rw, 24, .range 1 168⟩, ⟨16, 4, .rw, 4, .range 2 15⟩]⟩,
    ⟨"SCT.MC_STAT", 0x1004004, 4, [(65536, 32)], [⟨0, 3, .ro, 0, .any⟩, ⟨3, 1, .ro, 0, .any⟩, ⟨8, 8, .ro, 0, .any⟩, ⟨16, 16, .ro, 0, .any⟩]⟩,
    ⟨"SCT.TRAIN_STAT", 0x1004008, 8, [(65536, 32)], [⟨0, 2, .ro, 3, .any⟩, ⟨2, 2, .ro, 0, .any⟩, ⟨4, 2, .ro, 3, .any⟩, ⟨6, 2, .ro, 0, .any⟩, ⟨8, 2, .ro, 3, .any⟩, ⟨10, 2, .ro, 0, .any⟩, ⟨12, 2, .ro, 3, .any⟩, ⟨14, 2, .ro, 0, .any⟩, ⟨16, 2, .ro, 3, .any⟩, ⟨18, 2, .ro, 0, .any⟩, ⟨20, 2, .ro, 3, .any⟩, ⟨22, 2, .ro, 0, .any⟩, ⟨24, 2, .ro, 3, .any⟩, ⟨26, 2, .ro, 0, .any⟩, ⟨28, 2, .ro, 3, .any⟩, ⟨30, 2, .ro, 0, .any⟩, ⟨32, 2, .ro, 3, .any⟩, ⟨34, 2, .ro, 0, .any⟩, ⟨36, 2, .ro, 3, .any⟩, ⟨38, 2, .ro, 0, .any⟩, ⟨40, 2, .ro, 3, .any⟩, ⟨42, 2, .ro, 0, .any⟩, ⟨44, 2, .ro, 3, .any⟩, ⟨46, 2, .ro, 0, .any⟩, ⟨48, 2, .ro, 3, .any⟩, ⟨50, 2, .ro, 0, .any⟩, ⟨52, 2, .ro, 3, .any⟩, ⟨54, 2, .ro, 0, .any⟩, ⟨56, 2, .ro, 3, .any⟩, ⟨58, 2, .ro, 0, .any⟩, ⟨60, 2, .ro, 3, .any⟩, ⟨62, 2, .ro, 0, .any⟩]⟩,
    ⟨"SCT.MC_EVT", 0x1004010, 4, [(65536, 32)], [⟨0, 1, .w1c, 0, .any⟩, ⟨1, 1, .w1c, 0, .any⟩, ⟨2, 1, .w1c, 0, .any⟩, ⟨3, 1, .w1c, 0, .any⟩, ⟨4, 1, .w1c, 0, .any⟩, ⟨5, 1, .w1c, 0, .any⟩, ⟨6, 1, .w1c, 0, .any⟩, ⟨7, 1, .w1c, 0, .any⟩]⟩ ]

/-- Part 6 of the map. -/
def regTable6 : List RDesc :=
  [ ⟨"SCT.UE_ADDR", 0x1004018, 8, [(65536, 32)], [⟨0, 38, .ro, 0, .any⟩, ⟨48, 4, .ro, 0, .any⟩, ⟨52, 4, .ro, 0, .any⟩, ⟨63, 1, .ro, 0, .any⟩]⟩,
    ⟨"SCT.UE_TAG", 0x1004020, 4, [(65536, 32)], [⟨0, 32, .ro, 0, .any⟩]⟩,
    ⟨"SCT.MC_CNT_CLR", 0x1004028, 4, [(65536, 32)], [⟨0, 1, .wo, 0, .any⟩]⟩,
    ⟨"SCT.MREG", 0x1004080, 8, [(65536, 32), (8, 8)], [⟨0, 16, .ro, 0, .any⟩, ⟨16, 16, .ro, 0, .any⟩]⟩,
    ⟨"SCT.LOCAL_BYTES", 0x1004100, 8, [(65536, 32)], [⟨0, 64, .ro, 0, .any⟩]⟩,
    ⟨"SCT.LATT_BYTES", 0x1004108, 8, [(65536, 32)], [⟨0, 64, .ro, 0, .any⟩]⟩,
    ⟨"SCT.REF_CNT", 0x1004110, 8, [(65536, 32)], [⟨0, 64, .ro, 0, .any⟩]⟩,
    ⟨"SCT.RMW_CNT", 0x1004118, 8, [(65536, 32)], [⟨0, 64, .ro, 0, .any⟩]⟩,
    ⟨"SCT.CE_CNT", 0x1004120, 4, [(65536, 32)], [⟨0, 32, .ro, 0, .any⟩]⟩,
    ⟨"SCT.UE_CNT", 0x1004124, 4, [(65536, 32)], [⟨0, 32, .ro, 0, .any⟩]⟩,
    ⟨"SCT.SCRUB_CE", 0x1004128, 4, [(65536, 32)], [⟨0, 32, .ro, 0, .any⟩]⟩,
    ⟨"SCT.SCRUB_UE", 0x100412c, 4, [(65536, 32)], [⟨0, 32, .ro, 0, .any⟩]⟩,
    ⟨"SCT.ADDR_ERR_CNT", 0x1004130, 4, [(65536, 32)], [⟨0, 32, .ro, 0, .any⟩]⟩,
    ⟨"SCT.PROT_DROP_CNT", 0x1004134, 4, [(65536, 32)], [⟨0, 32, .ro, 0, .any⟩]⟩,
    ⟨"SCT.SR_HELD_CNT", 0x1004138, 4, [(65536, 32)], [⟨0, 32, .ro, 0, .any⟩]⟩,
    ⟨"SCT.REF2X_MS", 0x100413c, 4, [(65536, 32)], [⟨0, 32, .ro, 0, .any⟩]⟩ ]

/-- Part 7 of the map. -/
def regTable7 : List RDesc :=
  [ ⟨"SCT.CAL_W", 0x1004200, 4, [(65536, 32)], [⟨0, 2, .rw, 0, .any⟩, ⟨8, 9, .rw, 0, .range 0 256⟩]⟩,
    ⟨"TOP.LAT_CTL", 0x4000, 4, [], [⟨0, 1, .rw, 0, .any⟩, ⟨4, 2, .rw, 2, .subst 3 4294967295 2⟩, ⟨8, 16, .rw, 100, .range 10 10000⟩]⟩,
    ⟨"TOP.LAT_STAT", 0x4004, 4, [], [⟨0, 1, .ro, 0, .any⟩, ⟨1, 1, .ro, 0, .any⟩, ⟨2, 1, .ro, 1, .any⟩]⟩,
    ⟨"TOP.NET_EVT", 0x4008, 4, [], [⟨0, 1, .w1c, 0, .any⟩, ⟨1, 1, .w1c, 0, .any⟩, ⟨2, 1, .w1c, 0, .any⟩, ⟨3, 1, .w1c, 0, .any⟩, ⟨4, 1, .w1c, 0, .any⟩, ⟨5, 1, .w1c, 0, .any⟩, ⟨6, 1, .w1c, 0, .any⟩]⟩,
    ⟨"TOP.NET_CNT_CLR", 0x400c, 4, [], [⟨0, 1, .wo, 0, .any⟩]⟩,
    ⟨"TOP.LAT_MCAST", 0x4100, 4, [(32, 64), (4, 8)], [⟨0, 32, .rw, 0, .any⟩]⟩,
    ⟨"TOP.TAN_MSG_CNT", 0x4a00, 8, [], [⟨0, 64, .ro, 0, .any⟩]⟩,
    ⟨"TOP.TAN_INS_WAIT_CYC", 0x4a08, 8, [], [⟨0, 64, .ro, 0, .any⟩]⟩,
    ⟨"TOP.TAN_CE_CNT", 0x4a10, 4, [], [⟨0, 32, .ro, 0, .any⟩]⟩,
    ⟨"TOP.TAN_UE_CNT", 0x4a14, 4, [], [⟨0, 32, .ro, 0, .any⟩]⟩,
    ⟨"TOP.LAT_SWITCH_CNT", 0x4a18, 4, [], [⟨0, 32, .ro, 0, .any⟩]⟩,
    ⟨"TOP.LAT_QTO_CNT", 0x4a1c, 4, [], [⟨0, 32, .ro, 0, .any⟩]⟩,
    ⟨"SYNC.OBJ_CMD", 0x500000, 8, [], [⟨0, 15, .wo, 0, .any⟩, ⟨16, 2, .wo, 0, .any⟩, ⟨32, 32, .wo, 0, .any⟩]⟩,
    ⟨"SYNC.HOST_SIG", 0x500008, 8, [], [⟨0, 23, .wo, 0, .any⟩, ⟨24, 3, .wo, 0, .any⟩, ⟨32, 32, .wo, 0, .any⟩]⟩,
    ⟨"SYNC.LEND_CTL", 0x500010, 4, [], [⟨0, 1, .rw, 1, .any⟩, ⟨16, 10, .rw, 20, .range 5 1000⟩]⟩,
    ⟨"SYNC.SYNC_EVT", 0x500018, 4, [], [⟨0, 1, .w1c, 0, .any⟩, ⟨1, 1, .w1c, 0, .any⟩, ⟨2, 1, .w1c, 0, .any⟩, ⟨3, 1, .w1c, 0, .any⟩, ⟨4, 1, .w1c, 0, .any⟩]⟩ ]

/-- Part 8 of the map. -/
def regTable8 : List RDesc :=
  [ ⟨"SYNC.SYNC_CNT_CLR", 0x50001c, 4, [], [⟨0, 1, .wo, 0, .any⟩]⟩,
    ⟨"SYNC.OBJ", 0x580000, 16, [(16, 32768)], [⟨0, 32, .ro, 0, .any⟩, ⟨32, 8, .ro, 0, .any⟩, ⟨40, 2, .ro, 0, .any⟩, ⟨42, 7, .ro, 0, .any⟩, ⟨64, 32, .ro, 0, .any⟩]⟩,
    ⟨"SYNC.SIG_CNT", 0x500100, 8, [], [⟨0, 64, .ro, 0, .any⟩]⟩,
    ⟨"SYNC.WAIT_CNT", 0x500108, 8, [], [⟨0, 64, .ro, 0, .any⟩]⟩,
    ⟨"SYNC.STALE_SIG", 0x500110, 4, [], [⟨0, 32, .ro, 0, .any⟩]⟩,
    ⟨"SYNC.WAITQ_FULL", 0x500114, 4, [], [⟨0, 32, .ro, 0, .any⟩]⟩,
    ⟨"SYNC.SIG_OVF", 0x500118, 4, [], [⟨0, 32, .ro, 0, .any⟩]⟩,
    ⟨"SYNC.FREE_OP_CNT", 0x50011c, 4, [], [⟨0, 32, .ro, 0, .any⟩]⟩,
    ⟨"SYNC.RECIRC_CNT", 0x500120, 4, [], [⟨0, 32, .ro, 0, .any⟩]⟩,
    ⟨"SYNC.LEND_CNT", 0x500124, 4, [], [⟨0, 32, .ro, 0, .any⟩]⟩,
    ⟨"SYNC.RECLAIM_MAX", 0x500128, 4, [], [⟨0, 32, .ro, 0, .any⟩]⟩,
    ⟨"SYNC.RECLAIM_SLOW_CNT", 0x50012c, 4, [], [⟨0, 32, .ro, 0, .any⟩]⟩,
    ⟨"SCT.DCH_CTL", 0x1006000, 4, [(65536, 32), (64, 8)], [⟨0, 1, .rw, 1, .any⟩, ⟨1, 1, .wo, 0, .any⟩, ⟨2, 1, .wo, 0, .any⟩, ⟨3, 1, .wo, 0, .any⟩]⟩,
    ⟨"SCT.DCH_STAT", 0x1006004, 4, [(65536, 32), (64, 8)], [⟨0, 3, .ro, 0, .any⟩, ⟨4, 3, .ro, 0, .any⟩, ⟨8, 4, .ro, 0, .any⟩]⟩,
    ⟨"SCT.DCH_KICK", 0x1006008, 8, [(65536, 32), (64, 8)], [⟨0, 64, .wo, 0, .any⟩]⟩,
    ⟨"SCT.DCH_CUR", 0x1006010, 8, [(65536, 32), (64, 8)], [⟨0, 64, .ro, 0, .any⟩]⟩ ]

/-- Part 9 of the map. -/
def regTable9 : List RDesc :=
  [ ⟨"SCT.DCH_ERR_DESC", 0x1006018, 8, [(65536, 32), (64, 8)], [⟨0, 64, .ro, 0, .any⟩]⟩,
    ⟨"SCT.DCH_ERR_INFO", 0x1006020, 8, [(65536, 32), (64, 8)], [⟨0, 16, .ro, 0, .any⟩, ⟨32, 32, .ro, 0, .any⟩]⟩,
    ⟨"SCT.DCH_BYTES", 0x1006028, 8, [(65536, 32), (64, 8)], [⟨0, 64, .ro, 0, .any⟩]⟩,
    ⟨"DMA.HCH_CTL", 0x601000, 4, [(64, 16)], [⟨0, 1, .rw, 1, .any⟩, ⟨1, 1, .wo, 0, .any⟩, ⟨2, 1, .wo, 0, .any⟩, ⟨3, 1, .wo, 0, .any⟩]⟩,
    ⟨"DMA.HCH_STAT", 0x601004, 4, [(64, 16)], [⟨0, 3, .ro, 0, .any⟩, ⟨4, 3, .ro, 0, .any⟩, ⟨8, 4, .ro, 0, .any⟩]⟩,
    ⟨"DMA.HCH_KICK", 0x601008, 8, [(64, 16)], [⟨0, 64, .wo, 0, .any⟩]⟩,
    ⟨"DMA.HCH_CUR", 0x601010, 8, [(64, 16)], [⟨0, 64, .ro, 0, .any⟩]⟩,
    ⟨"DMA.HCH_ERR_DESC", 0x601018, 8, [(64, 16)], [⟨0, 64, .ro, 0, .any⟩]⟩,
    ⟨"DMA.HCH_ERR_INFO", 0x601020, 8, [(64, 16)], [⟨0, 16, .ro, 0, .any⟩, ⟨32, 32, .ro, 0, .any⟩]⟩,
    ⟨"DMA.HCH_BYTES", 0x601028, 8, [(64, 16)], [⟨0, 64, .ro, 0, .any⟩]⟩,
    ⟨"DMA.DMA_CTL", 0x600000, 4, [], [⟨0, 16, .rw, 100, .range 10 10000⟩]⟩,
    ⟨"DMA.DMA_EVT", 0x600008, 4, [], [⟨0, 1, .w1c, 0, .any⟩, ⟨1, 1, .w1c, 0, .any⟩]⟩,
    ⟨"DMA.DMA_CNT_CLR", 0x60000c, 4, [], [⟨0, 1, .wo, 0, .any⟩]⟩,
    ⟨"DMA.DESC_CNT", 0x600100, 8, [], [⟨0, 64, .ro, 0, .any⟩]⟩,
    ⟨"DMA.ERR_CNT", 0x600108, 4, [], [⟨0, 32, .ro, 0, .any⟩]⟩,
    ⟨"DMA.RSP_LATE_CNT", 0x60010c, 4, [], [⟨0, 32, .ro, 0, .any⟩]⟩ ]

/-- Part 10 of the map. -/
def regTable10 : List RDesc :=
  [ ⟨"DMA.VAL_CNT", 0x600110, 4, [], [⟨0, 32, .ro, 0, .any⟩]⟩,
    ⟨"TOP.FAB_CFG", 0x5000, 8, [], [⟨0, 4, .rw, 0, .any⟩, ⟨4, 4, .rw, 0, .any⟩, ⟨8, 4, .rw, 0, .any⟩, ⟨12, 4, .rw, 0, .any⟩, ⟨16, 4, .rw, 0, .any⟩, ⟨20, 4, .rw, 0, .any⟩, ⟨24, 1, .rw, 0, .any⟩, ⟨32, 12, .rw, 0, .any⟩, ⟨63, 1, .wo, 0, .any⟩]⟩,
    ⟨"TOP.FAB_INWIN", 0x5008, 8, [], [⟨12, 26, .rw, 0, .any⟩, ⟨44, 20, .rw, 0, .any⟩]⟩,
    ⟨"TOP.FAB_STAT", 0x5010, 4, [], [⟨0, 2, .ro, 0, .any⟩, ⟨4, 2, .ro, 0, .any⟩, ⟨8, 2, .ro, 0, .any⟩, ⟨12, 2, .ro, 0, .any⟩, ⟨16, 2, .ro, 0, .any⟩, ⟨20, 2, .ro, 0, .any⟩, ⟨24, 2, .ro, 0, .any⟩]⟩,
    ⟨"TOP.FAB_EVT", 0x5014, 4, [], [⟨0, 1, .w1c, 0, .any⟩, ⟨1, 1, .w1c, 0, .any⟩, ⟨2, 1, .w1c, 0, .any⟩, ⟨3, 1, .w1c, 0, .any⟩, ⟨4, 1, .w1c, 0, .any⟩, ⟨5, 1, .w1c, 0, .any⟩]⟩,
    ⟨"TOP.TC_CTL", 0x5020, 4, [], [⟨0, 16, .rw, 50, .range 20 10000⟩, ⟨16, 8, .rw, 100, .range 10 200⟩]⟩,
    ⟨"TOP.TC_STAT", 0x5024, 4, [], [⟨0, 2, .ro, 0, .any⟩, ⟨2, 3, .ro, 0, .any⟩, ⟨5, 7, .ro, 0, .any⟩, ⟨12, 4, .ro, 0, .any⟩, ⟨16, 16, .ro, 0, .any⟩]⟩,
    ⟨"TOP.STEP_MARK", 0x5028, 16, [], [⟨0, 48, .wo, 0, .any⟩, ⟨64, 64, .wo, 0, .any⟩]⟩,
    ⟨"TOP.STEP_NOW", 0x5038, 8, [], [⟨0, 48, .ro, 0, .any⟩]⟩,
    ⟨"TOP.FAB_CNT_CLR", 0x5040, 4, [], [⟨0, 1, .wo, 0, .any⟩]⟩,
    ⟨"LNK.LNK_CTL", 0xc00000, 4, [(4096, 64)], [⟨0, 1, .rw, 1, .any⟩]⟩,
    ⟨"LNK.LNK_STAT", 0xc00004, 4, [(4096, 64)], [⟨0, 4, .ro, 0, .any⟩, ⟨4, 2, .ro, 0, .any⟩, ⟨6, 4, .ro, 0, .any⟩, ⟨10, 6, .ro, 0, .any⟩, ⟨16, 12, .ro, 0, .any⟩, ⟨28, 1, .ro, 0, .any⟩]⟩,
    ⟨"LNK.LNK_UE_LIM", 0xc00008, 4, [(4096, 64)], [⟨0, 8, .rw, 64, .range 4 255⟩]⟩,
    ⟨"LNK.LNK_DELAY", 0xc00010, 4, [(4096, 64)], [⟨0, 24, .ro, 0, .any⟩]⟩,
    ⟨"LNK.LNK_CNT_CLR", 0xc0001c, 4, [(4096, 64)], [⟨0, 1, .wo, 0, .any⟩]⟩,
    ⟨"LNK.FLIT_TX", 0xc00100, 8, [(4096, 64)], [⟨0, 64, .ro, 0, .any⟩]⟩ ]

/-- Part 11 of the map. -/
def regTable11 : List RDesc :=
  [ ⟨"LNK.FLIT_RX", 0xc00108, 8, [(4096, 64)], [⟨0, 64, .ro, 0, .any⟩]⟩,
    ⟨"LNK.FEC_CORR", 0xc00110, 8, [(4096, 64)], [⟨0, 64, .ro, 0, .any⟩]⟩,
    ⟨"LNK.FEC_UNCORR", 0xc00118, 4, [(4096, 64)], [⟨0, 32, .ro, 0, .any⟩]⟩,
    ⟨"LNK.CRC_ERR", 0xc0011c, 4, [(4096, 64)], [⟨0, 32, .ro, 0, .any⟩]⟩,
    ⟨"LNK.RETRY_CNT", 0xc00120, 4, [(4096, 64)], [⟨0, 32, .ro, 0, .any⟩]⟩,
    ⟨"LNK.BEACON_RX", 0xc00124, 4, [(4096, 64)], [⟨0, 32, .ro, 0, .any⟩]⟩,
    ⟨"TOP.FAB_STALE_CNT", 0x5100, 4, [], [⟨0, 32, .ro, 0, .any⟩]⟩,
    ⟨"TOP.WNAK_CNT", 0x5104, 4, [], [⟨0, 32, .ro, 0, .any⟩]⟩,
    ⟨"TOP.ROUTE_CNT", 0x5108, 4, [], [⟨0, 32, .ro, 0, .any⟩]⟩,
    ⟨"TOP.TC_STEP_CNT", 0x510c, 4, [], [⟨0, 32, .ro, 0, .any⟩]⟩,
    ⟨"TOP.MARK_LATE_CNT", 0x5110, 4, [], [⟨0, 32, .ro, 0, .any⟩]⟩,
    ⟨"TOP.ADOPT_CNT", 0x5114, 4, [], [⟨0, 32, .ro, 0, .any⟩]⟩,
    ⟨"TOP.ID", 0x0, 4, [], [⟨0, 8, .ro, 176, .any⟩, ⟨8, 8, .ro, 1, .any⟩, ⟨16, 16, .ro, 402, .any⟩]⟩,
    ⟨"TOP.STATE", 0x4, 4, [], [⟨0, 3, .ro, 1, .any⟩, ⟨4, 4, .ro, 1, .any⟩, ⟨8, 3, .ro, 0, .any⟩, ⟨11, 1, .ro, 0, .any⟩]⟩,
    ⟨"TOP.HLINK", 0x18, 4, [(4, 2)], [⟨0, 3, .ro, 0, .any⟩, ⟨3, 5, .ro, 0, .any⟩, ⟨8, 1, .ro, 0, .any⟩]⟩,
    ⟨"TOP.HEVT", 0x20, 4, [(8, 2)], [⟨0, 1, .w1c, 0, .any⟩, ⟨1, 1, .w1c, 0, .any⟩, ⟨2, 1, .w1c, 0, .any⟩, ⟨3, 1, .w1c, 0, .any⟩, ⟨4, 1, .w1c, 0, .any⟩]⟩ ]

/-- Part 12 of the map. -/
def regTable12 : List RDesc :=
  [ ⟨"TOP.HEVT_EN", 0x24, 4, [(8, 2)], [⟨0, 5, .rw, 0, .any⟩]⟩,
    ⟨"TOP.RST_CTL", 0x30, 4, [], [⟨0, 16, .wo, 0, .any⟩]⟩,
    ⟨"TOP.SETUP_LOCK", 0x34, 4, [], [⟨0, 2, .rw, 0, .any⟩]⟩,
    ⟨"TOP.MODE_STAT", 0xc00, 4, [], [⟨0, 1, .ro, 0, .any⟩, ⟨1, 2, .ro, 1, .any⟩, ⟨3, 1, .ro, 0, .any⟩, ⟨4, 1, .ro, 0, .any⟩, ⟨5, 1, .ro, 0, .any⟩, ⟨6, 2, .ro, 0, .any⟩, ⟨8, 2, .ro, 1, .any⟩, ⟨10, 1, .ro, 0, .any⟩, ⟨11, 1, .ro, 0, .any⟩]⟩,
    ⟨"TOP.ASQ_BASE", 0x6000, 8, [(256, 2)], [⟨12, 52, .rw, 0, .any⟩]⟩,
    ⟨"TOP.ACQ_BASE", 0x6008, 8, [(256, 2)], [⟨12, 52, .rw, 0, .any⟩]⟩,
    ⟨"TOP.AQ_CFG", 0x6010, 4, [(256, 2)], [⟨0, 4, .rw, 6, .range 4 12⟩, ⟨8, 4, .rw, 6, .aqcq⟩]⟩,
    ⟨"TOP.AQ_CTL", 0x6014, 4, [(256, 2)], [⟨0, 1, .rw, 0, .any⟩]⟩,
    ⟨"TOP.AQ_STAT", 0x6018, 4, [(256, 2)], [⟨0, 1, .ro, 0, .any⟩, ⟨8, 7, .ro, 127, .any⟩]⟩,
    ⟨"TOP.HQ_CNT_CLR", 0x601c, 4, [(256, 2)], [⟨0, 1, .wo, 0, .any⟩]⟩,
    ⟨"TOP.SQ_FETCH_CNT", 0x6080, 8, [(256, 2)], [⟨0, 64, .ro, 0, .any⟩]⟩,
    ⟨"TOP.CQ_POST_CNT", 0x6088, 8, [(256, 2)], [⟨0, 64, .ro, 0, .any⟩]⟩,
    ⟨"TOP.TQ_POST_CNT", 0x6090, 8, [(256, 2)], [⟨0, 64, .ro, 0, .any⟩]⟩,
    ⟨"TOP.MSIX_CNT", 0x6098, 8, [(256, 2)], [⟨0, 64, .ro, 0, .any⟩]⟩,
    ⟨"TOP.DB_ERR_CNT", 0x60a0, 4, [(256, 2)], [⟨0, 32, .ro, 0, .any⟩]⟩,
    ⟨"TOP.CQ_HOLD_CNT", 0x60a4, 4, [(256, 2)], [⟨0, 32, .ro, 0, .any⟩]⟩ ]

/-- Part 13 of the map. -/
def regTable13 : List RDesc :=
  [ ⟨"TOP.TQ_HOLD_CNT", 0x60a8, 4, [(256, 2)], [⟨0, 32, .ro, 0, .any⟩]⟩,
    ⟨"TOP.CLAMP_HEAD", 0x8000, 8, [], [⟨0, 6, .ro, 0, .any⟩, ⟨32, 32, .ro, 0, .any⟩]⟩,
    ⟨"TOP.CLAMP_LOG", 0x8100, 32, [(32, 64)], [⟨0, 256, .ro, 0, .any⟩]⟩,
    ⟨"SERVE.STEP_CFG", 0x700000, 8, [], [⟨0, 8, .rw, 10, .range 0 255⟩, ⟨16, 16, .rw, 20, .range 10 10000⟩, ⟨32, 16, .rw, 10000, .range 100 60000⟩]⟩,
    ⟨"SERVE.SHAPE", 0x700008, 8, [], [⟨0, 7, .ro, 0, .any⟩, ⟨8, 7, .ro, 0, .any⟩, ⟨16, 7, .ro, 0, .any⟩, ⟨32, 19, .ro, 0, .any⟩]⟩,
    ⟨"SERVE.LIMITS", 0x700010, 8, [], [⟨0, 20, .ro, 0, .any⟩, ⟨32, 16, .ro, 0, .any⟩, ⟨48, 16, .ro, 0, .any⟩]⟩,
    ⟨"SERVE.SERVE_STAT", 0x700018, 4, [], [⟨0, 2, .ro, 0, .any⟩, ⟨2, 1, .ro, 0, .any⟩, ⟨4, 14, .ro, 0, .any⟩]⟩,
    ⟨"SERVE.SERVE_EVT", 0x70001c, 4, [], [⟨0, 1, .w1c, 0, .any⟩, ⟨1, 1, .w1c, 0, .any⟩, ⟨2, 1, .w1c, 0, .any⟩, ⟨3, 1, .w1c, 0, .any⟩, ⟨4, 1, .w1c, 0, .any⟩, ⟨5, 1, .w1c, 0, .any⟩]⟩,
    ⟨"SERVE.SERVE_CNT_CLR", 0x700020, 4, [], [⟨0, 1, .wo, 0, .any⟩]⟩,
    ⟨"SERVE.FETCH_CFG", 0x700028, 4, [], [⟨0, 4, .rw, 7, .fetchA⟩, ⟨8, 4, .rw, 15, .range 8 15⟩]⟩,
    ⟨"SERVE.TENANT", 0x710000, 32, [(32, 1024)], [⟨0, 40, .ro, 0, .any⟩, ⟨40, 14, .ro, 0, .any⟩, ⟨54, 1, .ro, 0, .any⟩, ⟨64, 32, .ro, 0, .any⟩, ⟨96, 32, .ro, 0, .any⟩, ⟨128, 32, .ro, 0, .any⟩, ⟨160, 32, .ro, 0, .any⟩]⟩,
    ⟨"SERVE.REQ", 0x720000, 16, [(16, 8192)], [⟨0, 12, .ro, 1, .any⟩, ⟨12, 3, .ro, 0, .any⟩, ⟨15, 1, .ro, 0, .any⟩, ⟨16, 10, .ro, 0, .any⟩, ⟨32, 20, .ro, 0, .any⟩, ⟨64, 32, .ro, 0, .any⟩, ⟨96, 32, .ro, 0, .any⟩]⟩,
    ⟨"SERVE.STEP_CNT", 0x700100, 8, [], [⟨0, 64, .ro, 0, .any⟩]⟩,
    ⟨"SERVE.TOKEN_CNT", 0x700108, 8, [], [⟨0, 64, .ro, 0, .any⟩]⟩,
    ⟨"SERVE.ADMIT_CNT", 0x700110, 8, [], [⟨0, 64, .ro, 0, .any⟩]⟩,
    ⟨"SERVE.REJECT_CNT", 0x700118, 4, [], [⟨0, 32, .ro, 0, .any⟩]⟩ ]

/-- Part 14 of the map. -/
def regTable14 : List RDesc :=
  [ ⟨"SERVE.STALE_ID_CNT", 0x70011c, 4, [], [⟨0, 32, .ro, 0, .any⟩]⟩,
    ⟨"SERVE.STEP_OVERRUN_CNT", 0x700120, 4, [], [⟨0, 32, .ro, 0, .any⟩]⟩,
    ⟨"SERVE.ORBIT_TO_CNT", 0x700124, 4, [], [⟨0, 32, .ro, 0, .any⟩]⟩,
    ⟨"SERVE.DEADLINE_CNT", 0x700128, 4, [], [⟨0, 32, .ro, 0, .any⟩]⟩,
    ⟨"SERVE.CANCEL_LATE_CNT", 0x70012c, 4, [], [⟨0, 32, .ro, 0, .any⟩]⟩,
    ⟨"SERVE.BUDGET_TO_CNT", 0x700130, 4, [], [⟨0, 32, .ro, 0, .any⟩]⟩,
    ⟨"SERVE.GRAMMAR_OVF_CNT", 0x700134, 4, [], [⟨0, 32, .ro, 0, .any⟩]⟩,
    ⟨"SERVE.GRAMMAR_DEAD_CNT", 0x700138, 4, [], [⟨0, 32, .ro, 0, .any⟩]⟩,
    ⟨"SERVE.PFX_EVICT_CNT", 0x70013c, 4, [], [⟨0, 32, .ro, 0, .any⟩]⟩,
    ⟨"SERVE.NAN_LOGIT_CNT", 0x700140, 4, [], [⟨0, 32, .ro, 0, .any⟩]⟩,
    ⟨"WSTORE.WS_STAT", 0x800000, 4, [], [⟨0, 2, .ro, 0, .any⟩, ⟨2, 1, .ro, 0, .any⟩, ⟨3, 1, .ro, 0, .any⟩]⟩,
    ⟨"WSTORE.SLOT", 0x800010, 16, [(16, 2)], [⟨0, 32, .ro, 0, .any⟩, ⟨32, 32, .ro, 0, .any⟩, ⟨64, 3, .ro, 0, .any⟩, ⟨67, 1, .ro, 0, .any⟩, ⟨68, 1, .ro, 0, .any⟩, ⟨80, 14, .ro, 0, .any⟩]⟩,
    ⟨"WSTORE.LOAD_STAT", 0x800030, 8, [], [⟨0, 3, .ro, 0, .any⟩, ⟨8, 24, .ro, 0, .any⟩, ⟨32, 24, .ro, 0, .any⟩]⟩,
    ⟨"WSTORE.PROG_CFG", 0x800040, 4, [], [⟨0, 8, .rw, 32, .range 4 255⟩, ⟨8, 4, .rw, 2, .range 1 8⟩, ⟨12, 4, .rw, 8, .range 0 8⟩, ⟨16, 10, .rw, 512, .range 64 512⟩]⟩,
    ⟨"WSTORE.REFRESH_CFG", 0x800044, 4, [], [⟨0, 1, .rw, 1, .any⟩, ⟨1, 3, .rw, 0, .any⟩, ⟨8, 8, .rw, 8, .range 2 64⟩, ⟨16, 8, .rw, 30, .range 1 255⟩]⟩,
    ⟨"WSTORE.SPARE_CFG", 0x800048, 4, [], [⟨0, 8, .rw, 10, .range 2 100⟩]⟩ ]

/-- Part 15 of the map. -/
def regTable15 : List RDesc :=
  [ ⟨"WSTORE.WEAR_CFG", 0x80004c, 4, [], [⟨0, 16, .rw, 10000, .range 1000 10000⟩, ⟨16, 16, .rw, 9000, .range 500 10000⟩]⟩,
    ⟨"WSTORE.HU_CAP", 0x800050, 4, [], [⟨0, 16, .rw, 0, .range 0 65535⟩, ⟨16, 16, .rw, 8000, .range 3000 15000⟩]⟩,
    ⟨"WSTORE.HU_EST", 0x800058, 8, [], [⟨0, 16, .rw, 24, .range 1 1000⟩, ⟨16, 16, .rw, 2000, .range 0 20000⟩, ⟨32, 16, .rw, 400, .range 1 5000⟩, ⟨48, 16, .rw, 100, .range 1 10000⟩]⟩,
    ⟨"WSTORE.HU_STAT", 0x800060, 8, [], [⟨0, 16, .ro, 0, .any⟩, ⟨16, 32, .ro, 0, .any⟩, ⟨48, 1, .ro, 0, .any⟩]⟩,
    ⟨"WSTORE.KS_SEED", 0x800068, 8, [], [⟨0, 64, .rw, 0, .any⟩]⟩,
    ⟨"WSTORE.WS_EVT", 0x800070, 4, [], [⟨0, 1, .w1c, 0, .any⟩, ⟨1, 1, .w1c, 0, .any⟩, ⟨2, 1, .w1c, 0, .any⟩, ⟨3, 1, .w1c, 0, .any⟩, ⟨4, 1, .w1c, 0, .any⟩, ⟨5, 1, .w1c, 0, .any⟩, ⟨6, 1, .w1c, 0, .any⟩, ⟨7, 1, .w1c, 0, .any⟩]⟩,
    ⟨"WSTORE.WS_CNT_CLR", 0x800074, 4, [], [⟨0, 1, .wo, 0, .any⟩]⟩,
    ⟨"WSTORE.REFRESH_REQ", 0x800078, 4, [], [⟨0, 8, .rw, 0, .any⟩, ⟨31, 1, .wo, 0, .any⟩]⟩,
    ⟨"WSTORE.WEAR", 0x900000, 4, [(4, 18432)], [⟨0, 16, .ro, 0, .any⟩, ⟨16, 16, .ro, 0, .any⟩]⟩,
    ⟨"WSTORE.CHUNK_CNT", 0x800100, 8, [], [⟨0, 64, .ro, 0, .any⟩]⟩,
    ⟨"WSTORE.PROG_PLANE_CNT", 0x800108, 8, [], [⟨0, 64, .ro, 0, .any⟩]⟩,
    ⟨"WSTORE.PULSE_CNT", 0x800110, 8, [], [⟨0, 64, .ro, 0, .any⟩]⟩,
    ⟨"WSTORE.LOAD_CNT", 0x800118, 4, [], [⟨0, 32, .ro, 0, .any⟩]⟩,
    ⟨"WSTORE.LOAD_FAIL_CNT", 0x80011c, 4, [], [⟨0, 32, .ro, 0, .any⟩]⟩,
    ⟨"WSTORE.TAG_FAIL_CNT", 0x800120, 4, [], [⟨0, 32, .ro, 0, .any⟩]⟩,
    ⟨"WSTORE.REFETCH_CNT", 0x800124, 4, [], [⟨0, 32, .ro, 0, .any⟩]⟩ ]

/-- Part 16 of the map. -/
def regTable16 : List RDesc :=
  [ ⟨"WSTORE.STUCK_CELL_CNT", 0x800128, 4, [], [⟨0, 32, .ro, 0, .any⟩]⟩,
    ⟨"WSTORE.W_CLAMP_CNT", 0x80012c, 4, [], [⟨0, 32, .ro, 0, .any⟩]⟩,
    ⟨"WSTORE.DUP_REC_CNT", 0x800130, 4, [], [⟨0, 32, .ro, 0, .any⟩]⟩,
    ⟨"WSTORE.HOLDUP_WAIT_CNT", 0x800134, 4, [], [⟨0, 32, .ro, 0, .any⟩]⟩,
    ⟨"WSTORE.HOLDUP_REFUSE_CNT", 0x800138, 4, [], [⟨0, 32, .ro, 0, .any⟩]⟩,
    ⟨"WSTORE.REFRESH_CNT", 0x80013c, 4, [], [⟨0, 32, .ro, 0, .any⟩]⟩,
    ⟨"WSTORE.REFRESH_WAIT_CNT", 0x800140, 4, [], [⟨0, 32, .ro, 0, .any⟩]⟩,
    ⟨"WSTORE.SPARE_PROG_CNT", 0x800144, 4, [], [⟨0, 32, .ro, 0, .any⟩]⟩,
    ⟨"WSTORE.WEAR_BLOCK_CNT", 0x800148, 4, [], [⟨0, 32, .ro, 0, .any⟩]⟩,
    ⟨"WSTORE.SWITCH_CNT", 0x80014c, 4, [], [⟨0, 32, .ro, 0, .any⟩]⟩,
    ⟨"WSTORE.REBUILD_CNT", 0x800150, 4, [], [⟨0, 32, .ro, 0, .any⟩]⟩,
    ⟨"PWR.PWR_STAT", 0x100000, 4, [], [⟨0, 3, .ro, 0, .any⟩, ⟨3, 2, .ro, 1, .any⟩, ⟨5, 1, .ro, 0, .any⟩, ⟨6, 1, .ro, 0, .any⟩, ⟨7, 1, .ro, 0, .any⟩, ⟨8, 1, .ro, 0, .any⟩, ⟨9, 1, .ro, 0, .any⟩, ⟨16, 10, .ro, 0, .any⟩]⟩,
    ⟨"PWR.BUDGET", 0x100004, 4, [], [⟨0, 10, .rw, 950, .range 500 950⟩]⟩,
    ⟨"PWR.LEND_CFG", 0x100008, 4, [], [⟨0, 16, .rw, 150, .range 50 500⟩, ⟨16, 8, .rw, 200, .range 100 255⟩]⟩,
    ⟨"PWR.THERM_CFG", 0x100010, 8, [], [⟨0, 8, .rw, 95, .range 60 100⟩, ⟨8, 8, .rw, 102, .range 65 104⟩, ⟨16, 8, .rw, 88, .range 60 94⟩, ⟨24, 8, .rw, 92, .range 65 94⟩, ⟨32, 8, .rw, 20, .range 5 100⟩, ⟨40, 8, .rw, 50, .range 10 200⟩, ⟨48, 16, .rw, 20, .range 1 1000⟩]⟩,
    ⟨"PWR.THERM_STAT", 0x100018, 8, [], [⟨0, 16, .ro, 0, .any⟩, ⟨16, 16, .ro, 0, .any⟩, ⟨32, 16, .ro, 0, .any⟩, ⟨48, 1, .ro, 0, .any⟩, ⟨49, 1, .ro, 0, .any⟩, ⟨50, 1, .ro, 0, .any⟩, ⟨51, 1, .ro, 0, .any⟩, ⟨52, 2, .ro, 0, .any⟩]⟩ ]

/-- Part 17 of the map. -/
def regTable17 : List RDesc :=
  [ ⟨"PWR.CAL_CTL", 0x100020, 8, [], [⟨0, 32, .rw, 0, .any⟩, ⟨32, 3, .rw, 0, .range 0 4⟩, ⟨35, 1, .wo, 0, .any⟩]⟩,
    ⟨"PWR.CAL_STAT", 0x100028, 4, [], [⟨0, 2, .ro, 0, .any⟩, ⟨4, 4, .ro, 0, .any⟩, ⟨8, 5, .ro, 0, .any⟩]⟩,
    ⟨"PWR.PWR_EVT", 0x10002c, 4, [], [⟨0, 1, .w1c, 0, .any⟩, ⟨1, 1, .w1c, 0, .any⟩, ⟨2, 1, .w1c, 0, .any⟩, ⟨3, 1, .w1c, 0, .any⟩, ⟨4, 1, .w1c, 0, .any⟩, ⟨5, 1, .w1c, 0, .any⟩, ⟨6, 1, .w1c, 0, .any⟩, ⟨7, 1, .w1c, 0, .any⟩, ⟨8, 1, .w1c, 0, .any⟩]⟩,
    ⟨"PWR.CAL_CFG", 0x100030, 4, [], [⟨0, 8, .rw, 8, .range 2 64⟩]⟩,
    ⟨"PWR.PWR_CNT_CLR", 0x100034, 4, [], [⟨0, 1, .wo, 0, .any⟩]⟩,
    ⟨"PWR.THROTTLE_CYC", 0x100100, 8, [], [⟨0, 64, .ro, 0, .any⟩]⟩,
    ⟨"PWR.DROOP_CNT", 0x100108, 4, [], [⟨0, 32, .ro, 0, .any⟩]⟩,
    ⟨"PWR.OVER_CNT", 0x10010c, 4, [], [⟨0, 32, .ro, 0, .any⟩]⟩,
    ⟨"PWR.WARN_CNT", 0x100110, 4, [], [⟨0, 32, .ro, 0, .any⟩]⟩,
    ⟨"PWR.STOP_CNT", 0x100114, 4, [], [⟨0, 32, .ro, 0, .any⟩]⟩,
    ⟨"PWR.LC_MISMATCH_CNT", 0x100118, 4, [], [⟨0, 32, .ro, 0, .any⟩]⟩,
    ⟨"PWR.CAL_RUN_CNT", 0x10011c, 4, [], [⟨0, 32, .ro, 0, .any⟩]⟩,
    ⟨"PWR.PROFILE_CHG_CNT", 0x100120, 4, [], [⟨0, 32, .ro, 0, .any⟩]⟩,
    ⟨"HK.HK_CTL", 0x200000, 4, [], [⟨0, 1, .rw, 1, .any⟩, ⟨1, 3, .rw, 6, .range 1 8⟩, ⟨4, 1, .rw, 0, .any⟩]⟩,
    ⟨"HK.BUF_BASE", 0x200008, 8, [], [⟨6, 58, .rw, 0, .any⟩]⟩,
    ⟨"HK.BUF_CFG", 0x200010, 4, [], [⟨0, 2, .rw, 0, .subst 2 4294967295 0⟩, ⟨8, 5, .rw, 10, .range 6 20⟩]⟩ ]

/-- Part 18 of the map. -/
def regTable18 : List RDesc :=
  [ ⟨"HK.BUF_WP", 0x200014, 4, [], [⟨0, 20, .ro, 0, .any⟩]⟩,
    ⟨"HK.BUF_RP", 0x200018, 4, [], [⟨0, 20, .rw, 0, .any⟩]⟩,
    ⟨"HK.HK_STAT", 0x20001c, 4, [], [⟨0, 1, .ro, 0, .any⟩]⟩,
    ⟨"HK.DROOP_CTL", 0x200020, 4, [], [⟨0, 6, .rw, 40, .range 40 45⟩, ⟨6, 1, .w1s, 0, .any⟩, ⟨7, 1, .wo, 0, .any⟩, ⟨8, 5, .rw, 0, .any⟩, ⟨13, 1, .rw, 0, .any⟩, ⟨16, 12, .rw, 0, .any⟩, ⟨28, 4, .rw, 0, .any⟩]⟩,
    ⟨"HK.HU_DIV", 0x200024, 4, [], [⟨0, 16, .rw, 10000, .range 2000 20000⟩]⟩,
    ⟨"HK.GCORR", 0x200028, 4, [], [⟨0, 16, .ro, 0, .any⟩]⟩,
    ⟨"HK.HK_CNT_CLR", 0x200034, 4, [], [⟨0, 1, .wo, 0, .any⟩]⟩,
    ⟨"HK.VAL", 0x200100, 4, [(4, 48)], [⟨0, 32, .ro, 0, .any⟩]⟩,
    ⟨"HK.ROUND_CNT", 0x200200, 8, [], [⟨0, 64, .ro, 0, .any⟩]⟩,
    ⟨"HK.HK_DROP_CNT", 0x200208, 4, [], [⟨0, 32, .ro, 0, .any⟩]⟩,
    ⟨"HK.CAPTURE_CNT", 0x20020c, 4, [], [⟨0, 32, .ro, 0, .any⟩]⟩,
    ⟨"TOP.FLT_CTL", 0xa000, 4, [], [⟨0, 2, .rw, 1, .subst 3 4294967295 2⟩, ⟨2, 1, .rw, 0, .any⟩, ⟨4, 4, .rw, 12, .range 8 15⟩, ⟨8, 4, .rw, 3, .range 1 15⟩, ⟨12, 4, .rw, 4, .range 2 15⟩, ⟨16, 16, .rw, 10000, .range 100 60000⟩]⟩,
    ⟨"TOP.FLT_KS", 0xa004, 4, [], [⟨0, 16, .rw, 64, .range 8 1024⟩, ⟨16, 16, .rw, 60, .range 1 3600⟩]⟩,
    ⟨"TOP.FLT_STAT", 0xa008, 4, [], [⟨0, 5, .ro, 0, .any⟩, ⟨5, 1, .ro, 0, .any⟩, ⟨6, 1, .ro, 0, .any⟩, ⟨7, 1, .ro, 0, .any⟩, ⟨8, 8, .ro, 0, .any⟩]⟩,
    ⟨"TOP.FLT_CAUSE", 0xa00c, 4, [], [⟨0, 8, .ro, 0, .any⟩, ⟨8, 9, .ro, 511, .any⟩, ⟨31, 1, .ro, 0, .any⟩]⟩,
    ⟨"TOP.FLT_EVT", 0xa010, 4, [], [⟨0, 1, .w1c, 0, .any⟩, ⟨1, 1, .w1c, 0, .any⟩, ⟨2, 1, .w1c, 0, .any⟩, ⟨3, 1, .w1c, 0, .any⟩, ⟨4, 1, .w1c, 0, .any⟩, ⟨5, 1, .w1c, 0, .any⟩, ⟨6, 1, .w1c, 0, .any⟩]⟩ ]

/-- Part 19 of the map. -/
def regTable19 : List RDesc :=
  [ ⟨"TOP.FLT_LOG_HEAD", 0xa014, 4, [], [⟨0, 16, .ro, 0, .any⟩]⟩,
    ⟨"TOP.POWERED_S", 0xa018, 4, [], [⟨0, 32, .ro, 0, .any⟩]⟩,
    ⟨"TOP.FLT_CNT_CLR", 0xa01c, 4, [], [⟨0, 1, .wo, 0, .any⟩]⟩,
    ⟨"TOP.FLT_PKG", 0xa020, 8, [], [⟨0, 32, .ro, 0, .any⟩, ⟨32, 32, .ro, 0, .any⟩]⟩,
    ⟨"TOP.EVT_CNT", 0xa100, 8, [], [⟨0, 64, .ro, 0, .any⟩]⟩,
    ⟨"TOP.KS_TEST_CNT", 0xa108, 8, [], [⟨0, 64, .ro, 0, .any⟩]⟩,
    ⟨"TOP.KS_FAIL_CNT", 0xa110, 4, [], [⟨0, 32, .ro, 0, .any⟩]⟩,
    ⟨"TOP.KS_UNCONF_CNT", 0xa114, 4, [], [⟨0, 32, .ro, 0, .any⟩]⟩,
    ⟨"TOP.COL_REPAIR_CNT", 0xa118, 4, [], [⟨0, 32, .ro, 0, .any⟩]⟩,
    ⟨"TOP.FENCE_CNT", 0xa11c, 4, [], [⟨0, 32, .ro, 0, .any⟩]⟩,
    ⟨"TOP.FLUSH_CNT", 0xa120, 4, [], [⟨0, 32, .ro, 0, .any⟩]⟩,
    ⟨"TOP.MERGE_CNT", 0xa124, 4, [], [⟨0, 32, .ro, 0, .any⟩]⟩,
    ⟨"TOP.DRIFT_CNT", 0xa128, 4, [], [⟨0, 32, .ro, 0, .any⟩]⟩,
    ⟨"TOP.DUAL_MISMATCH_CNT", 0xa12c, 4, [], [⟨0, 32, .ro, 0, .any⟩]⟩,
    ⟨"TOP.TMR_CORR_CNT", 0xa130, 4, [], [⟨0, 32, .ro, 0, .any⟩]⟩,
    ⟨"TOP.PARITY_CNT", 0xa134, 4, [], [⟨0, 32, .ro, 0, .any⟩]⟩ ]

/-- Part 20 of the map. -/
def regTable20 : List RDesc :=
  [ ⟨"TOP.REC_RESET_CNT", 0xa138, 4, [], [⟨0, 32, .ro, 0, .any⟩]⟩,
    ⟨"SECU.SECU_STAT", 0x300000, 4, [], [⟨0, 1, .ro, 0, .any⟩, ⟨1, 1, .ro, 0, .any⟩, ⟨2, 1, .ro, 0, .any⟩, ⟨3, 1, .ro, 0, .any⟩, ⟨4, 1, .ro, 0, .any⟩, ⟨8, 4, .ro, 0, .any⟩]⟩,
    ⟨"SECU.SVN", 0x300004, 4, [], [⟨0, 32, .ro, 0, .any⟩]⟩,
    ⟨"SECU.SECU_EVT", 0x300008, 4, [], [⟨0, 1, .w1c, 0, .any⟩, ⟨1, 1, .w1c, 0, .any⟩, ⟨2, 1, .w1c, 0, .any⟩, ⟨3, 1, .w1c, 0, .any⟩, ⟨4, 1, .w1c, 0, .any⟩, ⟨5, 1, .w1c, 0, .any⟩]⟩,
    ⟨"SECU.SECU_CNT_CLR", 0x30000c, 4, [], [⟨0, 1, .wo, 0, .any⟩]⟩,
    ⟨"SECU.REPORT_CNT", 0x300100, 4, [], [⟨0, 32, .ro, 0, .any⟩]⟩,
    ⟨"SECU.MSG_CNT", 0x300104, 4, [], [⟨0, 32, .ro, 0, .any⟩]⟩,
    ⟨"SECU.DENIED_CNT", 0x300108, 4, [], [⟨0, 32, .ro, 0, .any⟩]⟩,
    ⟨"SECU.ZEROISE_CNT", 0x30010c, 4, [], [⟨0, 32, .ro, 0, .any⟩]⟩,
    ⟨"SECU.RNG_FAIL_CNT", 0x300110, 4, [], [⟨0, 32, .ro, 0, .any⟩]⟩,
    ⟨"MGMT.MGMT_STAT", 0x400000, 4, [], [⟨0, 7, .ro, 0, .any⟩, ⟨8, 8, .ro, 0, .any⟩, ⟨16, 1, .ro, 0, .any⟩]⟩,
    ⟨"MGMT.MGMT_CNT_CLR", 0x400008, 4, [], [⟨0, 1, .wo, 0, .any⟩]⟩,
    ⟨"MGMT.MCTP_RX_CNT", 0x400100, 4, [], [⟨0, 32, .ro, 0, .any⟩]⟩,
    ⟨"MGMT.MCTP_DROP_CNT", 0x400104, 4, [], [⟨0, 32, .ro, 0, .any⟩]⟩,
    ⟨"MGMT.EVT_DROP_CNT", 0x400108, 4, [], [⟨0, 32, .ro, 0, .any⟩]⟩ ]

/-- The whole map. -/
def regTable : List RDesc :=
  regTable1 ++ regTable2 ++ regTable3 ++ regTable4 ++ regTable5 ++ regTable6 ++ regTable7 ++ regTable8 ++ regTable9 ++ regTable10 ++ regTable11 ++ regTable12 ++ regTable13 ++ regTable14 ++ regTable15 ++ regTable16 ++ regTable17 ++ regTable18 ++ regTable19 ++ regTable20

/-- The offset within its instance, when `off` lies in some instance counted by `inst` from `base`. -/
def instOff (base : Nat) (inst : List (Nat × Nat)) (bytes off : Nat) : Option Nat :=
  match inst with
  | [] => if base ≤ off ∧ off < base + bytes then some (off - base) else none
  | (st, n) :: r =>
    if off < base then none
    else if (off - base) / st < n then instOff (base + (off - base) / st * st) r bytes off else none

/-- The register that holds byte offset `off`, with the byte within it. -/
def regFind (off : Nat) (l : List RDesc) : Option (RDesc × Nat) :=
  match l with
  | [] => none
  | r :: rest =>
    match instOff r.off r.inst r.bytes off with
    | some k => some (r, k)
    | none => regFind off rest

end Sys2Proof.Machine
end

