-- ==== Sys2Proof/Machine/Orbit.lean ====
section
/-! DEFINITION. Vertices, slices and the orbit (R159 to R162). -/

namespace Sys2Proof.Machine

open Sys2Proof

/-- Coordinate `a` of a vertex in the layout of DVTX (Table 9-4). -/
def vtxAx (v : Nat) (a : Nat) : Nat := bits v (4 * a) 4

/-- A vertex of three coordinates. -/
def mkVtx (x y z : Nat) : Nat := x % 16 + 16 * (y % 16) + 256 * (z % 16)

/-- The device's own vertex (Table 9-9). -/
def State.ownVtx (s : State) : Nat := mkVtx (bits s.fab 0 4) (bits s.fab 4 4) (bits s.fab 8 4)

/-- The torus dimension of axis `a` (Table 9-9). -/
def State.torus (s : State) (a : Nat) : Nat :=
  bits s.fab (12 + 4 * a) 4 + 1

/-- A field at its place in its register. -/
def State.ownCfg (s : State) (f : FRef) : Nat := s.get f * 2 ^ f.lsb

/-- The own pod in force (Table 9-9). -/
def State.ownPod (s : State) : Nat := bits s.fab 32 12

/-- ROLE TORUS+SPINE is in force (Table 9-9). -/
def State.hasSpine (s : State) : Bool := s.fab.testBit 24

/-- TOP.FAB_CFG as written, without SAVE: what the next training takes (R277). -/
def State.fabCfg (s : State) : Nat :=
  s.ownCfg R.FAB_CFG_VX + s.ownCfg R.FAB_CFG_VY + s.ownCfg R.FAB_CFG_VZ + s.ownCfg R.FAB_CFG_TX1 + s.ownCfg R.FAB_CFG_TY1 +
    s.ownCfg R.FAB_CFG_TZ1 + s.ownCfg R.FAB_CFG_ROLE + s.ownCfg R.FAB_CFG_POD

/-- The torus dimension, origin and extent of axis `a` in a slice descriptor (R159). -/
def bindAx (b : Binding) (a : Nat) : Nat × Nat × Nat :=
  if a = 0 then (b.tx, b.ox, b.ex) else if a = 1 then (b.ty, b.oy, b.ey) else (b.tz, b.oz, b.ez)

/-- The offset of a coordinate from the slice origin on axis `a` (R159). -/
def sliceOff (b : Binding) (a c : Nat) : Nat :=
  let x := bindAx b a
  (c + x.1 - x.2.1) % x.1

/-- Whether a vertex belongs to a slice (R159). -/
def inSlice (b : Binding) (v : Nat) : Bool := [0, 1, 2].all fun a => decide (sliceOff b a (vtxAx v a) < (bindAx b a).2.2)

/-- The axes in AXES order, fastest first (Table 5-5). -/
def axesOf (k : Nat) : List Nat :=
  ([[0, 1, 2], [0, 2, 1], [1, 0, 2], [1, 2, 0], [2, 0, 1], [2, 1, 0]] : List (List Nat)).getD k [0, 1, 2]

/-- The vertex of orbit index `k` (R161). -/
def orbitVtx (b : Binding) (k : Nat) : Nat :=
  let ax := axesOf b.axes
  let n (i : Nat) : Nat := (bindAx b (ax.getD i 0)).2.2
  let i2 := k / (n 0 * n 1)
  let r := k % (n 0 * n 1)
  let i1 := r / n 0
  let i0 := r % n 0
  let u1 := if i2 % 2 = 0 then i1 else n 1 - 1 - i1
  let u0 := if (i2 * n 1 + i1) % 2 = 0 then i0 else n 0 - 1 - i0
  let c (a : Nat) : Nat :=
    let u := if a = ax.getD 0 0 then u0 else if a = ax.getD 1 0 then u1 else i2
    ((bindAx b a).2.1 + u) % (bindAx b a).1
  mkVtx (c 0) (c 1) (c 2)

/-- Devices of a slice (R159). -/
def sliceSize (b : Binding) : Nat := b.ex * b.ey * b.ez

/-- The orbit index of the device in its slice (R161), if its vertex belongs to it. -/
def State.orbitIx (s : State) : Option Nat :=
  match s.bind with
  | some b => (List.range (sliceSize b)).find? fun k => orbitVtx b k == s.ownVtx
  | none => none

/-- Whether the device is the ingress device of its slice: orbit index 0 (R162). -/
def State.isIngress (s : State) : Bool := s.orbitIx == some 0

/-! ### Links (R253 to R258) -/

/-- Link `l`. -/
def State.lnk (s : State) (l : Nat) : Lnk := sget Lnk.init s.lnks l

/-- The state with link `l` changed. -/
def State.onLnk (s : State) (l : Nat) (f : Lnk → Lnk) : State := { s with lnks := supd Lnk.init s.lnks l f }

/-- The direction of a link: 0 to 5 on the torus, 6 for the spine (R253). -/
def linkDir (l : Nat) : Nat := min (l / 8) 6

/-- The links of a direction (R253). -/
def dirLinks (d : Nat) : List Nat := if d < 6 then (List.range 8).map (8 * d + ·) else (List.range 16).map (48 + ·)

/-- A spare: link 7 of a torus direction, links 62 and 63 of the spine (R253). -/
def linkSpare (l : Nat) : Bool := if l < 48 then l % 8 == 7 else l == 62 || l == 63

/-- Codes of Table 9-3. -/
def lkOFF : Nat := 0
/-- OPTICS. -/
def lkOPTICS : Nat := 1
/-- ACTIVE. -/
def lkACTIVE : Nat := 6
/-- FAILED. -/
def lkFAILED : Nat := 7
/-- MISWIRED. -/
def lkMISWIRED : Nat := 8

/-- A link that carries packets: ACTIVE, as a working link or an adopted spare (Table 9-13). -/
def State.linkWorks (s : State) (l : Nat) : Bool :=
  s.get (R.LNK_STAT_STATE l) == lkACTIVE && (s.get (R.LNK_STAT_USE l) == 1 || s.get (R.LNK_STAT_USE l) == 3)

/-- The working links of a direction, in rising order (R263). -/
def State.workingLinks (s : State) (d : Nat) : List Nat := (dirLinks d).filter s.linkWorks

/-- Working links that a direction needs (R262). -/
def dirNeed (d : Nat) : Nat := if d < 6 then 7 else 14

/-- A direction is used: its axis has more than one vertex, or the spine has a role (R254). -/
def State.dirUsed (s : State) (d : Nat) : Bool := if d < 6 then decide (1 < s.torus (d / 2)) else s.hasSpine

/-- FAB_STAT.DSTATE_d: OFF, FULL, ADOPTED or SHORT (Table 9-10). -/
def State.dirState (s : State) (d : Nat) : Nat :=
  if !s.dirUsed d then 0
  else if (s.workingLinks d).length < dirNeed d then 3
  else if (s.workingLinks d).any fun l => s.get (R.LNK_STAT_USE l) == 3 then 2
  else 1

end Sys2Proof.Machine
end

