-- ==== Sys2Proof/Machine/Request.lean ====
section
/-! DEFINITION. The request table, tenants, version slots and whether the slice is serving (R319 to R323, R331, R338, R355, R358). -/

namespace Sys2Proof.Machine

open Sys2Proof

/-- Codes of Table 11-1. -/
def ReqState.code : ReqState → Nat
  | .free => 0 | .inAdmission => 1 | .prefill => 2 | .decode => 3 | .rebuild => 4 | .waitBudget => 5 | .held => 6 | .ending => 7

/-- Codes of Table 12-1. -/
def slFREE : Nat := 0
/-- STAGING. -/
def slSTAGING : Nat := 1
/-- STAGED. -/
def slSTAGED : Nat := 2
/-- ACTIVE. -/
def slACTIVE : Nat := 3
/-- DRAINING. -/
def slDRAINING : Nat := 4

/-- Codes of TOP.STATE.STATE (Table 10-12). -/
def devBOOT : Nat := 1
/-- START. -/
def devSTART : Nat := 2
/-- READY. -/
def devREADY : Nat := 3
/-- FAULT. -/
def devFAULT : Nat := 4

/-- Request-table entry `i`. -/
def State.req (s : State) (i : Nat) : Req := sget Req.init s.serve.reqs i

/-- The state with entry `i` changed. -/
def State.onReq (s : State) (i : Nat) (f : Req → Req) : State :=
  { s with serve := { s.serve with reqs := supd Req.init s.serve.reqs i f } }

/-- Tenant `i`. -/
def State.tenant (s : State) (i : Nat) : Tenant := sget Tenant.init s.serve.tenants i

/-- The state with tenant `i` changed. -/
def State.onTenant (s : State) (i : Nat) (f : Tenant → Tenant) : State :=
  { s with serve := { s.serve with tenants := supd Tenant.init s.serve.tenants i f } }

/-- Prefix handle `i`. -/
def State.pfx (s : State) (i : Nat) : Pfx := sget Pfx.init s.serve.pfxs i

/-- The state with prefix handle `i` changed. -/
def State.onPfx (s : State) (i : Nat) (f : Pfx → Pfx) : State :=
  { s with serve := { s.serve with pfxs := supd Pfx.init s.serve.pfxs i f } }

/-- Micro-batch `m`. -/
def State.mb (s : State) (m : Nat) : MBatch := sget MBatch.init s.serve.mbs m

/-- The state with micro-batch `m` changed. -/
def State.onMb (s : State) (m : Nat) (f : MBatch → MBatch) : State :=
  { s with serve := { s.serve with mbs := supd MBatch.init s.serve.mbs m f } }

/-- Entries that are not FREE, with their index. -/
def State.busyReqs (s : State) : List (Nat × Req) := s.serve.reqs.filter fun e => e.2.st != .free

/-- A live request: admitted and not ended (R335, R340). -/
def Req.live (r : Req) : Bool := r.st != .free && r.st != .inAdmission && r.st != .ending

/-- The live requests. -/
def State.liveReqs (s : State) : List (Nat × Req) := s.serve.reqs.filter fun e => e.2.live

/-- A request ID (R321). -/
def reqId (i : Nat) (r : Req) : Nat := i + r.gen * 2 ^ 20

/-- The entry a request ID names, none when it is stale (R321). -/
def State.findReq (s : State) (id : Nat) : Option Nat :=
  let i := bits id 0 20
  if 8192 ≤ i ∨ (s.req i).gen ≠ bits id 20 12 ∨ (s.req i).st = .free ∨ (s.req i).st = .ending then none else some i

/-- The state of version slot `k`. -/
def State.slotSt (s : State) (k : Nat) : Nat := s.get (R.SLOT_STATE k)

/-- The ACTIVE slot, if any (R355). -/
def State.activeSlot (s : State) : Option Nat := [0, 1].find? fun k => s.slotSt k == slACTIVE

/-- The swap state (R355). -/
def State.swapState (s : State) : Nat :=
  if s.slotSt 0 = slDRAINING ∨ s.slotSt 1 = slDRAINING then 2
  else if [0, 1].any (fun k => s.slotSt k == slSTAGING || s.slotSt k == slSTAGED) then 1
  else 0

/-- Requests bound to slot `k` that have not left ENDING (R381). -/
def State.boundTo (s : State) (k : Nat) : Nat :=
  (s.serve.reqs.filter fun e => e.2.st != .free && e.2.st != .inAdmission && e.2.slot == k).length

/-- Whether another device counts as READY and bound as this one (R319, R358). -/
def State.peerOk (s : State) (b : Binding) (k : Nat) : Bool :=
  match sget none s.serve.peers k, s.activeSlot with
  | some r, some a =>
    r.ready && !r.fault && r.sliceId == b.sliceId && r.bgen == b.bgen && r.version.toNat == s.get (R.SLOT_VERSION a) && r.refValid &&
      r.expValid
  | _, _ => false

/-- The slice is serving (R319, R358): this device is the ingress, READY in P0, its ACTIVE slot loaded or restored since reset its scratchpads not zeroised since (R469), and every spare that start-up adopted programmed (R445), and so is every other device by its report. -/
def State.serving (s : State) : Bool :=
  match s.bind, s.activeSlot with
  | some b, some a =>
    s.isIngress && s.get R.STATE_STATE == devREADY && s.get R.STATE_PSTATE == 0 && (sget none s.ws.mans a).isSome && !s.ws.scrubbed && (!s.ws.spares.any fun x => (s.siteOf x.1).val % 9 == 8) &&
      s.pw.stopAt.isNone && s.pw.cal.isNone &&
      (List.range (sliceSize b)).all fun k => k == 0 || s.peerOk b k
  | _, _ => false

/-- Pinned prefix positions of a tenant (R340). -/
def State.pinned (s : State) (t : Nat) : Nat :=
  ((s.serve.pfxs.filter fun e => e.2.valid && e.2.tenant == t).map fun e => e.2.toks.length).sum

/-- A request's budget-wait clock (R333). -/
def State.bwaitNow (s : State) (r : Req) : Nat := r.bwait + (match r.bwaitAt with | some t => s.now - t | none => 0)

/-- Whether a request names prefix handle `i`. -/
def State.pfxNamed (s : State) (i : Nat) : Bool :=
  s.serve.reqs.any fun e => e.2.pfx == some i && e.2.st != .free && e.2.st != .ending

/-- The pages of a handle that no longer stands are freed once no request names it (R341). -/
def State.pfxUnpin (s : State) (i : Nat) : State :=
  if (s.pfx i).held && !(s.pfx i).valid && !s.pfxNamed i then s.onPfx i fun p => { Pfx.init with gen := p.gen } else s

/-- A handle is released or evicted: stale at once, its GEN advanced past 0 (R338, R341). -/
def State.pfxDrop (s : State) (i : Nat) : State :=
  (s.onPfx i fun p => { p with gen := p.gen % 65535 + 1, valid := false, held := true }).pfxUnpin i

/-- The serving registers that show state kept elsewhere (R352); off the ingress device only SERVE.STAT holds a value. -/
def State.serveView (s : State) (off : Nat) : Option Nat :=
  if off = 0x700018 then
    some ((if s.bind.isNone then 0 else if s.isIngress then 1 else 2) + 4 * s.serving.toNat + 16 * (s.busyReqs.filter fun e => decide (e.1 < 8192)).length)
  else if !s.isIngress then some 0
  else if 0x710000 ≤ off ∧ off < 0x718000 then
    let i := (off - 0x710000) / 32
    let x := s.tenant i
    some (x.level + (s.liveReqs.filter fun e => e.2.tenant == i).length * 2 ^ 40 + x.en.toNat * 2 ^ 54 +
      (match x.nextSet with | some n => n.1 | none => x.rate) * 2 ^ 64 +
      (match x.nextSet with | some n => n.2.1 | none => x.burst) * 2 ^ 96 + s.pinned i * 2 ^ 128 + x.pfxq * 2 ^ 160)
  else if 0x720000 ≤ off ∧ off < 0x740000 then
    let r := s.req ((off - 0x720000) / 16)
    some (r.gen + r.st.code * 2 ^ 12 + r.inflight.toNat * 2 ^ 15 + r.tenant * 2 ^ 16 + r.seq.length * 2 ^ 32 + r.delivered * 2 ^ 64 +
      s.bwaitNow r / 940000 * 2 ^ 96)
  else none

/-- The weight-store registers that show state kept elsewhere (R388). -/
def State.wsView (s : State) (off : Nat) : Option Nat :=
  if off = 0x800000 then
    some (s.swapState + (match s.activeSlot with | some k => 4 * k + 8 | none => 0))
  else if off = 0x800010 ∨ off = 0x800020 then
    let k := (off - 0x800010) / 16
    some (s.get (R.SLOT_VERSION k) + s.get (R.SLOT_PLACE_ID k) * 2 ^ 32 + s.slotSt k * 2 ^ 64 + s.get (R.SLOT_REF_VALID k) * 2 ^ 67 +
      s.get (R.SLOT_EXP_VALID k) * 2 ^ 68 + (if s.isIngress then (s.liveReqs.filter fun e => e.2.slot == k).length else 0) * 2 ^ 80)
  else if off = 0x800030 then
    match s.ws.load with
    | none => some 0
    | some l =>
      some ((if l.restore then 3 else if l.done then 2 else 1) + l.got.length * 2 ^ 8 + l.man.chunks.length * 2 ^ 32)
  else none

end Sys2Proof.Machine
end

