-- ==== Sys2Proof/Machine/View.lean ====
section
/-! DEFINITION. What a register reads: stored fields, and the registers that show state kept elsewhere (R10, R284). -/

namespace Sys2Proof.Machine

open Sys2Proof

/-- Codes of Table 3-5. -/
def VcState.code : VcState → Nat
  | .halt => 0 | .run => 1 | .issueStall => 2 | .wait => 3 | .fault => 4

/-- Codes of Table 1-10. -/
def ArrState.code : ArrState → Nat
  | .idle => 0 | .load => 1 | .conv => 2 | .rerun => 3 | .drain => 4 | .prog => 5 | .test => 6 | .halt => 7

/-- Codes of SPSTAT (Table 3-11). -/
def BankPower.code : BankPower → Nat
  | .on => 0 | .ret => 1 | .waking => 2 | .entering => 3

/-- Codes of channel STAT: IDLE shows as DISABLED while ENABLE is 0 (Table 8-13). -/
def ChanState.code (en : Bool) : ChanState → Nat
  | .idle => if en then 0 else 4 | .fetch => 1 | .run => 2 | .error => 3

/-- The site of router coordinates, and the coordinates of a site (R157). -/
def siteX (t : Nat) : Nat := 3 * (t / 9 % 8) + t % 9 % 3
/-- The y coordinate. -/
def siteY (t : Nat) : Nat := 3 * (t / 72) + t % 9 / 3

/-- Hop count between two sites' routers (R157). -/
def radius (a b : Nat) : Nat :=
  ((siteX a : Int) - siteX b).natAbs + ((siteY a : Int) - siteY b).natAbs

/-- Byte `k` of the radius table window (Table 5-4). -/
def radiusByte (k : Nat) : Nat :=
  if k < 0x40 then
    ([1, 0, 32, 1, 32, 0, 24, 12, 2, 8, 0, 0, 0, 0, 0, 0, 0x40, 0, 0, 0, 0x40, 0x44, 1, 0] : List Nat).getD k 0
  else if k < 0x14440 then radius ((k - 0x40) / 288) ((k - 0x40) % 288)
  else if k < 0x16840 then radius ((k - 0x14440) / 32) (9 * ((k - 0x14440) % 32) + 4)
  else 0

/-- A waiting WAIT or ACQUIRE holds the head of a queue. -/
def Queue.waits (u : Queue) : Bool := match u.head with | .waiting .. => true | _ => false

/-- A number for a truth value. -/
def b01 (b : Bool) : Nat := if b then 1 else 0

/-- The registers of tile `t` that show state kept elsewhere (Tables 1-12 to 1-18, 3-8 to 3-17). ASEQ_STAT counts the ARR.MVM entries of the ARR queue, for QLEN and for IDLE alike; entries of another kind leave IDLE at 1 (DESIGN CHOICE, log entry 86). -/
def State.tileView (s : State) (t : Site) (o : Nat) : Option Nat :=
  let x := s.tile t
  let arrBusy (a : Nat) : Bool := !((x.ctl a).st == .idle || (x.ctl a).st == .halt)
  let isArr (e : QEntry) : Bool := match e.op with | .arrMvm .. => true | _ => false
  if o = 0 then some (s.tileId t)
  else if o = 8 then
    some (x.vc.code + 16 * x.pstate + 256 * b01 x.fenced + 512 * b01 x.tu.isSome +
      1024 * b01 ((List.range 32).any fun k => (x.blk k).opn))
  else if o = 0x18 then some (((List.range 8).map fun b => (x.bank b).pst.code * 4 ^ b).sum)
  else if o = 0x50 then
    some (x.qArr.ents.length + 2 ^ 8 * x.qTu.ents.length + 2 ^ 16 * x.qDma.ents.length + 2 ^ 24 * x.qSync.ents.length +
      2 ^ 32 * (b01 x.qArr.waits + 2 * b01 x.qTu.waits + 4 * b01 x.qDma.waits + 8 * b01 x.qSync.waits))
  else if o = 0x2004 then
    some ((x.qArr.ents.filter isArr).length +
      2 ^ 8 * b01 (!(x.qArr.ents.any isArr) && (List.range 64).all fun a => !arrBusy a) + 2 ^ 9 * b01 x.fenced)
  else if o = 0x2010 then some (((List.range 64).map fun a => b01 (arrBusy a) * 2 ^ a).sum)
  else if 0x8000 ≤ o ∧ o < 0xA000 ∧ o % 0x80 = 4 then
    let a := (o - 0x8000) / 0x80
    some ((x.ctl a).st.code + 16 * s.get (R.ARRSTAT_PLOCK0 t.val a) + 32 * s.get (R.ARRSTAT_PLOCK1 t.val a) +
      64 * b01 (x.ctl a).last)
  else if 0xC000 ≤ o ∧ o < 0xC210 then
    let a := s.get (R.OTRIM_SEL_ARRAY t.val)
    some (((List.range 4).map fun k => unsx 6 (sget 0 (x.ctl a).otrim (o / 4 * 4 - 0xC000 + k)) * 256 ^ k).sum)
  else none

/-- The status and pointer registers of channel `c` (Tables 8-13, R251). -/
def State.chanView (s : State) (c : Nat) (base o : Nat) : Option Nat :=
  let x := s.chan c
  if o = 4 then
    some (ChanState.code (s.get ⟨base, 0, 1, 1⟩ == 1) x.st + 16 * x.pend.length + 256 * s.get ⟨base + 4, 8, 4, 0⟩)
  else if o = 0x10 then some x.cur.toNat
  else none

/-- Lending is frozen (R406). -/
def State.lendFrozen (s : State) : Bool := s.get R.LAT_STAT_MODE == 1 || s.get R.LEND_CTL_EN == 0

/-! ### History records (R431) -/

/-- One byte into CRC-32C, reflected (R256, R431). -/
def crcByte (c : Nat) (b : Byte) : Nat :=
  (List.range 8).foldl (fun c _ => if c % 2 = 1 then Nat.xor (c / 2) 0x82F63B78 else c / 2) (Nat.xor c b.toNat)

/-- CRC-32C. -/
def crc32c (l : List Byte) : Nat := Nat.xor (l.foldl crcByte (2 ^ 32 - 1)) (2 ^ 32 - 1)

/-- Beat 0 of a fault event (Table 14-1), the bits of the message header zero. -/
def FaultEv.beat0 (e : FaultEv) : Nat :=
  e.kind.toNat * 2 ^ 27 + e.site.toNat * 2 ^ 35 + e.array.toNat * 2 ^ 44 + e.group.toNat * 2 ^ 50 + e.bitplane.toNat * 2 ^ 52 +
    e.wplane.toNat * 2 ^ 55 + e.detail.toNat * 2 ^ 56

/-- The history record of site `t` as its 256 bytes (Table 14-4). -/
def histBytes (t : Nat) (h : Hist) : List Byte :=
  let counts := [h.ksFail, h.ksUnconf, h.chkEvt, h.colRepair, h.regEvt, h.stall, h.dual, h.selftest, h.merged]
  let evs := (List.range 8).map fun i =>
    match sget none h.events i with
    | some (e, sec, act) => leBytes 8 (FaultEv.beat0 e) ++ leBytes 4 sec ++ leBytes 4 act
    | none => leBytes 16 0
  let b := leBytes 2 1 ++ leBytes 2 t ++ leBytes 1 h.status ++ leBytes 1 h.next ++ leBytes 2 0 ++ (counts.map (leBytes 4)).flatten ++
    ((List.range 3).map fun i => leBytes 4 (h.ksT.getD i 0)).flatten ++ leBytes 4 h.permS ++ leBytes 4 0 ++ evs.flatten ++ leBytes 60 0
  b ++ leBytes 4 (crc32c b)

/-- A whole register that shows state kept elsewhere or whose reset value depends on its index. -/
def State.viewReg (s : State) (off : Nat) : Option Nat :=
  if 0x2000000 ≤ off then
    s.tileView (Fin.ofNat 288 ((off - 0x2000000) / 0x10000)) ((off - 0x2000000) % 0x10000)
  else if 0x1000000 ≤ off ∧ off < 0x1200000 then
    let n := (off - 0x1000000) / 0x10000
    let o := (off - 0x1000000) % 0x10000
    if 0x6000 ≤ o ∧ o < 0x6200 then s.chanView (8 * n + (o - 0x6000) / 0x40) (off / 0x40 * 0x40) (o % 0x40)
    else if 0x4080 ≤ o ∧ o < 0x40C0 then
      some (s.get (R.MREG_BASE_MIB n ((o - 0x4080) / 8)) + 2 ^ 16 * s.get (R.MREG_SIZE_MIB n ((o - 0x4080) / 8)))
    else none
  else if 0x601000 ≤ off ∧ off < 0x601400 then
    s.chanView (256 + (off - 0x601000) / 0x40) (off / 0x40 * 0x40) (off % 0x40)
  else if 0x580000 ≤ off ∧ off < 0x600000 then
    let x := s.obj ((off - 0x580000) / 16)
    some (x.counter + 2 ^ 32 * x.gen + 2 ^ 40 * x.mode + 2 ^ 42 * x.q.length + 2 ^ 64 * x.target)
  else if 0x1000 ≤ off ∧ off < 0x1400 then
    some (s.get (R.REMAP_SITE ((off - 0x1000) / 4)) + 2 ^ 16 * s.get (R.REMAP_ADOPTED ((off - 0x1000) / 4)))
  else if off = 0xC00 then
    some (s.get R.FLT_STAT_REDUND + 2 * s.get R.PWR_STAT_PROFILE + 8 * s.get R.MODE_STAT_PROFILE_HELD + 16 * s.get R.LAT_STAT_MODE +
      32 * b01 s.hasSpine + 64 * s.swapState + 256 * s.get R.FLT_CTL_TEST + 1024 * b01 s.lendFrozen +
      2048 * b01 (s.get R.FLT_CTL_REDUND != s.get R.FLT_STAT_REDUND))
  else if off = 0x100000 then
    some (s.get R.PWR_STAT_PSTATE + 2 ^ 3 * s.get R.PWR_STAT_PROFILE + 2 ^ 5 * b01 s.lendFrozen + 2 ^ 6 * s.get R.PWR_STAT_PLL_LOCK +
      2 ^ 7 * s.get R.PWR_STAT_CLK_SRC + 2 ^ 8 * s.get R.PWR_STAT_TRIPPED + 2 ^ 9 * s.get R.PWR_STAT_STOPPED + 2 ^ 16 * s.get R.PWR_STAT_POWER_W)
  else if off = 0xA008 then
    some (s.fe.pend.length + 2 ^ 5 * b01 s.fe.deciding.isSome + 2 ^ 6 * s.get R.FLT_STAT_REDUND + 2 ^ 7 * b01 s.cfg.pkg.isSome +
      2 ^ 8 * min 255 s.fe.busy.length)
  else if off = 0xA020 then some (match s.cfg.pkg with | some p => p.id + 2 ^ 32 * p.ver | none => 0)
  else if 0x40000 ≤ off ∧ off < 0x52000 then
    let t := (off - 0x40000) / 0x100
    some (leNat (((histBytes t (sget Hist.init s.fe.hist t)).drop (off % 0x100 / 4 * 4)).take 4))
  else if off = 0x4004 then
    some (s.get R.LAT_STAT_MODE + 2 * s.get R.LAT_STAT_SWITCHING + 4 * b01 (s.lat.isEmpty && s.tiles.all fun e => e.2.ej.isEmpty))
  else if off = 0x5010 then some (((List.range 7).map fun d => s.dirState d * 16 ^ d).sum)
  else if off = 0x5024 then
    some (s.get R.TC_STAT_STATE + 4 * s.get R.TC_STAT_PARENT + 32 * s.get R.TC_STAT_DEPTH + 4096 * s.tm.marks.length +
      65536 * s.get R.TC_STAT_OFFSET)
  else if 0x700000 ≤ off ∧ off < 0x800000 then s.serveView off
  else if 0x800000 ≤ off ∧ off < 0x800100 then s.wsView off
  else if 0x20000 ≤ off ∧ off < 0x36840 then
    some (((List.range 4).map fun k => radiusByte (off / 4 * 4 - 0x20000 + k) * 256 ^ k).sum)
  else none

/-- The value of the register at `off`, whose fields are `l`: write-only fields read zero (R10). -/
def State.regValue (s : State) (off : Nat) (l : List FDesc) : Nat :=
  match s.viewReg off with
  | some v => v
  | none => (l.map fun d => if d.acc = .wo then 0 else s.get ⟨off, d.lsb, d.w, d.rst⟩ * 2 ^ d.lsb).sum

/-- What an aligned read of one 32-bit or 64-bit word at `off` returns; an unmapped offset reads zero (R284). -/
def State.regWord (s : State) (off bytes : Nat) : Nat :=
  match regFind off regTable with
  | some (r, k) => s.regValue (off - k) r.fields / 256 ^ k % 256 ^ bytes
  | none => match s.viewReg off with | some v => v % 256 ^ bytes | none => 0

/-- What an access of BAR0 reads (R284): a 64-bit read of two 32-bit registers is two reads, any other size reads zero. -/
def State.regRaw (s : State) (off bytes : Nat) : Nat :=
  if bytes = 4 ∧ off % 4 = 0 then s.regWord off 4
  else if bytes = 8 ∧ off % 8 = 0 then
    match regFind off regTable with
    | some (r, k) => if k + 8 ≤ r.bytes then s.regWord off 8 else s.regWord off 4 + 2 ^ 32 * s.regWord (off + 4) 4
    | none => s.regWord off 4 + 2 ^ 32 * s.regWord (off + 4) 4
  else 0

/-- What a read of BAR0 returns: outside TOP zero before step 4 (R286). -/
def State.regRead (s : State) (off bytes : Nat) : Nat :=
  if 0x100000 ≤ off ∧ s.get R.STATE_STEP < 4 then 0 else s.regRaw off bytes

end Sys2Proof.Machine
end

