-- ==== Sys2Proof/Machine/Net.lean ====
section
/-! DEFINITION. What travels on the lattice and the tangent: nodes, routes, slots, packets and messages in flight (R196 to R215, R218). -/

namespace Sys2Proof.Machine

open Sys2Proof

/-! ### Nodes and routes of the lattice (R196 to R200) -/

/-- The site of the router at which a lattice node joins (Tables 7-2, 7-3); the control cores, the security core, the fault engine and the weight store join through the control agent. -/
def State.nodeSite (s : State) (n : Nat) : Nat :=
  if n < 0x100 then (s.siteOf n).val
  else if n < 0x140 then 9 * (n % 32) + 4
  else if n < 0x170 then ([140, 143, 75, 78, 20, 27, 242, 249, 38, 45, 260, 267, 56, 63, 278, 285] : List Nat).getD (n - 0x160) 0
  else if n = 0x170 then 147
  else if n = 0x171 then 150
  else if 0x400 ≤ n ∧ n < 0x520 then n - 0x400
  else 212

/-- Where a packet for node `n` leaves the lattice: a logical tile is resolved through TOP.REMAP (R155, R198); a node that joins through the control agent leaves at its AGENT port (Table 7-3). -/
def State.latExit (s : State) (n : Nat) : LatDst :=
  if n < 0x100 then .tile (s.siteOf n)
  else if n < 0x120 then .stack (Fin.ofNat 32 n)
  else if n < 0x140 then .engine (Fin.ofNat 32 n)
  else if 0x400 ≤ n ∧ n < 0x520 then .tile (Fin.ofNat 288 (n - 0x400))
  else .agent (BitVec.ofNat 11 n)

/-- The router at which a packet leaves the lattice. -/
def State.latRouter (s : State) : LatDst → Nat
  | .tile t => t.val
  | .stack n => 9 * n.val + 4
  | .engine n => 9 * n.val + 4
  | .agent n => s.nodeSite n.toNat

/-- The port of its last router by which a packet leaves (Table 7-1). -/
def dstPort : LatDst → Nat
  | .tile _ => 0
  | .stack _ | .engine _ => 5
  | .agent _ => 6

/-- The port of its first router by which the packets of a source node enter (Tables 7-1, 7-3). -/
def srcPort (n : Nat) : Nat := if n < 0x100 ∨ 0x400 ≤ n then 0 else if n < 0x140 then 5 else 6

/-- The site at router coordinates (R157). -/
def siteAt (x y : Nat) : Nat := 9 * (8 * (y / 3) + x / 3) + 3 * (y % 3) + x % 3

/-- The routers of the path from site `a` to site `b`, along x and then y (R200). -/
def latPath (a b : Nat) : List Nat :=
  let run (u v : Nat) : List Nat := if u ≤ v then (List.range (v - u + 1)).map (u + ·) else (List.range (u - v + 1)).map (u - ·)
  (run (siteX a) (siteX b)).dropLast.map (fun x => siteAt x (siteY a)) ++ (run (siteY a) (siteY b)).map (siteAt (siteX b))

/-- The output port that leads from a router to its neighbour (Table 7-1). -/
def portTo (a b : Nat) : Nat :=
  if siteX a < siteX b then 1 else if siteX b < siteX a then 2 else if siteY a < siteY b then 3 else 4

/-- The input port at which a router receives what a neighbour sends by its output port `o` (Table 7-1). -/
def portFrom (o : Nat) : Nat := if o = 1 then 2 else if o = 2 then 1 else if o = 3 then 4 else 3

/-- The routers of a path with the input and the output port that a packet takes at each. -/
def latPorts (inp out : Nat) : List Nat → List (Nat × Nat × Nat)
  | [] => []
  | [r] => [(r, inp, out)]
  | r :: q :: l => (r, inp, portTo r q) :: latPorts (portFrom (portTo r q)) out (q :: l)

/-- Flits of a packet with `n` payload bytes (R199). -/
def flitsOf (n : Nat) : Nat := (32 + n + 127) / 128

/-- Payload bytes of a packet (Table 7-5). -/
def latPayload (op : Nat) (p : LatPkt) : Nat := if op = 0 ∨ op = 2 then 64 * p.words else if op = 4 ∨ op = 5 then 4 * p.parts.length else 0

/-- The virtual channel of an operation: WR 0, RQ 1, RS 2 (Table 7-5). -/
def latVc (op : Nat) : Nat := if op = 1 then 1 else if op = 2 ∨ op = 3 then 2 else 0

/-! ### Slots (R208) -/

/-- The lattice cycles since the clock switch of start-up step 5 (R208). -/
def State.latCycle (s : State) : Nat := match s.cycle0 with | some c => 2 * (s.now - c) | none => 0

/-- Slots of a frame (Table 7-9). -/
def State.frame (s : State) : Nat := 64 * 2 ^ min 2 (s.get R.LAT_CTL_FRAME)

/-- The entry of output `o` of router `r` in slot `k` (Table 7-13). -/
def lslotF (r k o : Nat) : FRef := ⟨0x2004000 + 0x10000 * r + 4 * k, 4 * o, 4, 15⟩

/-- Whether router `r` passes, in lattice cycle `c`, the head of a packet of `f` flits from input `i` to output `o`: its slot names the input, or is OPEN with room for the packet in the OPEN slots that follow (R208). -/
def State.slotCarries (s : State) (r i o f c : Nat) : Bool :=
  let e (k : Nat) : Nat := s.get (lslotF r (k % s.frame) o)
  e c == i || (List.range f).all fun j => e (c + j) == 0xE

/-- A packet's head on its way from lattice cycle `c` on: the routers in whose slot it waits, and whether it waits for ever (R208). Successive routers lie two cycles apart. -/
def State.slotWalk (s : State) (f : Nat) : Nat → List (Nat × Nat × Nat) → List Nat × Bool
  | _, [] => ([], false)
  | c, (r, i, o) :: l =>
    match (List.range s.frame).find? fun d => s.slotCarries r i o f (c + d) with
    | none => ([r], true)
    | some d =>
      let z := s.slotWalk f (c + d + 2) l
      (if d = 0 then z.1 else r :: z.1, z.2)

/-! ### Packets in flight (R200 to R203, R209) -/

/-- A packet injected: its destination is resolved and its route fixed now (R155, R200); in SCHEDULED mode its head follows the slots (R208). `seen` names the links, as router and output, whose flits an earlier copy of the packet counts (R202). -/
def State.latPut (s : State) (op : Nat) (p : LatPkt) (tr : Option (Nat × Nat × Nat)) (seen : List (Nat × Nat)) : State :=
  let dst := s.latExit p.dest.toNat
  let hops := latPorts (srcPort p.src.toNat) (dstPort dst) (latPath (s.nodeSite p.src.toNat) (s.latRouter dst))
  let w := if s.get R.LAT_STAT_MODE = 1 then s.slotWalk (flitsOf (latPayload op p)) s.latCycle hops else ([], false)
  let path := (hops.filter fun h => !seen.contains (h.1, h.2.2)).map (·.1)
  State.emit { s with lat := s.lat ++ [⟨op, p, dst, path, w.1, w.2, tr⟩] } (.lat op p)

/-- The logical tiles of a multicast group, its mask as it stands now (R202). -/
def State.mcTiles (s : State) (g : Nat) : List Nat :=
  (List.range 256).filter fun l => (s.get (R.LAT_MCAST_MASK g (l / 32))).testBit (l % 32)

/-- The links that the path of a copy takes. -/
def State.copyLinks (s : State) (p : LatPkt) (l : Nat) : List (Nat × Nat) :=
  (latPorts (srcPort p.src.toNat) 0 (latPath (s.nodeSite p.src.toNat) (s.siteOf l).val)).map fun h => (h.1, h.2.2)

/-- The copies of a multicast WRITE along the tree of their paths: a link that several copies share is counted once (R202). -/
def State.latCopies (s : State) (p : LatPkt) (tr : Option (Nat × Nat × Nat)) : List (Nat × Nat) → List Nat → State
  | _, [] => s
  | seen, l :: r =>
    (s.latPut 0 { p with dest := BitVec.ofNat 11 l } (tr.map fun k => (k.1, k.2.1, 1 + l)) seen).latCopies p tr
      (seen ++ s.copyLinks p l) r

/-- A packet leaves its source: copied when it is multicast. -/
def State.latSend (s : State) (op : Nat) (p : LatPkt) (tr : Option (Nat × Nat × Nat)) : State :=
  if p.mc then s.latCopies p tr [] (s.mcTiles (p.dest.toNat % 64)) else s.latPut op p tr []

/-- A packet is injected, or held at its source while the lattice switches its mode (R209). -/
def State.inject (s : State) (op : Nat) (p : LatPkt) (tr : Option (Nat × Nat × Nat) := none) : State :=
  if s.get R.LAT_STAT_SWITCHING = 1 then { s with latHold := s.latHold ++ [(op, p, tr)] } else s.latSend op p tr

/-- The held injections are released (R209). -/
def State.releaseHeld (s : State) : State :=
  { s with latHold := [] }.each s.latHold fun s e => s.latSend e.1 e.2.1 e.2.2

/-- Two packets are delivered in the order sent: one source node, one destination node, one virtual channel (R201). -/
def LatFly.follows (e : LatFly) (op : Nat) (p : LatPkt) : Bool :=
  e.p.src == p.src && e.p.dest == p.dest && latVc e.op == latVc op

/-- A packet reaches its end: taken from those in flight, none while an earlier one of its source, destination and virtual channel is on its way (R201) or a slot holds it (R208). One that none in flight matches comes from an agent whose sends the model does not hold; its path is that of its header. -/
def State.latTake (s : State) (op : Nat) (dst : LatDst) (p : LatPkt) : Option (State × LatFly) :=
  match s.lat.findIdx? fun e => e.op == op && e.p == p && e.dst == dst with
  | none => some (s, ⟨op, p, dst, latPath (s.nodeSite p.src.toNat) (s.latRouter dst), [], false, none⟩)
  | some i =>
    match s.lat[i]? with
    | some e =>
      if e.stuck || (s.lat.take i).any fun q => q.follows op p then none
      else some ({ s with lat := s.lat.eraseIdx i }, e)
    | none => none

/-! ### Errors and counts on the way (R208, R218, R220) -/

/-- The fault event of an uncorrectable network error is raised by `k` for the router or stop it is met at. -/
def State.latPass (s : State) (e : LatFly) (err : NetErr) (k : Nat → State → State) : State × Bool :=
  let n := flitsOf (latPayload e.op e.p)
  let count (l : List Nat) (s : State) : State := s.each l fun s r => s.bump (R.RT_FLIT_CNT r) n
  let s := s.each e.viol fun s r => s.bumpEvt (R.RT_SLOT_VIOL r) R.NET_EVT_SLOT_VIOL
  match err with
  | .none => (count e.path s, true)
  | .corrected h => ((count e.path s).bumpEvt (R.RT_CE (e.path.getD (h % e.path.length) 0)) R.NET_EVT_LAT_CE, true)
  | .uncorrectable h =>
    let i := h % e.path.length
    let r := e.path.getD i 0
    (k r ((count (e.path.take i) s).bumpEvt (R.RT_UE r) R.NET_EVT_LAT_UE), false)

/-- No flit stands in any router or ejection buffer (Table 7-10). -/
def State.latQuiet (s : State) : Bool := s.lat.isEmpty && s.tiles.all fun e => e.2.ej.isEmpty

/-! ### The tangent (R213 to R215) -/

/-- Stops of a ring (Table 7-7). -/
def Ring.size : Ring → Nat
  | .sector _ => 13 | .row _ => 9 | .root => 5 | .system => 24

/-- The index of the bridge of a ring to the ring above it (Table 7-7); the root ring's leads to the system ring. -/
def Ring.bridge : Ring → Nat
  | .sector _ => 12 | .row _ => 8 | .root => 4 | .system => 23

/-- The stop of a node (Tables 7-3, 7-7); a logical tile is resolved through TOP.REMAP (R155, R198). -/
def State.tanStop (s : State) (n : Nat) : TStop :=
  if n < 0x100 then ⟨.sector ((s.siteOf n).val / 9), (s.siteOf n).val % 9⟩
  else if n < 0x120 then ⟨.sector (n - 0x100), 9⟩
  else if n < 0x140 then ⟨.sector (n - 0x120), 10⟩
  else if n < 0x160 then ⟨.sector (n - 0x140), 11⟩
  else if n < 0x170 then ⟨.system, 15 + (n - 0x160) / 2⟩
  else if n = 0x170 ∨ n = 0x171 then ⟨.system, 13 + (n - 0x170)⟩
  else if 0x178 ≤ n ∧ n < 0x180 then ⟨.system, n - 0x178⟩
  else if 0x181 ≤ n ∧ n ≤ 0x185 then ⟨.system, 8 + (n - 0x181)⟩
  else ⟨.sector ((n - 0x400) % 288 / 9), (n - 0x400) % 9⟩

/-- The rings from a stop up to the root ring, each with the place at which its traffic stands on it (Table 7-7). -/
def TStop.chain (x : TStop) : List TStop :=
  match x.ring with
  | .sector s => [x, ⟨.row (s / 8), s % 8⟩, ⟨.root, s / 8⟩]
  | .row r => [x, ⟨.root, r⟩]
  | .root => [x]
  | .system => [x, ⟨.root, 4⟩]

/-- The way on one ring: the shorter direction, that of increasing stop index on a tie (R213). -/
def ringLeg (r : Ring) (i j : Nat) : TLeg :=
  let n := r.size
  let u := (j + n - i) % n
  if 2 * u ≤ n then ⟨⟨r, i⟩, true, u⟩ else ⟨⟨r, i⟩, false, n - u⟩

/-- The way from stop to stop: up to the first ring that both lie under, crossing only the bridges on the way, and down (R213). -/
def tanLegs (a b : TStop) : List TLeg :=
  let ca := a.chain
  let cb := b.chain
  match ca.find? fun x => cb.any fun y => y.ring == x.ring with
  | none => []
  | some x =>
    let y := (cb.find? fun y => y.ring == x.ring).getD x
    ((ca.takeWhile fun z => z.ring != x.ring).map fun z => ringLeg z.ring z.ix z.ring.bridge) ++ [ringLeg x.ring x.ix y.ix] ++
      ((cb.takeWhile fun z => z.ring != x.ring).reverse.map fun z => ringLeg z.ring z.ring.bridge z.ix)

/-- The least latency of a message in tangent cycles: 4, its ring hops, and one for each bridge (R214). -/
def tanLatency (l : List TLeg) : Nat := 4 + (l.map (·.hops)).sum + (l.length - 1)

/-- Message classes (Table 7-8). -/
def clSIG : Nat := 0
/-- EVT. -/
def clEVT : Nat := 1
/-- VAL. -/
def clVAL : Nat := 2

/-- A message sent from node to node in a class (R213 to R215): two ticks of 940 MHz pass in a tangent cycle. -/
def State.post (s : State) (src dst cls : Nat) (o : Out) : State :=
  let a := s.tanStop src
  let b := s.tanStop dst
  let l := tanLegs a b
  State.emit { s with tan := s.tan ++ [⟨a, b, cls, o, l, s.now + 2 * tanLatency l⟩] } o

/-- Whether a message follows another: one stop, one destination, one class (R215). -/
def TanFly.follows (e q : TanFly) : Bool := e.src == q.src && e.dst == q.dst && e.cls == q.cls

/-- A message reaches its destination: taken from those in flight, none while an earlier one of its stop, destination and class is on its way (R215). One that none in flight matches comes from a unit whose sends the model does not hold. -/
def State.tanTake (s : State) (o : Out) : Option (State × Option TanFly) :=
  match s.tan.findIdx? fun e => e.o == o with
  | none => some (s, none)
  | some i =>
    match s.tan[i]? with
    | some e =>
      if (s.tan.take i).any fun q => q.follows e then none
      else some ({ s with tan := s.tan.eraseIdx i }, some e)
    | none => none

/-- The stops that a message passes, in the order of its hops. -/
def TLeg.stops (l : TLeg) : List TStop :=
  (List.range (l.hops + 1)).map fun k =>
    ⟨l.at_.ring, if l.up then (l.at_.ix + k) % l.at_.ring.size else (l.at_.ix + l.at_.ring.size - k) % l.at_.ring.size⟩

/-- SITE of a stop in a fault event: the site of a tile stop, 0x1FF for any other (Table 14-1). -/
def TStop.site (x : TStop) : Nat :=
  match x.ring with | .sector s => if x.ix < 9 then 9 * s + x.ix else 0x1FF | _ => 0x1FF

end Sys2Proof.Machine
end

