-- ==== Sys2Proof/Machine/Ops.lean ====
section
/-! DEFINITION. The named operations on the state: messages, the clamp log and the gate of set-up writes, exceptions, scratchpad, issue. -/

namespace Sys2Proof.Machine

open Sys2Proof

/-! ### Host ports -/

/-- Port `p`. -/
def State.port (s : State) (p : Nat) : PortSt := sget PortSt.init s.ports p

/-- The state with port `p` changed. -/
def State.onPort (s : State) (p : Nat) (f : PortSt → PortSt) : State := { s with ports := supd PortSt.init s.ports p f }

/-- Port `p` exists in the mode in force (R279, R316). -/
def State.portIs (s : State) (p : Nat) : Bool := p == 0 || s.board.x8

/-- Port `p` serves its host: it exists (R316) and is not in D3hot (PRESUMED, PCI Express, log entry 89). -/
def State.portOn (s : State) (p : Nat) : Bool := s.portIs p && !(s.port p).d3

/-- Whether a partner reaches the register at `off` of BAR0 (Table 10-10): a host through its port, Enara firmware any, the BMC TOP.SETUP_LOCK, the device reset and, through its PLDM effecters, the power cap and the profile (R473). -/
def State.reaches (s : State) (src : Partner) (off : Nat) : Bool :=
  match src with
  | .portA => s.portOn 0
  | .portB => s.portOn 1
  | .firmware => true
  | .mgmt => off == 0x30 || off == 0x34 || off == 0x100000 || off == 0x100004

/-! ### Events and messages -/

/-- The message of vector `v` of port `p` is due (R304): sent, or left pending while the vector or the function is masked; none is sent until MSI-X is enabled (PRESUMED, PCI Express, log entry 89). -/
def State.msixSend (s : State) (p v : Nat) : State :=
  let x := s.port p
  if !x.msixEn then s
  else if x.msixFm || (sget Vec.init x.vecs v).masked then
    s.onPort p fun x => { x with vecs := supd Vec.init x.vecs v fun e => { e with pend := true } }
  else (s.emit (.msix p v)).bump (R.MSIX_CNT p)

/-- An event bit of TOP.HEVT[p]; vector 0 when its enable stands (R304, Table 10-14). -/
def State.hevt1 (s : State) (p bit : Nat) : State :=
  let s := s.put ⟨0x20 + 8 * p, bit, 1, 0⟩ 1
  if (s.get (R.HEVT_EN_EN p)).testBit bit then s.msixSend p 0 else s

/-- An event bit of TOP.HEVT in both ports (R295). -/
def State.hevt (s : State) (bit : Nat) : State := (s.hevt1 0 bit).hevt1 1 bit

/-- The node of the unit that raises a fault event: the tile concerned; else the stack controller, the DMA engine, the link's optical engine, the weight store, power and housekeeping, the security core, or control core 0, as the kind says (Table 14-2; DEDUCED, log entry 87). -/
def faultNode (kind site detail : Nat) : Nat :=
  if site < 288 then 0x400 + site
  else if kind = 0x0F ∨ kind = 0x10 then 0x100 + detail % 32
  else if kind = 0x11 then (if detail < 256 then 0x120 + detail / 8 else 0x170)
  else if kind = 0x12 then 0x160 + 2 * (detail / 8 % 8)
  else if kind = 0x15 then 0x185
  else if kind = 0x16 ∨ kind = 0x17 then 0x183
  else if kind = 0x19 then 0x181
  else 0x178

/-- The fault event of `kind` at `site` (Table 14-1), sent to the fault engine as an EVT message (R426). -/
def State.fault (s : State) (kind site : Nat) (array group bitplane : Nat := 0) (wplane : Bool := false)
    (detail : Nat := 0) (owner : BitVec 32 := 0xFFFFFFFF) (aux : Nat := 0) : State :=
  s.post (faultNode kind site detail) 0x184 clEVT (.fault ⟨BitVec.ofNat 8 kind, BitVec.ofNat 9 site, BitVec.ofNat 6 array, BitVec.ofNat 2 group,
    BitVec.ofNat 3 bitplane, wplane, BitVec.ofNat 8 detail, owner, BitVec.ofNat 32 aux⟩)

/-- The node of the synchronisation stop that holds the object of a handle: 1,024 objects to a sector (R221, R229). -/
def stopNode (h : Handle) : Nat := 0x140 + bits h.toNat 0 15 / 1024

/-- An operation on an object, sent by node `src` as a SIG message to its stop (R226): SIGNAL 0, WAIT 1, ACQUIRE 2, RESET 3. -/
def State.sendSig (s : State) (src : Nat) (h : Handle) (op : Nat) (n : BitVec 32) (w : Option WaiterId) : State :=
  s.post src (stopNode h) clSIG (.sig h op n w)

/-- A SIG message carrying a SIGNAL (R226). -/
def State.signal (s : State) (src : Nat) (h : Handle) (n : BitVec 32) : State := s.sendSig src h 0 n none

/-- The node of a tile's own stop (Table 7-3). -/
def siteNode (t : Site) : Nat := 0x400 + t.val

/-- What the check bits of a message showed at a stop on its way (R218): the state, and whether it goes on. `at_` is the stop of a message whose way the model does not hold. -/
def State.tanErr (s : State) (e : Option TanFly) (at_ : TStop) (err : NetErr) : State × Bool :=
  match err with
  | .none => (s, true)
  | .corrected _ => (s.bumpEvt R.TAN_CE_CNT R.NET_EVT_TAN_CE, true)
  | .uncorrectable h =>
    let l := match e with | some e => (e.legs.map TLeg.stops).flatten | none => []
    ((s.bumpEvt R.TAN_UE_CNT R.NET_EVT_TAN_UE).fault 0x0E (l.getD (h % l.length) at_).site, false)

/-- A message arrives at its stop `at_` in the order of R215, is checked (R218), counted (R220) and handled by `k`; one whose turn has not come stays on its way. -/
def State.tanArrive (s : State) (o : Out) (at_ : TStop) (err : NetErr) (k : State → State) : State :=
  match s.tanTake o with
  | none => s
  | some (s', e) =>
    let r := s'.tanErr e at_ err
    if r.2 then k (r.1.bump R.TAN_MSG_CNT) else r.1

/-! ### The clamp log and the gate of set-up writes (R286, R290 to R295) -/

/-- Kinds of clamp log entries (Table 10-4). -/
inductive ClampKind where
  | clamp | subst | keep | discard | locked | unmapped | notReady
deriving DecidableEq, Repr

/-- Their codes. -/
def ClampKind.code : ClampKind → Nat
  | .clamp => 0 | .subst => 1 | .keep => 2 | .discard => 3 | .locked => 4 | .unmapped => 5 | .notReady => 6

/-- SOURCE of a register write (Table 10-4). -/
def srcCode : Partner → Nat
  | .portA => 0 | .portB => 1 | .firmware => 2 | .mgmt => 3

/-- The code a partner writes to TOP.SETUP_LOCK; firmware takes no lock (R294). -/
def lockCode : Partner → Nat
  | .portA => 1 | .portB => 2 | .firmware => 0 | .mgmt => 3

/-- One clamp log entry (R295, Table 10-4). -/
def State.clampLog (s : State) (offset source : Nat) (kind : ClampKind) (lsb width written applied : Nat) : State :=
  let total := s.get R.CLAMP_HEAD_TOTAL
  let next := s.get R.CLAMP_HEAD_NEXT
  let e := offset % 2 ^ 26 + source * 2 ^ 26 + kind.code * 2 ^ 29 + lsb % 2 ^ 6 * 2 ^ 32 + width % 2 ^ 7 * 2 ^ 38 +
    total % 2 ^ 16 * 2 ^ 48 + written % 2 ^ 64 * 2 ^ 64 + applied % 2 ^ 64 * 2 ^ 128 + s.tm.time % 2 ^ 64 * 2 ^ 192
  let s := s.put (R.CLAMP_LOG_ENTRY next) e
  let s := (s.put R.CLAMP_HEAD_NEXT (next + 1)).put R.CLAMP_HEAD_TOTAL (total + 1)
  (s.hevt 0).emit (.evt 1 e)

/-- Why a set-up write by `src` at `off` is discarded as a whole, if it is (R286, R292, R294): outside TOP before step 4; another partner holds the lock. A partner's own TOP.HEVT and TOP.SETUP_LOCK are exempt from the lock, firmware from both. -/
def gateReg (src : Partner) (off : Nat) (s : State) : Option ClampKind :=
  let holder := s.get R.SETUP_LOCK_HOLDER
  if src = .firmware then none
  else if 0x100000 ≤ off ∧ s.get R.STATE_STEP < 4 then some .notReady
  else if off = 0x34 ∨ (src = .portA ∧ off = 0x20) ∨ (src = .portB ∧ off = 0x28) then none
  else if holder ≠ 0 ∧ holder ≠ lockCode src then some .locked
  else none

/-- A set-up write of `bytes` bytes: performed by `k`, or discarded and logged (R292). One of LNK, SCT or TILE travels as a CTRL message and is answered by a CRSP message (R217); the gate stands before the tangent (DEDUCED, log entry 87). A partner that does not reach the register has no effect on it (R316). -/
def regWrite (src : Partner) (off bytes v : Nat) (s : State) (k : State → State) : State :=
  if !s.reaches src off then s
  else match gateReg src off s with
  | some kind => s.clampLog off (srcCode src) kind 0 (8 * bytes) v (s.regRaw off bytes)
  | none => k (if 0xC00000 ≤ off then ((s.bump R.TAN_MSG_CNT 2).emit (.ctrl off bytes v)).emit (.crsp off) else s)

/-- BAR0 offset of register `o` of tile `t` (R118). -/
def tileOff (t : Site) (o : Nat) : Nat := 0x2000000 + 0x10000 * t.val + o

/-! ### Exceptions of the vector core (R146 to R148) -/

/-- Causes of Table 4-8. -/
inductive Cause where
  | illegal | spOwner | align | addr | brk
deriving DecidableEq, Repr

/-- Their codes. -/
def Cause.code : Cause → Nat
  | .illegal => 1 | .spOwner => 2 | .align => 3 | .addr => 4 | .brk => 5

/-- VC_STAT records cause and address, SPEVT.VC_FAULT is set (R146). -/
def State.vcStat (s : State) (t : Site) (c : Cause) (pc : Nat) : State :=
  ((s.put (R.VC_STAT_CAUSE t.val) c.code).put (R.VC_STAT_FPC t.val) pc).set1 (R.SPEVT_VC_FAULT t.val)

/-- An exception of the instruction at `pc`, `ord`-th in program order: the vector core stops in FAULT; in FAULT the first cause is kept, but of two in one tick the earlier instruction's (R146 to R148). An access without ownership also fails the tile's work, whose request Enara firmware ends (R95). -/
def State.vcExc (s : State) (t : Site) (c : Cause) (pc ord : Nat) : State :=
  let s := if c = .spOwner then s.emit (.tileWork t stFAULT) else s
  let x := s.tile t
  if x.vc = .fault then
    match x.faultAt with
    | some (n, o) =>
      if n = s.now ∧ ord < o then (s.vcStat t c pc).onTile t fun x => { x with faultAt := some (s.now, ord) } else s
    | none => s
  else
    (s.vcStat t c pc).onTile t fun x =>
      { x with vc := .fault, stall := none, inwait := none, vcResume := false, faultAt := some (s.now, ord) }

/-! ### Scratchpad (R93 to R98, R103) -/

/-- Key of a scratchpad byte. -/
def spKey (t : Site) (a : Nat) : Nat := t.val * 2 ^ 21 + a % 2 ^ 21

/-- `n` bytes of scratchpad at `a`. -/
def State.spBytes (s : State) (t : Site) (a n : Nat) : List Byte :=
  (List.range n).map fun i => sget 0 s.sp (spKey t (a + i))

/-- The parts of an access of `n` bytes at `a` by 64-byte word: address and length (R93). -/
def spWords (a n : Nat) : List (Nat × Nat) :=
  (List.range ((a % 64 + n + 63) / 64)).filterMap fun k =>
    let lo := max a (a / 64 * 64 + 64 * k)
    let hi := min (a + n) (a / 64 * 64 + 64 * k + 64)
    if lo < hi then some (lo, hi - lo) else none

/-- Bank of a scratchpad address (R93). -/
def bankOf (a : Nat) : Nat := a / 2 ^ 18 % 8

/-- An access by the owner: the bank's last access is now; a bank in RET starts to wake and SP_WAKE_CNT increments (R103). -/
def State.spTouch (s : State) (t : Site) (b : Nat) : State :=
  if ((s.tile t).bank b).pst = .ret then
    (s.onTile t fun x => x.onBank b fun k => { k with last := s.now, pst := .waking, wakeAt := s.now + 376 }).bump
      (R.SP_WAKE_CNT t.val)
  else s.onTile t fun x => x.onBank b fun k => { k with last := s.now }

/-- An access dropped for want of ownership (R95, Table 3-15). -/
def State.spDrop (s : State) (t : Site) (unit a : Nat) (write : Bool) : State :=
  let s' := (s.set1 (R.SPEVT_SP_OWNER t.val)).bump (R.SP_OWNER_CNT t.val)
  if s.get (R.SPERR_VALID t.val) = 1 then s'
  else ((((s'.put (R.SPERR_WORD t.val) (a / 64)).put (R.SPERR_WRITE t.val) write.toNat).put
    (R.SPERR_UNIT t.val) unit).put (R.SPERR_HOLDER t.val) (s.owner t (bankOf a))).put (R.SPERR_VALID t.val) 1

/-- The WCOLL bit of a unit whose write port 1 lost (R98, Table 3-14). -/
def wcollF (t unit : Nat) : FRef :=
  ⟨0x200001C + 0x10000 * t, if unit = 1 then 1 else if unit = 3 then 2 else 3, 1, 0⟩

/-- Bytes written into the scratchpad, wrapping within its 21 address bits. -/
def State.spPut (s : State) (t : Site) (a : Nat) (bs : List Byte) : State :=
  { s with sp := (List.zip (List.range bs.length) bs).foldl (fun m p => sset 0 m (spKey t (a + p.1)) p.2) s.sp }

/-- A write within one word through a port of its unit; a write through port 1 to a word that port 0 writes in the same tick is discarded whole and counted, whichever came first (R98). -/
def State.spWrite1 (s : State) (t : Site) (unit port a : Nat) (bs : List Byte) : State :=
  let x := s.tile t
  let w := a / 64
  let w0 := if x.wTick = s.now then x.w0 else []
  let w1 := if x.wTick = s.now then x.w1 else []
  if port = 0 then
    match w1.find? (fun e => e.1 == w) with
    | some e =>
      let s := ((s.spPut t (w * 64) e.2.1).set1 (wcollF t.val e.2.2.1)).bump (R.SP_WCOLL_CNT t.val) e.2.2.2
      (s.spPut t a bs).onTile t fun x =>
        { x with w0 := w :: w0, w1 := w1.filter (fun e => e.1 != w), wTick := s.now }
    | none => (s.spPut t a bs).onTile t fun x => { x with w0 := w :: w0, w1 := w1, wTick := s.now }
  else if w ∈ w0 then (s.set1 (wcollF t.val unit)).bump (R.SP_WCOLL_CNT t.val)
  else (s.spPut t a bs).onTile t fun x =>
    { x with w0 := w0
             w1 := (if w1.any (fun e => e.1 == w) then w1.map (fun e => if e.1 == w then (e.1, e.2.1, e.2.2.1, e.2.2.2 + 1) else e)
                    else (w, s.spBytes t (w * 64) 64, unit, 1) :: w1)
             wTick := s.now }

/-- Reads by `unit` of the words of an access, in order; the first word it does not own drops the access (R95). -/
def State.spCheck (s : State) (t : Site) (unit : Nat) (write : Bool) (l : List (Nat × Nat)) : State × Bool :=
  match l with
  | [] => (s, true)
  | (a, _) :: r =>
    if s.owner t (bankOf a) = unit then (s.spTouch t (bankOf a)).spCheck t unit write r
    else (s.spDrop t unit a write, false)

/-- A read of `n` bytes at `a` by `unit`: its bytes, or none when it is dropped (R95). -/
def State.spLoad (s : State) (t : Site) (unit a n : Nat) : State × Option (List Byte) :=
  let r := s.spCheck t unit false (spWords a n)
  (r.1, if r.2 then some (r.1.spBytes t a n) else none)

/-- Writes by `unit` word by word, each an access of its own (R93); a dropped word changes nothing (R95). It ends the instruction of the vector core, the tensor unit or the RQU that wrote it; the DMA ports go on with the next word of their packet (R96). -/
def State.spStoreWords (s : State) (t : Site) (unit port : Nat) (bs : List Byte) (l : List (Nat × Nat)) : State × Bool :=
  match l with
  | [] => (s, true)
  | (a, n) :: r =>
    if s.owner t (bankOf a) = unit then
      ((s.spTouch t (bankOf a)).spWrite1 t unit port a (bs.take n)).spStoreWords t unit port (bs.drop n) r
    else if unit = 3 then (((s.spDrop t unit a true).spStoreWords t unit port (bs.drop n) r).1, false)
    else (s.spDrop t unit a true, false)

/-- A write of bytes at `a` by `unit` through `port`; false when a word was dropped. -/
def State.spStore (s : State) (t : Site) (unit port a : Nat) (bs : List Byte) : State × Bool :=
  s.spStoreWords t unit port bs (spWords a bs.length)

/-- The first bank in RET or WAKING among those that an access of `unit` reaches, up to the first word that it does not own (R103). -/
def State.sleepsOn (s : State) (t : Site) (unit : Nat) : List (Nat × Nat) → Option Nat
  | [] => none
  | (a, _) :: r =>
    if s.owner t (bankOf a) ≠ unit then none
    else if ((s.tile t).bank (bankOf a)).pst = .ret ∨ ((s.tile t).bank (bankOf a)).pst = .waking then some (bankOf a)
    else s.sleepsOn t unit r

/-- The bank that an access of the vector core waits for (R103). -/
def State.vcAsleep (s : State) (t : Site) (l : List (Nat × Nat)) : Option Nat := s.sleepsOn t 1 l

/-- An access of `unit` to the words of `l` stalls its unit while a bank it reaches is asleep: the access starts the wake and is made when the bank is ON (R103). -/
def State.awake (s : State) (t : Site) (unit : Nat) (l : List (Nat × Nat)) (k : State → State) : State :=
  match s.sleepsOn t unit l with | some b => s.spTouch t b | none => k s

/-! ### Issue (R89, R111, R125, R135) -/

/-- The vector core moves on to `npc`, the instruction having issued. -/
def State.vcRetire (s : State) (t : Site) (npc : Nat) : State :=
  (s.onTile t fun x => { x with pc := npc % 2 ^ 64, ord := x.ord + 1 }).bump (R.VC_INSTR_CNT t.val)

/-- The vector core moves on to the next instruction in sequence. -/
def State.vcNext (s : State) (t : Site) : State := s.vcRetire t ((s.tile t).pc + 8)

/-- The instruction at PC raises `c`. -/
def State.vcRaise (s : State) (t : Site) (c : Cause) : State := s.vcExc t c (s.tile t).pc (s.tile t).ord

/-- ISSUE_STALL on the wake of bank `b`: the access starts it if it has not (R103). -/
def State.vcBankStall (s : State) (t : Site) (b : Nat) : State :=
  (s.spTouch t b).onTile t fun x => { x with vc := .issueStall, stall := some (.bank b) }

/-- The 64-bit little-endian word at the PC of a tile (R123). -/
def State.vcWord (s : State) (t : Site) : BitVec 64 := BitVec.ofNat 64 (leNat (s.spBytes t (s.tile t).pc 8))

/-- Instruction fetch and issue: in RUN the instruction is fetched at PC, an access by VC (R111); a fetch beyond 21 bits raises ADDR (R135), one from a bank that VC does not own SP_OWNER (R146), one from a sleeping bank stalls (R103). The word is handled by `k` when it is the one that `is` knows (R123); any other leaves the tile to the command of its own. Outside RUN nothing issues. -/
def State.vcFetch (s : State) (t : Site) (is : BitVec 64 → Bool) (k : State → State) : State :=
  let x := s.tile t
  if x.vc ≠ .run ∨ x.clkOff then s
  else if 2 ^ 21 ≤ x.pc then s.vcRaise t .addr
  else if s.owner t (bankOf x.pc) ≠ 1 then (s.spDrop t 1 x.pc false).vcRaise t .spOwner
  else
    match s.vcAsleep t [(x.pc, 8)] with
    | some b => s.vcBankStall t b
    | none => if is (s.vcWord t) then k (s.spTouch t (bankOf x.pc)) else s

/-- The instruction `i` issues: the word at PC spells it, opcode and fields (R123, R124, R137). -/
def State.vcIssue (s : State) (t : Site) (i : Instr) (k : State → State) : State :=
  s.vcFetch t (fun w => bviDecode t w == some i) k

/-- A data read by the vector core, continued by `k` with its bytes (R95, R103, R144). -/
def State.vcLoad (s : State) (t : Site) (a n : Nat) (k : List Byte → State → State) : State :=
  match s.vcAsleep t (spWords a n) with
  | some b => s.vcBankStall t b
  | none =>
    let r := s.spLoad t 1 a n
    match r.2 with
    | some bs => k bs r.1
    | none => r.1.vcRaise t .spOwner

/-- A data write by the vector core through `port`, then the next instruction (R95, R98, R103). -/
def State.vcStore (s : State) (t : Site) (port a : Nat) (bs : List Byte) : State :=
  match s.vcAsleep t (spWords a bs.length) with
  | some b => s.vcBankStall t b
  | none =>
    let r := s.spStore t 1 port a bs
    if r.2 then r.1.vcNext t else r.1.vcRaise t .spOwner

/-- An entry placed in queue `q`; a full queue stalls the vector core with the entry still to be placed (R89). -/
def State.vcEnqueue (s : State) (t : Site) (q : Nat) (op : QOp) : State :=
  let x := s.tile t
  let e : QEntry := ⟨x.pc, x.ord, op⟩
  let qu := x.queue q
  if queueDepth q ≤ qu.ents.length then
    s.onTile t fun x => { x with vc := .issueStall, stall := some (.queue q e) }
  else (s.onTile t fun x => x.setQueue q { qu with ents := qu.ents ++ [e] }).vcNext t

/-- A requested change of bank `b` to `owner`, ordered with others of the same tick by R100: a register write (rank 0), then queues ARR, TU, DMA, SYNC, VC (rank 1 to 5). -/
def State.ownRequest (s : State) (t : Site) (b rank owner : Nat) : State :=
  let c : OwnChg := ⟨s.now, rank, if 6 ≤ owner then 0 else owner⟩
  s.onTile t fun x => x.onBank b fun k =>
    let before := k.chg.filter fun d => d.time ≠ s.now ∨ d.rank ≤ rank
    let after := k.chg.filter fun d => ¬(d.time ≠ s.now ∨ d.rank ≤ rank)
    { k with chg := before ++ [c] ++ after }

end Sys2Proof.Machine
end

