-- ==== Sys2Proof/Machine/Flags.lean ====
section
/-! DEFINITION. The sticky flags of VFLAGS (Table 4-9) and how instructions raise them. -/

namespace Sys2Proof.Machine

open Sys2Proof

/-- A set of flags: bit 0 NV, bit 1 OF, bit 2 UF, bit 3 NX, bit 4 SAT (Table 4-9). -/
abbrev Flags := BitVec 5

/-- Invalid. -/
def flagNV : Flags := 1
/-- Overflow. -/
def flagOF : Flags := 2
/-- Tiny and inexact. -/
def flagUF : Flags := 4
/-- Inexact. -/
def flagNX : Flags := 8
/-- INT8 or block code saturated. -/
def flagSAT : Flags := 16

/-- `f` when the condition holds. -/
def flagIf (c : Bool) (f : Flags) : Flags := if c then f else 0

/-- The union of a list of flags. -/
def flagAll (l : List Flags) : Flags := l.foldl (· ||| ·) 0

/-- Flags added to VFLAGS; they are sticky (R146). -/
def State.raiseFlags (s : State) (t : Site) (f : Flags) : State :=
  s.onTile t fun x => { x with vflags := x.vflags ||| f }

end Sys2Proof.Machine
end

