-- ==== Sys2Proof/Machine/Operands.lean ====
section
/-! DEFINITION. The number formats, exact arithmetic on their values, rounding and conversion (R52 to R58, R126 to R132). -/

namespace Sys2Proof.Machine

open Sys2Proof

/-- The value of an element: a NaN (signalling or not), an infinity, or (-1)^neg * m * 2^e. -/
inductive FVal where
  | nan (sig : Bool)
  | inf (neg : Bool)
  | fin (neg : Bool) (m : Nat) (e : Int)
deriving DecidableEq, Repr

/-- Positive zero. -/
def FVal.zero : FVal := .fin false 0 0

/-- The value of an integer. -/
def FVal.ofInt (i : Int) : FVal := .fin (i < 0) i.natAbs 0

/-- What a floating layout keeps in its largest exponent: IEEE infinities and NaNs, E4M3's one NaN, or plain numbers. -/
inductive FTop where
  | ieee | e4m3 | plain
deriving DecidableEq, Repr

/-- A floating layout (Table 2-1): exponent bits, fraction bits, bias. -/
structure FLay where
  eb : Nat
  fb : Nat
  bias : Nat
  top : FTop
deriving DecidableEq, Repr

/-- The floating formats by code (R52); MXFP4's element type E2M1 under 0x6. -/
def flay : Nat → FLay
  | 0 => ⟨8, 23, 127, .ieee⟩
  | 1 => ⟨8, 7, 127, .ieee⟩
  | 2 => ⟨5, 10, 15, .ieee⟩
  | 3 => ⟨4, 3, 7, .e4m3⟩
  | 4 => ⟨5, 2, 15, .ieee⟩
  | _ => ⟨2, 1, 1, .plain⟩

/-- Decode of a floating code (R52); subnormals are kept. -/
def fdec (F : FLay) (c : Nat) : FVal :=
  let neg := c.testBit (F.eb + F.fb)
  let ex := bits c F.fb F.eb
  let fr := bits c 0 F.fb
  if ex = 2 ^ F.eb - 1 ∧ F.top = .ieee then
    if fr = 0 then .inf neg else .nan (!fr.testBit (F.fb - 1))
  else if ex = 2 ^ F.eb - 1 ∧ fr = 2 ^ F.fb - 1 ∧ F.top = .e4m3 then .nan false
  else if ex = 0 then .fin neg fr (1 - (F.bias : Int) - F.fb)
  else .fin neg (2 ^ F.fb + fr) ((ex : Int) - F.bias - F.fb)

/-- FP32 bits as a value. -/
def f32dec (c : BitVec 32) : FVal := fdec (flay 0) c.toNat

/-- `m / 2^k` rounded under RND (Table 2-2), and whether it was inexact. -/
def rndDiv (rnd : Nat) (neg : Bool) (m k : Nat) : Nat × Bool :=
  let q := m / 2 ^ k
  let r := m % 2 ^ k
  let up := if rnd = 0 then 2 ^ k < 2 * r ∨ (2 ^ k = 2 * r ∧ q % 2 = 1)
    else if rnd = 1 then False
    else if rnd = 2 then neg = true ∧ r ≠ 0
    else neg = false ∧ r ≠ 0
  if up then (q + 1, true) else (q, decide (r ≠ 0))

/-- `m * 2^e` as a multiple of `2^q` under RND. -/
def rndAt (rnd : Nat) (neg : Bool) (m : Nat) (e q : Int) : Nat × Bool :=
  if q ≤ e then (m * 2 ^ (e - q).toNat, false) else rndDiv rnd neg m (q - e).toNat

/-- The exponent of the leading bit of `m * 2^e`. -/
def leadExp (m : Nat) (e : Int) : Int := (Nat.log2 m : Int) + e

/-- One rounding to a significand of `p` bits under RNE with least quantum `2^qmin`, no upper bound: step 2 of R126 with `qmin = -149`. -/
def roundSig (p : Nat) (qmin : Option Int) (v : FVal) : FVal × Bool :=
  match v with
  | .fin neg m e =>
    if m = 0 then (.fin neg 0 0, false)
    else
      let q0 := leadExp m e - ((p : Int) - 1)
      let q := match qmin with | some k => max q0 k | none => q0
      let r := rndAt 0 neg m e q
      (.fin neg r.1 q, r.2)
  | v => (v, false)

/-- The canonical NaN of a floating format (Table 2-1). -/
def canonNaN : Nat → Nat
  | 0 => 0x7FC00000 | 1 => 0x7FC0 | 2 => 0x7E00 | 3 => 0x7F | _ => 0x7E

/-- The code of the largest finite value. -/
def maxCode (F : FLay) : Nat :=
  match F.top with
  | .ieee => (2 ^ F.eb - 1) * 2 ^ F.fb - 1
  | .e4m3 => 2 ^ (F.eb + F.fb) - 2
  | .plain => 2 ^ (F.eb + F.fb) - 1

/-- Conversion of a value to floating format `c` under RND and OVF (R56, R57): code, flags, whether the range was passed (finite result saturated or made infinite). -/
def fenc (c rnd : Nat) (ieee : Bool) (v : FVal) : Nat × Flags × Bool :=
  let F := flay c
  let sgn (neg : Bool) : Nat := if neg then 2 ^ (F.eb + F.fb) else 0
  let infCode (neg : Bool) : Nat :=
    match F.top with
    | .ieee => sgn neg + (2 ^ F.eb - 1) * 2 ^ F.fb
    | .e4m3 => canonNaN 3
    | .plain => sgn neg + maxCode F
  match v with
  | .nan _ => (canonNaN c, 0, false)
  | .inf neg => if F.top = .e4m3 ∧ ieee = false then (sgn neg + maxCode F, 0, false) else (infCode neg, 0, false)
  | .fin neg m e =>
    if m = 0 then (sgn neg, 0, false)
    else
      let l := leadExp m e
      let qmin : Int := 1 - (F.bias : Int) - F.fb
      let q0 := max (l - F.fb) qmin
      let r := rndAt rnd neg m e q0
      let mant := if 2 ^ (F.fb + 1) ≤ r.1 then r.1 / 2 else r.1
      let q := if 2 ^ (F.fb + 1) ≤ r.1 then q0 + 1 else q0
      let code := if mant < 2 ^ F.fb then mant else (q + F.fb + F.bias).toNat * 2 ^ F.fb + (mant - 2 ^ F.fb)
      if maxCode F < code then
        let away := rnd = 0 ∨ (rnd = 2 ∧ neg = true) ∨ (rnd = 3 ∧ neg = false)
        (if ieee = true ∧ away then infCode neg else sgn neg + maxCode F, flagOF ||| flagNX, true)
      else
        let emin : Int := 1 - (F.bias : Int)
        let carried := (rndAt rnd neg m e (l - F.fb)).1 = 2 ^ (F.fb + 1) ∧ l + 1 = emin
        let tiny := l < emin ∧ (if carried then Config.tinyBefore = true else True)
        (sgn neg + code, flagIf r.2 flagNX ||| flagIf (r.2 && decide tiny) flagUF, false)

/-- FP32 bits of a value under RNE, an overflow becoming infinite (FADD.S, R137). -/
def f32enc (v : FVal) : BitVec 32 × Flags := let r := fenc 0 0 true v; (BitVec.ofNat 32 r.1, r.2.1)

/-! ### Exact arithmetic with the special cases of IEEE 754 -/

/-- Whether a value is a NaN. -/
def FVal.isNaN : FVal → Bool | .nan _ => true | _ => false
/-- Whether a value is a signalling NaN. -/
def FVal.isSig : FVal → Bool | .nan s => s | _ => false
/-- Whether a value is finite. -/
def FVal.isFin : FVal → Bool | .fin .. => true | _ => false

/-- Negation. -/
def FVal.neg : FVal → FVal
  | .nan s => .nan s | .inf n => .inf (!n) | .fin n m e => .fin (!n) m e
/-- Magnitude. -/
def FVal.abs : FVal → FVal
  | .nan s => .nan s | .inf _ => .inf false | .fin _ m e => .fin false m e

/-- The signed numerator of a finite value over `2^e`. -/
def sgnInt (neg : Bool) (m : Nat) : Int := if neg then -(m : Int) else m

/-- Exact sum. -/
def fadd (a b : FVal) : FVal × Flags :=
  match a, b with
  | .nan s, b => (.nan false, flagIf (s || b.isSig) flagNV)
  | _, .nan s => (.nan false, flagIf s flagNV)
  | .inf n, .inf n' => if n = n' then (.inf n, 0) else (.nan false, flagNV)
  | .inf n, .fin .. => (.inf n, 0)
  | .fin .., .inf n => (.inf n, 0)
  | .fin n m e, .fin n' m' e' =>
    let q := min e e'
    let z := sgnInt n m * 2 ^ (e - q).toNat + sgnInt n' m' * 2 ^ (e' - q).toNat
    if z = 0 then (.fin (n && n') 0 0, 0) else (.fin (z < 0) z.natAbs q, 0)

/-- Exact product. -/
def fmul (a b : FVal) : FVal × Flags :=
  match a, b with
  | .nan s, b => (.nan false, flagIf (s || b.isSig) flagNV)
  | _, .nan s => (.nan false, flagIf s flagNV)
  | .inf n, .inf n' => (.inf (n ^^ n'), 0)
  | .inf n, .fin n' m _ => if m = 0 then (.nan false, flagNV) else (.inf (n ^^ n'), 0)
  | .fin n m _, .inf n' => if m = 0 then (.nan false, flagNV) else (.inf (n ^^ n'), 0)
  | .fin n m e, .fin n' m' e' => (.fin (n ^^ n') (m * m') (e + e'), 0)

/-- Exact a * b + c. -/
def ffma (a b c : FVal) : FVal × Flags :=
  let p := fmul a b
  let r := fadd p.1 c
  (r.1, p.2 ||| r.2)

/-- a < b of two values that are not NaN; zeros are equal. -/
def flt (a b : FVal) : Bool :=
  match a, b with
  | .inf n, .inf n' => n && !n'
  | .inf n, _ => n
  | _, .inf n => !n
  | .fin n m e, .fin n' m' e' =>
    let q := min e e'
    decide (sgnInt n m * 2 ^ (e - q).toNat < sgnInt n' m' * 2 ^ (e' - q).toNat)
  | _, _ => false

/-- The order that VMIN and VMAX use: as `flt`, with -0 below +0 (IEEE 754-2019 minimumNumber; DEDUCED, log entry 20). -/
def fbelow (a b : FVal) : Bool :=
  flt a b || match a, b with
    | .fin true 0 _, .fin false 0 _ => true
    | _, _ => false

/-- Minimum; a NaN operand yields the other operand (R137). -/
def fmin (a b : FVal) : FVal × Flags :=
  let f := flagIf (a.isSig || b.isSig) flagNV
  if a.isNaN then ((if b.isNaN then .nan false else b), f)
  else if b.isNaN then (a, f) else (if fbelow b a then b else a, f)

/-- Maximum; a NaN operand yields the other operand (R137). -/
def fmax (a b : FVal) : FVal × Flags :=
  let f := flagIf (a.isSig || b.isSig) flagNV
  if a.isNaN then ((if b.isNaN then .nan false else b), f)
  else if b.isNaN then (a, f) else (if fbelow a b then b else a, f)

/-- Square root of `n` rounded down, by bits. -/
def isqrtLoop (n : Nat) (r k : Nat) : Nat :=
  match k with
  | 0 => r
  | k + 1 => let r' := r + 2 ^ k; isqrtLoop n (if r' * r' ≤ n then r' else r) k

/-- Square root rounded down. -/
def isqrt (n : Nat) : Nat := isqrtLoop n 0 (Nat.log2 n / 2 + 1)

/-- `num / den * 2^e` (both positive) as a multiple of `2^q` rounded down, with `q` that of a 24-bit significand but at least -149: mantissa, q, exactness. -/
def floorQuot (num den : Nat) (e : Int) : Nat × Int × Bool :=
  let l0 : Int := (Nat.log2 num : Int) - Nat.log2 den
  let below : Bool := if 0 ≤ l0 then decide (num < den * 2 ^ l0.toNat) else decide (num * 2 ^ (-l0).toNat < den)
  let l := (if below then l0 - 1 else l0) + e
  let q := max (l - 23) (-149)
  let n := if q ≤ e then num * 2 ^ (e - q).toNat else num
  let d := if q ≤ e then den else den * 2 ^ (q - e).toNat
  (n / d, q, decide (n % d = 0))

/-- The square root of `num / den * 2^(2*h)` in the same form. -/
def floorSqrt (num den : Nat) (h : Int) : Nat × Int × Bool :=
  let l0 : Int := (Nat.log2 num : Int) - Nat.log2 den
  let l := Int.fdiv (l0 - 1) 2 + h
  let q0 := max (l - 23) (-149)
  let at_ (q : Int) : Nat × Bool :=
    let k := h - q
    let n := if 0 ≤ k then num * 2 ^ (2 * k).toNat else num
    let d := if 0 ≤ k then den else den * 2 ^ (2 * -k).toNat
    let r := isqrt (n / d)
    (r, decide (r * r * d = n))
  let r0 := at_ q0
  if 2 ^ 24 ≤ r0.1 then let r1 := at_ (q0 + 1); (r1.1, q0 + 1, r1.2) else (r0.1, q0, r0.2)

/-! ### Elements of every format (Table 2-1, Table 4-2) -/

/-- INT8's code. -/
def fmtINT8 : Nat := 5
/-- Whether a format is a block format (R54, R133). -/
def isBlockFmt (f : Nat) : Bool := f == 6 || f == 7 || f == 8 || f == 9

/-- Element width; `n` is the BSI width. -/
def elemBits (f n : Nat) : Nat :=
  if f = 0 then 32 else if f ≤ 2 then 16 else if f ≤ 5 then 8 else if f = 6 then 4 else if f = 7 then 8
  else if f = 8 then n else 2

/-- Elements per vector register (Table 4-2). -/
def elemCount (f n : Nat) : Nat :=
  if f = 0 then 32 else if f ≤ 2 then 64 else if f ≤ 5 then 128 else if f = 6 then 256 else if f = 7 then 128
  else if f = 8 then (if n = 2 then 512 else if n ≤ 4 then 256 else 128) else 512

/-- Elements per block. -/
def blockLen (f : Nat) : Nat := if f = 6 ∨ f = 7 then 32 else 128

/-- Blocks per vector register: X-tag bytes used (Table 4-2). -/
def blockCount (f n : Nat) : Nat := if isBlockFmt f then elemCount f n / blockLen f else 0

/-- An element's exact value times a scale, infinite beyond the FP32 range (R57). -/
def scaled (neg : Bool) (m : Nat) (e : Int) : FVal :=
  if m ≠ 0 ∧ 128 ≤ leadExp m e then .inf neg else .fin neg m e

/-- Widening of one element (R52, R53, R57); `e8` is its block's scale byte. -/
def elemVal (f n code e8 : Nat) : FVal :=
  if f ≤ 4 then fdec (flay f) code
  else if f = 5 then FVal.ofInt (sxNat 8 code)
  else if e8 = 255 then .nan false
  else
    let sc : Int := (e8 : Int) - 127
    if f = 6 then
      match fdec (flay 6) code with
      | .fin neg m e => scaled neg m (e + sc)
      | v => v
    else if f = 7 then let i := sxNat 8 code; scaled (i < 0) i.natAbs (sc - 6)
    else if f = 8 then let i := sxNat n code; scaled (i < 0) i.natAbs sc
    else if code = 1 then scaled false 1 sc else if code = 3 then scaled true 1 sc else .fin false 0 0

/-- Element `i`'s code in a register (R122). -/
def elemCode (v : BitVec 1024) (f n i : Nat) : Nat := bits v.toNat (elemBits f n * i) (elemBits f n)

/-- Scale byte of element `i`'s block in an X-tag. -/
def elemScale (x : BitVec 64) (f i : Nat) : Nat := bits x.toNat (8 * (i / blockLen f)) 8

/-- A register's elements widened (R126 step 1). -/
def widen (v : BitVec 1024) (x : BitVec 64) (f n : Nat) : List FVal :=
  (List.range (elemCount f n)).map fun i => elemVal f n (elemCode v f n i) (elemScale x f i)

/-- TRN codes of 10 in a register (R53). -/
def badTrn (v : BitVec 1024) (f n : Nat) : Nat :=
  if f = 9 then ((List.range (elemCount f n)).filter fun i => elemCode v f n i == 2).length else 0

/-- A value rounded to an integer under RND and kept between `lo` and `hi`: integer, flags, whether it was infinite or NaN. A NaN or an infinity raises no NV, and a saturated result raises SAT alone, without NX or OF (DESIGN CHOICE, log entry 86). -/
def toIntSat (rnd : Nat) (lo hi : Int) (q : Int) (v : FVal) : Int × Flags × Bool :=
  match v with
  | .nan _ => (0, 0, true)
  | .inf neg => (if neg then lo else hi, flagSAT, true)
  | .fin neg m e =>
    let r := rndAt rnd neg m e q
    let i := sgnInt neg r.1
    if i < lo then (lo, flagSAT, false) else if hi < i then (hi, flagSAT, false)
    else (i, flagIf r.2 flagNX, false)

/-- Conversion of one value to INT8 (R57, R58, R126): code, flags, CVT_OVF. -/
def toInt8 (rnd : Nat) (v : FVal) : Nat × Flags × Bool :=
  let r := toIntSat rnd (-128) 127 0 v
  (unsx 8 r.1, r.2.1, r.2.2)

/-- The largest magnitude of a list, NaNs left out; an infinity counts as infinite. -/
def amax (l : List FVal) : FVal :=
  l.foldl (fun a v => if v.isNaN then a else if flt a v.abs then v.abs else a) FVal.zero

/-- The smallest e with `m * 2^k ≤ qmax * 2^e` (R64). -/
def maxExp (qmax m : Nat) (k : Int) : Int :=
  let e0 := leadExp m k - Nat.log2 qmax
  if m * 2 ^ (k - (min k e0)).toNat ≤ qmax * 2 ^ (e0 - (min k e0)).toNat then e0 else e0 + 1

/-- qmax and qmin of BSI-n, and of TRN (n = 0 here). -/
def qmaxOf (trn : Bool) (n : Nat) : Int := if trn then 1 else 2 ^ (n - 1) - 1
/-- qmin. -/
def qminOf (trn : Bool) (n : Nat) : Int := if trn then -1 else -(2 ^ (n - 1))

/-- The exponent of a block with largest magnitude `a` in block format `f` (R58), clamped to -127..127; none when it is zero. -/
def blockExp (f n : Nat) (a : FVal) : Option Int :=
  match a with
  | .fin _ m e =>
    if m = 0 then none
    else if f = 6 then some (clampInt (-127) 127 (leadExp m e - 2))
    else if f = 7 then some (clampInt (-127) 127 (leadExp m e))
    else some (clampInt (-127) 127 (maxExp (qmaxOf (f == 9) n).toNat m e))
  | _ => some 127

/-- One element's code under block exponent `x` (R58, R57): code, flags, CVT_OVF. -/
def blockCode (f n rnd : Nat) (x : Int) (v : FVal) : Nat × Flags × Bool :=
  if f = 6 then
    match v with
    | .nan _ => (0, 0, true)
    | .inf neg => ((if neg then 15 else 7), flagSAT, true)
    | .fin neg m e =>
      if m = 0 then (0, 0, false)
      else let r := fenc 6 rnd false (.fin neg m (e - x)); (r.1, if r.2.2 then flagSAT else r.2.1 &&& flagNX, false)
  else if f = 7 then
    let r := toIntSat rnd (-128) 127 (x - 6) v
    (unsx 8 r.1, r.2.1, r.2.2)
  else
    let r := toIntSat rnd (qminOf (f == 9) n) (qmaxOf (f == 9) n) x v
    (unsx (elemBits f n) r.1, r.2.1, r.2.2)

/-- What a vector write produces: the register, its X-tag, the flags, conversions that count in CVT_OVF (R57). -/
structure VOut where
  v : BitVec 1024
  x : BitVec 64
  fl : Flags
  ovf : Nat
deriving DecidableEq, Repr

/-- Codes packed from bit 0 upwards (R122). -/
def pack (z : Nat) (l : List Nat) : BitVec 1024 := BitVec.ofNat 1024 (l.foldr (fun c acc => acc * 2 ^ z + c) 0)

/-- One block of R127: results of unmasked elements, old values of masked ones. -/
def encodeBlock (f n rnd : Nat) (l : List (FVal × Bool)) : Nat × List (Nat × Flags × Bool) :=
  match blockExp f n (amax (l.map (·.1))) with
  | none => (0, l.map fun p => (0, 0, p.2 && !p.1.isFin))
  | some x =>
    ((x + 127).toNat, l.map fun p =>
      let r := blockCode f n rnd x p.1
      if p.2 then r else (r.1, 0, false))

/-- The list cut into pieces of `k`. -/
def chunks {α : Type} (k : Nat) (fuel : Nat) (l : List α) : List (List α) :=
  match fuel with
  | 0 => []
  | fuel + 1 => if l.isEmpty then [] else l.take k :: chunks k fuel (l.drop k)

/-- The write of results into register `vd` in format `f`: `res i` is the result of unmasked element i, none for a masked one, which keeps its element or becomes zero under MZ (R126 to R128). Elements past the list are unused and read as zero (R122). -/
def vwrite (old : BitVec 1024) (oldX : BitVec 64) (f n rnd : Nat) (ieee mz : Bool) (res : List (Option FVal)) : VOut :=
  if isBlockFmt f then
    let vals : List (FVal × Bool) := (List.range (elemCount f n)).map fun i =>
      match res[i]? with
      | some (some r) => (r, true)
      | some none => (if mz then FVal.zero else elemVal f n (elemCode old f n i) (elemScale oldX f i), false)
      | none => (FVal.zero, false)
    let bl := (chunks (blockLen f) 16 vals).map (encodeBlock f n rnd)
    let cs := bl.flatMap (·.2)
    ⟨pack (elemBits f n) (cs.map (·.1)), BitVec.ofNat 64 (leNat (bl.map fun b => BitVec.ofNat 8 b.1)),
      flagAll (cs.map (·.2.1)), (cs.filter (·.2.2)).length⟩
  else
    let cs : List (Nat × Flags × Bool) := (List.range (min (elemCount f n) res.length)).map fun i =>
      match res[i]? with
      | some (some r) =>
        if f = 5 then toInt8 rnd r
        else let c := fenc f rnd ieee r; (c.1, c.2.1, false)
      | _ => (if mz then 0 else elemCode old f n i, 0, false)
    ⟨pack (elemBits f n) (cs.map (·.1)), 0, flagAll (cs.map (·.2.1)), (cs.filter (·.2.2)).length⟩

end Sys2Proof.Machine
end

