-- ==== Sys2Proof/Machine/Quant.lean ====
section
/-! DEFINITION. The quantisation record, rotation, scale selection and quantisation of a block (R60 to R70). -/

namespace Sys2Proof.Machine

open Sys2Proof

/-- Entries of an outlier list by its OCAP code (Table 2-4). -/
def ocapN (c : Nat) : Nat := if c = 0 then 0 else if c = 1 then 4 else if c = 2 then 8 else 16

/-- The effective record of 16 bytes (Table 2-4, R60); `fix` when a reserved value was replaced or QFMT differs from a BSI or TRN source. -/
def qrec (bs : List Byte) : QRec :=
  let v := leNat bs
  let src := bits v 0 4
  let srcE := if 9 < src then 0 else src
  let q := bits v 4 4
  let qBad := !(q == 8 || q == 9)
  let qE := if qBad then 8 else q
  let copy := srcE == 8 || srcE == 9
  let trn := if copy then srcE == 9 else qE == 9
  let nm2 := bits v 8 3
  let nBad := !trn && nm2 == 7
  let kr := bits v 24 8
  let fix := decide (9 < src) || qBad || (copy && qE != srcE) || nBad || decide (2 ≤ bits v 12 2) ||
    bits v 16 2 == 3 || decide (2 ≤ bits v 20 4) || decide (kr < 16)
  { srcFmt := srcE, trn := trn, n := if trn then 2 else (if nm2 = 7 then 8 else nm2 + 2), rot := bits v 11 1 == 1,
    rms := bits v 12 2 == 1, ocap := bits v 14 2, efb := (if bits v 16 2 = 3 then 0 else bits v 16 2),
    nfZero := bits v 18 1 == 1, fixed := bits v 19 1 == 1, outBf16 := bits v 20 4 == 1,
    krms := max kr 16, seed := BitVec.ofNat 32 (bits v 32 32), anchor := sxNat 9 (bits v 64 9), fix := fix }

/-- sign_of is -1 (R61). -/
def signNeg (seed : BitVec 32) (i : Nat) : Bool :=
  let x := seed ^^^ BitVec.ofNat 32 (i * 0x9E3779B9)
  let x := x ^^^ (x >>> 16)
  let x := x * 0x85EBCA6B#32
  let x := x ^^^ (x >>> 13)
  let x := x * 0xC2B2AE35#32
  let x := x ^^^ (x >>> 16)
  x.getLsbD 31

/-- round() of R62: a 24-bit significand under RNE in the internal exponent range. -/
def round24 (v : FVal) : FVal := (roundSig 24 none v).1

/-- One butterfly stage of distance `h` (R62). -/
def butterfly (h : Nat) (y : List FVal) : List FVal :=
  let a := y.toArray
  let at_ (i : Nat) : FVal := a.getD i FVal.zero
  (List.range y.length).map fun i =>
    if i / h % 2 = 0 then round24 (fadd (at_ i) (at_ (i + h))).1 else round24 (fadd (at_ (i - h)) (at_ i).neg).1

/-- Rotation (R62); the constant is FP32 0x3DB504F3. -/
def rotate (x : List FVal) (seed : BitVec 32) : List FVal :=
  let y := x.mapIdx fun i v => if signNeg seed i then v.neg else v
  let y := [1, 2, 4, 8, 16, 32, 64].foldl (fun y h => butterfly h y) y
  y.map fun v => round24 (fmul v (f32dec 0x3DB504F3#32)).1

/-- The pairwise tree of R132 over a list of 2^`k` values, each addition rounded to 24 bits. -/
def tree24 (k : Nat) (l : List FVal) : FVal :=
  match k with
  | 0 => l.headD FVal.zero
  | k + 1 => round24 (fadd (tree24 k (l.take (2 ^ k))) (tree24 k (l.drop (2 ^ k)))).1

/-- The square root of a finite value rounded once to 24 bits (R65). -/
def sqrt24 (v : FVal) : FVal :=
  match v with
  | .fin _ m e =>
    let odd := e % 2 = 1
    let m' := (if odd then 2 * m else m) * 4 ^ 64
    let h := (if odd then e - 1 else e) / 2
    let r := isqrt m'
    round24 (.fin false (2 * r + (if r * r = m' then 0 else 1)) (h - 65))
  | v => v

/-- k x rms in FP32 (R65), the largest finite value when the product exceeds it (R56). -/
def kRms (krms : Nat) (v : List FVal) : FVal :=
  let sum := tree24 7 (v.map fun x => round24 (fmul x x).1)
  let mean := match sum with | .fin n m e => .fin n m (e - 7) | w => w
  f32dec (BitVec.ofNat 32 (fenc 0 0 false (fmul (.fin false krms (-4)) (sqrt24 mean)).1).1)

/-- A block exponent by R64 or R65, clamped (R66), and whether the clamp lowered it. -/
def selectExp (qmax : Nat) (a : FVal) : Int × Bool :=
  match a with
  | .fin _ m e =>
    if m = 0 then (-127, false)
    else let x := maxExp qmax m e; (clampInt (-127) 127 x, decide (127 < x))
  | _ => (127, true)

/-- A dyadic number z * 2^q. -/
structure Dy where
  z : Int
  q : Int
deriving DecidableEq, Repr

/-- Exact sum of dyadics. -/
def Dy.add (a b : Dy) : Dy :=
  let q := min a.q b.q
  ⟨a.z * 2 ^ (a.q - q).toNat + b.z * 2 ^ (b.q - q).toNat, q⟩

/-- a < b of dyadics. -/
def Dy.lt (a b : Dy) : Bool :=
  let q := min a.q b.q
  decide (a.z * 2 ^ (a.q - q).toNat < b.z * 2 ^ (b.q - q).toNat)

/-- rne() of a dyadic. -/
def Dy.rne (a : Dy) : Int := sgnInt (a.z < 0) (rndAt 0 (a.z < 0) a.z.natAbs a.q 0).1

/-- A finite value as a dyadic over 2^e (R67's u before the carry). -/
def FVal.dyOver (v : FVal) (e : Int) : Dy := match v with | .fin n m x => ⟨sgnInt n m, x - e⟩ | _ => ⟨0, 0⟩

/-- The running state of quantise_at (R67): codes in order, outliers counted, ok, carry. -/
structure QAcc where
  c : List Int
  o : List Int
  rows : List Nat
  ok : Bool
  carry : Dy
deriving DecidableEq, Repr

/-- quantise_at (R67). -/
def quantiseAt (v : List FVal) (e qmax qmin : Int) (rms : Bool) (ocap : Nat) (blockFb : Bool) : QAcc :=
  let r := (v.mapIdx fun i x => (i, x)).foldl (fun (a : QAcc) p =>
    let u := (p.2.dyOver e).add a.carry
    let c := clampInt qmin qmax u.rne
    let out := rms && Dy.lt ⟨2 * qmax + 1, -1⟩ ⟨u.z.natAbs, u.q⟩
    let d := u.add ⟨-c, 0⟩
    let o := if out then Dy.rne ⟨d.z, d.q - 4⟩ else 0
    let rows := if out then p.1 :: a.rows else a.rows
    let ok := a.ok && !(out && (decide (ocap < rows.length) || decide (o < -8) || decide (7 < o)))
    let w := d.add ⟨-16 * o, 0⟩
    let carry : Dy := if !blockFb then ⟨0, 0⟩
      else if Dy.lt ⟨1, -1⟩ w then ⟨1, -1⟩ else if Dy.lt w ⟨-1, -1⟩ then ⟨-1, -1⟩ else w
    ⟨c :: a.c, o :: a.o, rows, ok, carry⟩) ⟨[], [], [], true, ⟨0, 0⟩⟩
  ⟨r.c.reverse, r.o.reverse, r.rows.reverse, r.ok, r.carry⟩

/-- What quantising a block yields: exponent, codes, outlier codes and rows, fall-back taken, clip (R64 to R68). -/
structure QOut where
  e : Int
  c : List Int
  o : List Int
  rows : List Nat
  fell : Bool
  clip : Bool
deriving DecidableEq, Repr

/-- Steps 5 to 7 of R59. -/
def quantise (r : QRec) (v : List FVal) : QOut :=
  let qx := qmaxOf r.trn r.n
  let qn := qminOf r.trn r.n
  let fb := r.efb == 1
  let s := selectExp qx.toNat (amax v)
  let viaMax (fell : Bool) : QOut := let a := quantiseAt v s.1 qx qn false 0 fb; ⟨s.1, a.c, a.o, [], fell, s.2⟩
  if r.rms then
    let k := selectExp qx.toNat (kRms r.krms v)
    let a := quantiseAt v k.1 qx qn true (ocapN r.ocap) fb
    if a.ok then ⟨k.1, a.c, a.o, a.rows, false, k.2⟩ else viaMax true
  else viaMax false

/-- Whether every code of a quantised block is zero (R71). -/
def QOut.isZero (q : QOut) : Bool := q.c.all (· == 0) && q.o.all (· == 0)

/-- The STEP state an element keeps (R70): v - (c + 16 o) 2^e in FP32 under RNE. -/
def stepState (v : FVal) (c o e : Int) : BitVec 32 :=
  let k := c + 16 * o
  (fenc 0 0 false (fadd v (.fin (0 < k) k.natAbs e)).1).1 |> BitVec.ofNat 32

/-- The outlier list (R69). -/
def outlierList (cap : Nat) (rows : List Nat) (o : List Int) : List Byte :=
  (List.range cap).flatMap fun k =>
    match rows[k]? with
    | some r => leBytes 2 (r + unsx 4 (o.getD r 0) * 256 + 0x8000)
    | none => leBytes 2 0

/-- Codes packed into a code block of 16 n bytes (R54). -/
def codeBlock (n : Nat) (c : List Int) : List Byte :=
  leBytes (16 * n) (c.foldr (fun x acc => acc * 2 ^ n + unsx n x) 0)

/-- The codes of a code block: signed, TRN 10 reading as 0 (R53). -/
def blockCodes (trn : Bool) (n : Nat) (bs : List Byte) : List Int :=
  let v := leNat bs
  (List.range 128).map fun i =>
    let k := bits v (n * i) n
    if trn then (if k = 1 then 1 else if k = 3 then -1 else 0) else sxNat n k

/-- Whether a TRN code block holds a code of 10 (R53). -/
def blockBadTrn (bs : List Byte) : Bool :=
  let v := leNat bs
  (List.range 128).any fun i => bits v (2 * i) 2 == 2

/-- The valid entries of an outlier list: row and A4 code (R69). -/
def outlierEntries (bs : List Byte) : List (Nat × Int) :=
  (chunks 2 16 bs).filterMap fun p =>
    let v := leNat p
    if v.testBit 15 then some (bits v 0 7, sxNat 4 (bits v 8 4)) else none

/-- The 24 bits of draw(seed, pos) (R348). -/
def drawBits (seed : BitVec 64) (pos : Nat) : Nat :=
  let x := seed ^^^ BitVec.ofNat 64 (pos * 0x9E3779B97F4A7C15)
  let x := (x ^^^ (x >>> 30)) * 0xBF58476D1CE4E5B9#64
  let x := (x ^^^ (x >>> 27)) * 0x94D049BB133111EB#64
  let x := x ^^^ (x >>> 31)
  (x >>> 40).toNat

/-- Code `r` of known-sum vector `v` (R376). -/
def ksCode (seed : BitVec 64) (v r : Nat) : Int := (drawBits (seed + BitVec.ofNat 64 v) r / 2 ^ 20 : Nat) - 8

end Sys2Proof.Machine
end

