-- ==== Sys2Proof/Machine/Scalar.lean ====
section
/-! DEFINITION. The scalar, control and special-register instructions of BVI (R135 to R137) and the illegal opcode (R123). -/

namespace Sys2Proof.Machine

open Sys2Proof

/-- IMM32 sign-extended to 64 bits (R124). -/
def FmtS.sximm (f : FmtS) : Word64 := f.imm.signExtend 64

/-- The second operand b: s[SB], or IMM32 when I is 1 (R124, R137). -/
def FmtS.b (f : FmtS) (x : Tile) : Word64 := if f.i then FmtS.sximm f else x.s f.sb

/-- A scalar instruction writing `v` of the tile to s[SD]. -/
def scalarOp (i : Instr) (t : Site) (f : FmtS) (v : Tile → Word64) (s : State) : State :=
  s.vcIssue t i fun s => (s.onTile t fun x => x.setS f.sd (v x)).vcNext t

/-- A branch: taken to its own address + IMM32 * 8 when `c` holds (R135). -/
def branchOp (i : Instr) (t : Site) (f : FmtS) (c : Tile → Bool) (s : State) : State :=
  s.vcIssue t i fun s =>
    let x := s.tile t
    if c x then s.vcRetire t (BitVec.ofNat 64 x.pc + FmtS.sximm f * 8).toNat else s.vcNext t

/-- FP32 sum or product of the low words, bits [63:32] zero (R137); flags as R146. -/
def scalarFp (i : Instr) (t : Site) (f : FmtS) (op : FVal → FVal → FVal × Flags) (s : State) : State :=
  s.vcIssue t i fun s =>
    let x := s.tile t
    let r := op (f32dec ((x.s f.sa).truncate 32)) (f32dec ((FmtS.b f x).truncate 32))
    let c := f32enc r.1
    ((s.raiseFlags t (r.2 ||| c.2)).onTile t fun x => x.setS f.sd (c.1.zeroExtend 64)).vcNext t

/-- The address s[SA] + IMM32 of LD.S and ST.S. -/
def scalarAddr (x : Tile) (f : FmtS) : Word64 := x.s f.sa + FmtS.sximm f

/-- The checks of an address that must be aligned to `al`: within 21 bits (ADDR), aligned (ALIGN), in that order (R144, R146). -/
def addrCheck (a al : Nat) : Option Cause :=
  if 2 ^ 21 ≤ a then some .addr else if a % al ≠ 0 then some .align else none

/-- The value of special register `k` (Table 4-9); an unlisted number reads zero (R136). -/
def specialReg (s : State) (t : Site) (k : Nat) : Word64 :=
  if k = 0 then ((s.tile t).vflags).zeroExtend 64
  else if k = 1 then BitVec.ofNat 64 (s.tileId t)
  else if k = 2 then BitVec.ofNat 64 (match s.cycle0 with | some c => s.now - c | none => 0)
  else if k = 3 then BitVec.ofNat 64 s.tm.time
  else 0

/-- NOP (R137). -/
def execNop (t : Site) (f : FmtS) (s : State) : Res State :=
  .next (s.vcIssue t (.nop t f) fun s => s.vcNext t)

/-- ADD: s[SD] := s[SA] + b modulo 2^64 (R137). -/
def execAdd (t : Site) (f : FmtS) (s : State) : Res State :=
  .next (scalarOp (.add t f) t f (fun x => x.s f.sa + FmtS.b f x) s)

/-- SUB (R137). -/
def execSub (t : Site) (f : FmtS) (s : State) : Res State :=
  .next (scalarOp (.sub t f) t f (fun x => x.s f.sa - FmtS.b f x) s)

/-- MUL: low 64 bits (R137). -/
def execMul (t : Site) (f : FmtS) (s : State) : Res State :=
  .next (scalarOp (.mul t f) t f (fun x => x.s f.sa * FmtS.b f x) s)

/-- AND (R137). -/
def execAnd (t : Site) (f : FmtS) (s : State) : Res State :=
  .next (scalarOp (.and t f) t f (fun x => x.s f.sa &&& FmtS.b f x) s)

/-- OR (R137). -/
def execOr (t : Site) (f : FmtS) (s : State) : Res State :=
  .next (scalarOp (.or t f) t f (fun x => x.s f.sa ||| FmtS.b f x) s)

/-- XOR (R137). -/
def execXor (t : Site) (f : FmtS) (s : State) : Res State :=
  .next (scalarOp (.xor t f) t f (fun x => x.s f.sa ^^^ FmtS.b f x) s)

/-- SHL by b mod 64 (R137). -/
def execShl (t : Site) (f : FmtS) (s : State) : Res State :=
  .next (scalarOp (.shl t f) t f (fun x => x.s f.sa <<< ((FmtS.b f x).toNat % 64)) s)

/-- SHR, logical, by b mod 64 (R137). -/
def execShr (t : Site) (f : FmtS) (s : State) : Res State :=
  .next (scalarOp (.shr t f) t f (fun x => x.s f.sa >>> ((FmtS.b f x).toNat % 64)) s)

/-- SRA, arithmetic, by b mod 64 (R137). -/
def execSra (t : Site) (f : FmtS) (s : State) : Res State :=
  .next (scalarOp (.sra t f) t f (fun x => (x.s f.sa).sshiftRight ((FmtS.b f x).toNat % 64)) s)

/-- SLT, signed (R137). -/
def execSlt (t : Site) (f : FmtS) (s : State) : Res State :=
  .next (scalarOp (.slt t f) t f (fun x => if (x.s f.sa).slt (FmtS.b f x) then 1 else 0) s)

/-- SLTU, unsigned (R137). -/
def execSltu (t : Site) (f : FmtS) (s : State) : Res State :=
  .next (scalarOp (.sltu t f) t f (fun x => if (x.s f.sa).ult (FmtS.b f x) then 1 else 0) s)

/-- MOVI: IMM32 sign-extended (R137). -/
def execMovi (t : Site) (f : FmtS) (s : State) : Res State :=
  .next (scalarOp (.movi t f) t f (fun _ => FmtS.sximm f) s)

/-- MOVHI: bits [63:32] := IMM32, bits [31:0] unchanged (R137). -/
def execMovhi (t : Site) (f : FmtS) (s : State) : Res State :=
  .next (scalarOp (.movhi t f) t f (fun x => f.imm ++ (x.s f.sd).truncate 32) s)

/-- FADD.S (R137). -/
def execFaddS (t : Site) (f : FmtS) (s : State) : Res State :=
  .next (scalarFp (.faddS t f) t f fadd s)

/-- FMUL.S (R137). -/
def execFmulS (t : Site) (f : FmtS) (s : State) : Res State :=
  .next (scalarFp (.fmulS t f) t f fmul s)

/-- LD.S: 8 bytes at s[SA] + IMM32, aligned to 8 (R137, R95, R103). -/
def execLdS (t : Site) (f : FmtS) (s : State) : Res State :=
  .next (s.vcIssue t (.ldS t f) fun s =>
    let a := (scalarAddr (s.tile t) f).toNat
    match addrCheck a 8 with
    | some c => s.vcRaise t c
    | none => s.vcLoad t a 8 fun bs s => (s.onTile t fun x => x.setS f.sd (BitVec.ofNat 64 (leNat bs))).vcNext t)

/-- ST.S: 8 bytes at s[SA] + IMM32 := s[SB], aligned to 8, through write port 0 (R137, R95, R98, R103). -/
def execStS (t : Site) (f : FmtS) (s : State) : Res State :=
  .next (s.vcIssue t (.stS t f) fun s =>
    let x := s.tile t
    let a := (scalarAddr x f).toNat
    match addrCheck a 8 with
    | some c => s.vcRaise t c
    | none => s.vcStore t 0 a (leBytes 8 (x.s f.sb).toNat))

/-- BEQ (R137, R135). -/
def execBeq (t : Site) (f : FmtS) (s : State) : Res State :=
  .next (branchOp (.beq t f) t f (fun x => x.s f.sa == x.s f.sb) s)

/-- BNE (R137, R135). -/
def execBne (t : Site) (f : FmtS) (s : State) : Res State :=
  .next (branchOp (.bne t f) t f (fun x => x.s f.sa != x.s f.sb) s)

/-- BLT, signed (R137, R135). -/
def execBlt (t : Site) (f : FmtS) (s : State) : Res State :=
  .next (branchOp (.blt t f) t f (fun x => (x.s f.sa).slt (x.s f.sb)) s)

/-- BGE, signed (R137, R135). -/
def execBge (t : Site) (f : FmtS) (s : State) : Res State :=
  .next (branchOp (.bge t f) t f (fun x => !(x.s f.sa).slt (x.s f.sb)) s)

/-- JMP (R137, R135). -/
def execJmp (t : Site) (f : FmtS) (s : State) : Res State :=
  .next (branchOp (.jmp t f) t f (fun _ => true) s)

/-- JR: PC := s[SA]; any of bits [2:0] set raises ALIGN (R135). -/
def execJr (t : Site) (f : FmtS) (s : State) : Res State :=
  .next (s.vcIssue t (.jr t f) fun s =>
    let a := ((s.tile t).s f.sa).toNat
    if a % 8 ≠ 0 then s.vcRaise t .align else s.vcRetire t a)

/-- HALT: the vector core enters HALT after this instruction (R137, R112). -/
def execHalt (t : Site) (f : FmtS) (s : State) : Res State :=
  .next (s.vcIssue t (.halt t f) fun s => (s.vcNext t).onTile t fun x => { x with vc := .halt })

/-- BRK raises BREAK (R137, R146). -/
def execBrk (t : Site) (f : FmtS) (s : State) : Res State :=
  .next (s.vcIssue t (.brk t f) fun s => s.vcRaise t .brk)

/-- RDS: s[SD] := special register IMM32 (R136, Table 4-9). -/
def execRds (t : Site) (f : FmtS) (s : State) : Res State :=
  .next (s.vcIssue t (.rds t f) fun s =>
    let v := specialReg s t f.imm.toNat
    (s.onTile t fun x => x.setS f.sd v).vcNext t)

/-- WRS: special register IMM32 := s[SA]; only VFLAGS is writable, its other bits zero (R136, Table 4-9). -/
def execWrs (t : Site) (f : FmtS) (s : State) : Res State :=
  .next (s.vcIssue t (.wrs t f) fun s =>
    (s.onTile t fun x => if f.imm = 0 then { x with vflags := (x.s f.sa).truncate 5 } else x).vcNext t)

/-- The fetched word `w` has an opcode that is not listed and raises ILLEGAL (R123); the reserved instruction bits are ignored. A word with a listed opcode is no such event. -/
def execIllegalOpcode (t : Site) (w : BitVec 64) (s : State) : Res State :=
  .next (s.vcFetch t (fun v => v == w && (bviDecode t w).isNone) fun s => s.vcRaise t .illegal)

end Sys2Proof.Machine
end

