-- ==== Sys2Proof/Machine/Units.lean ====
section
/-! DEFINITION. The unit and synchronisation instructions of BVI at their issue (R138 to R144). -/

namespace Sys2Proof.Machine

open Sys2Proof

/-- Bits of IMM36, numbered as instruction bits (R124). -/
def FmtX.fld (f : FmtX) (lsb w : Nat) : Nat := bits f.imm.toNat (lsb - 28) w

/-- s[SB + k] of a code area. -/
def FmtX.area (f : FmtX) (x : Tile) (k : Nat) : Nat := (x.s (BitVec.ofNat 5 (f.sb.toNat + k))).toNat

/-- The first check that fails at issue: a field (ILLEGAL), an address above 21 bits (ADDR), an alignment (ALIGN), in that order (R144). -/
def issueCheck (illegal : Bool) (addrs : List Nat) (misaligned : Bool) : Option Cause :=
  if illegal then some .illegal else if addrs.any (fun a => decide (2 ^ 21 ≤ a)) then some .addr
  else if misaligned then some .align else none

/-- A unit instruction: checked at issue, then placed in queue `q` with the values it read (R125, R144). -/
def unitIssue (i : Instr) (t : Site) (q : Nat) (chk : Tile → Option Cause) (op : Tile → QOp) (s : State) : State :=
  s.vcIssue t i fun s =>
    let x := s.tile t
    match chk x with
    | some c => s.vcRaise t c
    | none => s.vcEnqueue t q (op x)

/-- RQU.QV (R138). -/
def execRquQv (t : Site) (f : FmtX) (s : State) : Res State :=
  .next (unitIssue (.rquQv t f) t 0
    (fun x => issueCheck (decide (29 < f.sb.toNat))
      [(x.s f.sa).toNat, FmtX.area f x 0, FmtX.area f x 1, FmtX.area f x 2, (x.s f.sc).toNat] false)
    (fun x => .rquQv (x.s f.sa).toNat (FmtX.area f x 0) (FmtX.area f x 1) (FmtX.area f x 2) (x.s f.sc).toNat
      (x.s f.sd).toNat (FmtX.fld f 28 8 + 1)) s)

/-- ARR.MVM (R139, Table 4-4). -/
def execArrMvm (t : Site) (f : FmtX) (s : State) : Res State :=
  .next (unitIssue (.arrMvm t f) t 0
    (fun x => issueCheck
      (decide (29 < f.sb.toNat) || x.s f.sc == 0 || decide (127 < FmtX.fld f 28 7 + (x.s f.sd).toNat % 128) ||
        !(FmtX.fld f 38 4 == 8 || FmtX.fld f 38 4 == 9) || FmtX.fld f 42 3 == 7)
      [(x.s f.sa).toNat, FmtX.area f x 0, FmtX.area f x 1, FmtX.area f x 2] false)
    (fun x => .arrMvm (x.s f.sa).toNat (FmtX.area f x 0) (FmtX.area f x 1) (FmtX.area f x 2) (x.s f.sc).toNat
      (FmtX.fld f 28 7 + (x.s f.sd).toNat % 128) ((FmtX.fld f 35 1 == 1) ^^ (x.s f.sd).getLsbD 7)
      (FmtX.fld f 36 2) (FmtX.fld f 38 4) (FmtX.fld f 42 3) (FmtX.fld f 45 2)
      (if FmtX.fld f 47 2 = 3 then 0 else FmtX.fld f 47 2) (FmtX.fld f 49 3)) s)

/-- EBA.OPEN (R140, Table 4-5). -/
def execEbaOpen (t : Site) (f : FmtX) (s : State) : Res State :=
  .next (unitIssue (.ebaOpen t f) t 0
    (fun x => issueCheck (decide (32 < FmtX.fld f 28 5 + FmtX.fld f 33 5 + 1))
      [(x.s f.sa).toNat, (x.s f.sb).toNat, (x.s f.sc).toNat] (decide ((x.s f.sb).toNat % 64 ≠ 0)))
    (fun x => .ebaOpen (x.s f.sa).toNat (x.s f.sb).toNat (x.s f.sc).toNat (x.s f.sd).toNat (FmtX.fld f 28 5)
      (FmtX.fld f 33 5 + 1) (FmtX.fld f 38 15 + 1) (FmtX.fld f 54 8 + 1) (FmtX.fld f 53 1 == 1)) s)

/-- TU.MMA (R141, Table 4-6); its fields are clamped when it starts, not refused here (R144). -/
def execTuMma (t : Site) (f : FmtX) (s : State) : Res State :=
  .next (unitIssue (.tuMma t f) t 1
    (fun x => issueCheck false
      ([(x.s f.sa).toNat, (x.s f.sb).toNat] ++ (if FmtX.fld f 41 1 = 1 then [] else [(x.s f.sc).toNat])) false)
    (fun x =>
      let d := (x.s f.sd).toNat
      .tuMma (x.s f.sa).toNat (x.s f.sb).toNat (x.s f.sc).toNat (bits d 0 8 + 1) (bits d 8 12 + 1) (bits d 20 12 + 1)
        (FmtX.fld f 28 4) (FmtX.fld f 32 4) (FmtX.fld f 36 4) (FmtX.fld f 40 1 == 1) (FmtX.fld f 41 1 == 1)
        (FmtX.fld f 42 2) (FmtX.fld f 44 1 == 1)) s)

/-- DMA.KICK (R143). -/
def execDmaKick (t : Site) (f : FmtX) (s : State) : Res State :=
  .next (unitIssue (.dmaKick t f) t 2 (fun _ => none) (fun x => .dmaKick (x.s f.sa).toNat (FmtX.fld f 28 3)) s)

/-- The handle of a format Y instruction (R142). -/
def FmtY.handle (f : FmtY) (x : Tile) : Handle := if f.hi then f.immh else (x.s f.sh).truncate 23

/-- Its count or threshold (R142). -/
def FmtY.n (f : FmtY) (x : Tile) : BitVec 32 := if f.ni then f.immn.zeroExtend 32 else (x.s f.sn).truncate 32

/-- A synchronisation instruction: Q 5 to 7, and a field with a value the spec does not list (`bad`), raise ILLEGAL; Q 0 to 3 places it in that queue; Q 4 executes it in line by `inline` (R142, R144). -/
def syncIssue (i : Instr) (t : Site) (f : FmtY) (bad : Bool) (op : Tile → QOp) (inline : Tile → State → State) (s : State) : State :=
  s.vcIssue t i fun s =>
    if 4 < f.q.toNat || bad then s.vcRaise t .illegal
    else if f.q.toNat = 4 then inline (s.tile t) (s.vcNext t)
    else s.vcEnqueue t f.q.toNat (op (s.tile t))

/-- An in-line instruction that the vector core waits for (R142). -/
def State.vcWait (s : State) (t : Site) (w : InWait) : State :=
  s.onTile t fun x => { x with vc := .wait, inwait := some w }

/-- SIGNAL (R142, R226). -/
def execSignal (t : Site) (f : FmtY) (s : State) : Res State :=
  .next (syncIssue (.signal t f) t f false (fun x => .signal (FmtY.handle f x) (FmtY.n f x))
    (fun x s => s.sendSig (siteNode t) (FmtY.handle f x) 0 (FmtY.n f x) none) s)

/-- WAIT (R142, R226). -/
def execWait (t : Site) (f : FmtY) (s : State) : Res State :=
  .next (syncIssue (.wait t f) t f false (fun x => .wait (FmtY.handle f x) (FmtY.n f x))
    (fun x s => (s.sendSig (siteNode t) (FmtY.handle f x) 1 (FmtY.n f x) (some (.tile t 4))).vcWait t
      (.obj false (FmtY.handle f x) (FmtY.n f x) none)) s)

/-- ACQUIRE (R142, R226). -/
def execAcquire (t : Site) (f : FmtY) (s : State) : Res State :=
  .next (syncIssue (.acquire t f) t f false (fun x => .acquire (FmtY.handle f x) (FmtY.n f x))
    (fun x s => (s.sendSig (siteNode t) (FmtY.handle f x) 2 (FmtY.n f x) (some (.tile t 4))).vcWait t
      (.obj true (FmtY.handle f x) (FmtY.n f x) none)) s)

/-- RESET (R142, R226). -/
def execReset (t : Site) (f : FmtY) (s : State) : Res State :=
  .next (syncIssue (.reset t f) t f false (fun x => .reset (FmtY.handle f x) (FmtY.n f x))
    (fun x s => s.sendSig (siteNode t) (FmtY.handle f x) 3 (FmtY.n f x) none) s)

/-- SP.OWN: bank IMMN[2:0], owner IMMN[6:4], in a queue or in line (R142, R99); the owner codes 6 and 7, which R94 gives to no unit, raise ILLEGAL (DEDUCED from R144, log 24). -/
def execSpOwn (t : Site) (f : FmtY) (s : State) : Res State :=
  .next (syncIssue (.spOwn t f) t f (decide (5 < bits f.immn.toNat 4 3)) (fun _ => .spOwn (bits f.immn.toNat 0 3) (bits f.immn.toNat 4 3))
    (fun _ s => (s.ownRequest t (bits f.immn.toNat 0 3) 5 (bits f.immn.toNat 4 3)).vcWait t
      (.own (bits f.immn.toNat 0 3))) s)

end Sys2Proof.Machine
end

