-- ==== Sys2Proof/Machine/TileEvents.lean ====
section
/-! DEFINITION. What happens in a tile beside its instructions: queues, ownership, retention, start and stop, releases, parking (R89 to R104, R112, R113, R230, R233 to R235). -/

namespace Sys2Proof.Machine

open Sys2Proof

/-- Every earlier entry of queue `q` is complete: nothing holds its head, and no array operation (ARR) or product (TU) that left it is still running (R90, Table 3-2). -/
def Tile.clear (x : Tile) (q : Nat) : Bool :=
  (x.queue q).head == .free && (q != 0 || x.live.isEmpty) && (q != 1 || x.tu.isNone)

/-- No unit of the tile is gated, reclaiming or fenced, and its clock runs (R114, R233, R234, R396). -/
def Tile.awake (x : Tile) : Bool := x.pstate == 0 && x.reclaim.isNone && !x.fenced && !x.clkOff

/-- The tile with the head entry of queue `q` gone and `h` holding the head; it is no longer parked (R233). -/
def Tile.popQueue (x : Tile) (q : Nat) (h : Head) : Tile :=
  let u := x.queue q
  { x.setQueue q ⟨u.ents.tail, h⟩ with parked := none }

/-- A stalled vector core places its entry once its queue has room (R89). -/
def execIssueStallResume (t : Site) (s : State) : Res State :=
  .next (
    let x := s.tile t
    match x.vc, x.stall with
    | .issueStall, some (.queue q e) =>
      let u := x.queue q
      if x.awake && decide (u.ents.length < queueDepth q) then
        (s.onTile t fun x => { x.setQueue q { u with ents := u.ents ++ [e] } with vc := .run, stall := none }).vcRetire t
          (e.pc + 8)
      else s
    | _, _ => s)

/-- The head of queue `q`, a synchronisation or SP.OWN entry, executes once earlier entries are complete (R90); a WAIT or ACQUIRE then holds the head until its release, an SP.OWN until its change takes effect (R99). It holds the head from its execution on, not while earlier entries are incomplete: QSTALL and the HW_CYC counters run from then (DESIGN CHOICE, log entry 86). -/
def execQueueEntryExecute (t : Site) (q : Fin 4) (s : State) : Res State :=
  .next (
    let x := s.tile t
    match (x.queue q.val).ents with
    | [] => s
    | e :: _ =>
      if !(x.awake && x.clear q.val) then s
      else
        match e.op with
        | .signal h n => (s.onTile t fun x => x.popQueue q.val .free).sendSig (siteNode t) h 0 n none
        | .reset h n => (s.onTile t fun x => x.popQueue q.val .free).sendSig (siteNode t) h 3 n none
        | .wait h n =>
          (s.onTile t fun x => x.setQueue q.val { x.queue q.val with head := .waiting s.now false none }).sendSig
            (siteNode t) h 1 n (some (.tile t (Fin.castLE (by decide) q)))
        | .acquire h n =>
          (s.onTile t fun x => x.setQueue q.val { x.queue q.val with head := .waiting s.now false none }).sendSig
            (siteNode t) h 2 n (some (.tile t (Fin.castLE (by decide) q)))
        | .spOwn b o => (s.ownRequest t b (q.val + 1) o).onTile t fun x => x.popQueue q.val (.own b)
        | _ => s)

/-- A WAIT or ACQUIRE has held the head of queue `q` beyond QSTALL_LIM: counted, reported once; it goes on waiting (R92). -/
def execQstall (t : Site) (q : Fin 4) (s : State) : Res State :=
  .next (
    match ((s.tile t).queue q.val).head with
    | .waiting since false r =>
      if usTicks (s.get (R.QSTALL_LIM_LIMIT t.val)) < s.now - since then
        (((s.onTile t fun x => x.setQueue q.val { x.queue q.val with head := .waiting since true r }).set1
          (R.SPEVT_QSTALL t.val)).bump (R.QSTALL_CNT t.val)).fault 0x0A t.val (detail := q.val)
      else s
    | _ => s)

/-- The registers of a vector core that starts: from HALT every register is zero (R121); PC is VC_PC (R112). -/
def Tile.vcBoot (x : Tile) (pc : Nat) : Tile :=
  let x := if x.vc = .halt then { x with sr := [], vr := [], xt := [], mr := [], vflags := 0 } else x
  { x with pc := pc }

/-- TILE_CTL.VC_RUN := 1: from HALT or FAULT the vector core starts at VC_PC; in P1 it starts when the reclaim it causes ends (R112, R234), in P2 when the tile leaves P2 (R398); a fenced tile starts nothing (R114). -/
def State.vcRunSet (s : State) (t : Site) : State :=
  let s := s.put (R.TILE_CTL_VC_RUN t.val) 1
  let x := s.tile t
  if x.fenced || !(x.vc == .halt || x.vc == .fault) then s
  else
    let pc := s.get (R.VC_PC_PC t.val) * 8
    if x.pstate = 0 then s.onTile t fun x => { x.vcBoot pc with vc := .run }
    else if x.pstate = 2 then s.onTile t fun x => { x.vcBoot pc with vcResume := true }
    else s.onTile t fun x =>
      { x.vcBoot pc with vcResume := true, reclaim := if x.reclaim.isNone then some s.now else x.reclaim }

/-- TILE_CTL.VC_RUN set. -/
def execVcRunSet (src : Partner) (t : Site) (s : State) : Res State :=
  .next (regWrite src (tileOff t 4) 4 1 s fun s => s.vcRunSet t)

/-- TILE_CTL.VC_RUN := 0: RUN, ISSUE_STALL and WAIT halt, the last two at once and abandoning their instruction; HALT and FAULT stay (R112). -/
def State.vcRunClear (s : State) (t : Site) : State :=
  (s.put (R.TILE_CTL_VC_RUN t.val) 0).onTile t fun x =>
    let x := { x with vcResume := false }
    match x.vc with
    | .run | .issueStall | .wait => { x with vc := .halt, stall := none, inwait := none }
    | .halt | .fault => x

/-- TILE_CTL.VC_RUN cleared. -/
def execVcRunClear (src : Partner) (t : Site) (s : State) : Res State :=
  .next (regWrite src (tileOff t 4) 4 0 s fun s => s.vcRunClear t)

/-- A queue without the entries that have not left it. -/
def Queue.flush (u : Queue) : Queue :=
  ⟨[], match u.head with | .waiting .. => .free | h => h⟩

/-- TILE_CTL.Q_FLUSH: in HALT or FAULT, every entry that has not left its queue is discarded (R113). -/
def State.qFlush (s : State) (t : Site) : State :=
  s.onTile t fun x =>
    if x.vc == .halt || x.vc == .fault then
      { x with qArr := x.qArr.flush, qTu := x.qTu.flush, qDma := x.qDma.flush, qSync := x.qSync.flush }
    else x

/-- TILE_CTL.Q_FLUSH set. -/
def execQFlush (src : Partner) (t : Site) (s : State) : Res State :=
  .next (regWrite src (tileOff t 4) 4 2 s fun s => s.qFlush t)

/-- A whole write of TILE_CTL: TU_EN, the flush, then VC_RUN where it changes or starts a core in FAULT (R112, R113, R118). -/
def State.tileCtl (s : State) (t : Site) (v : Nat) : State :=
  let s := s.put (R.TILE_CTL_TU_EN t.val) (bits v 2 1)
  let s := if bits v 1 1 = 1 then s.qFlush t else s
  if bits v 0 1 = 1 then s.vcRunSet t else s.vcRunClear t

/-- SPOWN: each bank's requested owner is applied under R99 to R101; 6 and 7 are applied as NONE and logged. -/
def State.spownSet (s : State) (src : Nat) (t : Site) (v : Nat) : State :=
  s.each (List.range 8) fun s b =>
    let o := bits v (4 * b) 3
    let s := if 6 ≤ o then s.clampLog (tileOff t 0x10) src .subst (4 * b) 3 o 0 else s
    let o := if 6 ≤ o then 0 else o
    if o = s.owner t b ∧ ((s.tile t).bank b).chg = [] then s else s.ownRequest t b 0 o

/-- Write of SPOWN. -/
def execSpownWrite (src : Partner) (t : Site) (v : BitVec 32) (s : State) : Res State :=
  .next (regWrite src (tileOff t 0x10) 4 v.toNat s fun s => s.spownSet (srcCode src) t v.toNat)

/-- How many changes of a list are overtaken in their own tick (R100). -/
def overtaken (l : List OwnChg) : Nat :=
  match l with
  | [] => 0
  | c :: r => (if r.any (fun d => d.time == c.time) then 1 else 0) + overtaken r

/-- The changes of bank `b` that executed in an earlier cycle take effect in order, the last one standing; the entries and the vector core that waited for them go on (R99, R100, R142). -/
def State.ownEffect (s : State) (t : Site) (b : Nat) : State :=
  let due := ((s.tile t).bank b).chg.filter fun c => decide (c.time < s.now)
  let later := ((s.tile t).bank b).chg.filter fun c => !decide (c.time < s.now)
  match due.getLast? with
  | none => s
  | some c =>
    let waits (rank : Nat) : Bool := later.any fun c => c.rank == rank
    let free (q : Nat) (u : Queue) : Queue := if u.head = .own b ∧ waits (q + 1) = false then { u with head := .free } else u
    (((s.put (spownF t.val b) c.owner).bump (R.SPOWN_RACE_CNT t.val) (overtaken due)).onTile t fun x =>
      x.onBank b fun k => { k with chg := later }).onTile t fun x =>
        let x := { x with qArr := free 0 x.qArr, qTu := free 1 x.qTu, qDma := free 2 x.qDma, qSync := free 3 x.qSync }
        if x.inwait = some (.own b) ∧ waits 5 = false then
          if x.pstate = 0 then { x with inwait := none, vc := .run } else { x with inwait := none, vcResume := true }
        else x

/-- The changes of a bank take effect (R99). -/
def execOwnershipChangeEffect (t : Site) (b : Fin 8) (s : State) : Res State := .next (s.ownEffect t b.val)

/-- SPRET: a bit set places its bank on the way to retention, after its wake if it is waking, a bit cleared starts the wake of a bank in retention (R102); in P2 every bank stays in retention (R104). -/
def State.spretSet (s : State) (t : Site) (v : Nat) : State :=
  let old := s.get (R.SPRET_RET t.val)
  let new := v % 256
  (s.put (R.SPRET_RET t.val) new).onTile t fun x =>
    (List.range 8).foldl (fun x b => x.onBank b fun k =>
      if new.testBit b && !old.testBit b then
        (if k.pst = .on then { k with pst := .entering } else if k.pst = .waking then { k with again := true } else k)
      else if old.testBit b && !new.testBit b && x.pstate != 2 then
        (if k.pst = .ret then { k with pst := .waking, wakeAt := s.now + 376 }
         else if k.pst = .entering then { k with pst := .on } else { k with again := false })
      else k) x

/-- Write of SPRET. -/
def execSpretWrite (src : Partner) (t : Site) (v : BitVec 32) (s : State) : Res State :=
  .next (regWrite src (tileOff t 0x14) 4 v.toNat s fun s => s.spretSet t v.toNat)

/-- A bank on its way enters retention once no access is in progress (R102). -/
def execBankRetentionEntry (t : Site) (b : Fin 8) (s : State) : Res State :=
  .next (s.onTile t fun x => x.onBank b.val fun k => if k.pst = .entering then { k with pst := .ret } else k)

/-- A wake ends 376 cycles after it began; an issue stalled on it goes on (R102, R103). A bank whose SPRET bit was set meanwhile goes on to retention (R102). -/
def execBankWakeComplete (t : Site) (b : Fin 8) (s : State) : Res State :=
  .next (
    let k := (s.tile t).bank b.val
    if k.pst = .waking ∧ k.wakeAt ≤ s.now then
      (s.onTile t fun x => x.onBank b.val fun k =>
        { k with pst := if k.again then .entering else .on, again := false, last := s.now }).onTile t fun x =>
        if x.vc = .issueStall ∧ x.stall = some (.bank b.val) then { x with vc := .run, stall := none } else x
    else s)

/-- A bank woken by an access while its SPRET bit stands returns to retention after 1,024 idle cycles (R103); so does one in P2 (R104). -/
def execBankIdleRetention (t : Site) (b : Fin 8) (s : State) : Res State :=
  .next (
    let x := s.tile t
    let k := x.bank b.val
    if k.pst = .on ∧ ((s.get (R.SPRET_RET t.val)).testBit b.val ∨ x.pstate = 2) ∧ k.last + 1024 ≤ s.now then
      s.onTile t fun x => x.onBank b.val fun k => { k with pst := .ret }
    else s)

/-! ### Releases, refusals, parking -/

/-- A reclaim of the tile's allowance begins if it is parked in P1 (R234). -/
def Tile.startReclaim (x : Tile) (now : Nat) : Tile :=
  if x.pstate = 1 ∧ x.reclaim = none then { x with reclaim := some now } else x

/-- The node of a waiter: its tile's stop, or the control core (Table 7-3). -/
def waiterNode : WaiterId → Nat
  | .tile t _ => siteNode t
  | .core c => 0x178 + c.val

/-- A RELEASE completes the entry, or the in-line wait, it is for; otherwise it is discarded (R112, R226); in P1 what follows waits for the reclaim (R234); a fenced tile drops and counts it (R114). -/
def execRelease (w : WaiterId) (s : State) (err : NetErr := .none) : Res State :=
  .next (s.tanArrive (.release w) (s.tanStop (waiterNode w)) err fun s =>
    match w with
    | .core _ => s
    | .tile t q =>
      let x := s.tile t
      if x.fenced then s.bump (R.FENCE_DROP_CNT t.val)
      else if q.val = 4 then
        match x.vc, x.inwait with
        | .wait, some (.obj ..) =>
          s.onTile t fun x =>
            if x.pstate = 0 then { x with vc := .run, inwait := none, parked := none }
            else ({ x with inwait := none, vcResume := true, parked := none }).startReclaim s.now
        | _, _ => s
      else
        match (x.queue q.val).head with
        | .waiting .. => s.onTile t fun x => (x.popQueue q.val .free).startReclaim s.now
        | _ => s)

/-- A REFUSE: the head stays held, and the operation is sent again 64 tangent cycles later (R230); a fenced tile drops it. -/
def execRefuse (w : WaiterId) (s : State) (err : NetErr := .none) : Res State :=
  .next (s.tanArrive (.refuse w) (s.tanStop (waiterNode w)) err fun s =>
    match w with
    | .core _ => s
    | .tile t q =>
      if (s.tile t).fenced then s
      else s.onTile t fun x =>
        if q.val = 4 then
          match x.inwait with
          | some (.obj a h n _) => { x with inwait := some (.obj a h n (some s.now)) }
          | _ => x
        else
          match (x.queue q.val).head with
          | .waiting since r _ => x.setQueue q.val { x.queue q.val with head := .waiting since r (some s.now) }
          | _ => x)

/-- Ticks in 64 tangent cycles of 470 MHz (R230). -/
def refuseTicks : Nat := 128

/-- The refused operation is sent again (R230). -/
def execRefuseRetry (t : Site) (q : Fin 5) (s : State) : Res State :=
  .next (
    let x := s.tile t
    if q.val = 4 then
      match x.inwait with
      | some (.obj a h n (some at_)) =>
        if at_ + refuseTicks ≤ s.now then
          (s.onTile t fun x => { x with inwait := some (.obj a h n none) }).sendSig
            (siteNode t) h (if a then 2 else 1) n (some (.tile t q))
        else s
      | _ => s
    else
      match (x.queue q.val).head, (x.queue q.val).ents with
      | .waiting since r (some at_), e :: _ =>
        if at_ + refuseTicks ≤ s.now then
          let s := s.onTile t fun x => x.setQueue q.val { x.queue q.val with head := .waiting since r none }
          match e.op with
          | .wait h n => s.sendSig (siteNode t) h 1 n (some (.tile t q))
          | .acquire h n => s.sendSig (siteNode t) h 2 n (some (.tile t q))
          | _ => s
        else s
      | _, _ => s)

/-- Whether an unsatisfied WAIT or ACQUIRE holds the head of a queue. -/
def Queue.held (u : Queue) : Bool := match u.head with | .waiting .. => true | _ => false

/-- Whether a controller is neither IDLE nor HALT (Table 1-14). -/
def ArrState.busy (a : ArrState) : Bool := !(a == .idle || a == .halt)

/-- Whether every condition of a parked tile holds (R233). -/
def Tile.isParked (x : Tile) : Bool :=
  let qs := [x.qArr, x.qTu, x.qDma, x.qSync]
  (match x.vc, x.stall with
    | .wait, _ => true
    | .halt, _ => true
    | .issueStall, some (.queue q _) => (x.queue q).held
    | _, _ => false) &&
  qs.all (fun u => (u.ents.isEmpty && u.head == .free) || u.held) &&
  (qs.any Queue.held || (match x.inwait with | some (.obj ..) => x.vc == .wait | _ => false)) &&
  x.arr.all (fun p => !p.2.st.busy) && x.tu.isNone && x.rqu.isNone

/-- A tile parked for THR_US enters P1 and lends its allowance; not while LEND_CTL.EN is 0, nor in SCHEDULED mode (R233, R235). -/
def execTilePark (t : Site) (s : State) : Res State :=
  .next (
    let x := s.tile t
    match x.parked with
    | some since =>
      if x.isParked && x.pstate == 0 && !x.fenced && decide (since + usTicks (s.get R.LEND_CTL_THR_US) ≤ s.now) &&
          s.get R.LEND_CTL_EN == 1 && s.get R.LAT_STAT_MODE == 0 then
        (s.onTile t fun x => { x with pstate := 1 }).bump R.LEND_CNT
      else s
    | none => s)

/-- Nanoseconds in `n` ticks. -/
def nsOf (n : Nat) : Nat := n * 1000 / 940

/-- The allowance of a site, in mW (R403, R405): the base while lending is frozen (R406), none on a site that holds no logical tile (R398). -/
def State.allowance (s : State) (t : Nat) : Nat :=
  let v := sget 0 s.pw.lent t
  if (s.logicalOf t).isNone then 0
  else if v = 0 ∨ s.lendFrozen then s.pw.base else v - 1

/-! ### The issue gate (R404) -/

/-- The energies of the events of the last microsecond that a tile holds. -/
def recent (now : Nat) (l : List (Nat × Nat)) : List (Nat × Nat) := l.filter fun e => decide (now < e.1 + usTicks 1)

/-- A tile's energy estimate over the last microsecond, in pJ, scaled to what was measured (R404). -/
def State.estimate (s : State) (t : Site) : Nat :=
  ((recent s.now (s.tile t).energy).map (·.2)).sum * s.pw.scale.1 / s.pw.scale.2

/-- The issue gate of a tile is open: its estimate is at most its allowance times a microsecond, 1 mW being 1,000 pJ (R404). -/
def State.gateOpen (s : State) (t : Site) : Bool := decide (s.estimate t ≤ s.allowance t.val * 1000)

/-- An event of a tile spends energy, in pJ (R404). -/
def State.spend (s : State) (t : Site) (pj : Nat) : State :=
  { s with pw := { s.pw with spent := s.pw.spent + pj } }.onTile t fun x => { x with energy := (s.now, pj) :: recent s.now x.energy }

/-- Energy of a conversion (R51). -/
def pjConversion : Nat := 164

/-- A reclaimed allowance comes from the unlent pool, or else in equal amounts from the borrowers (R405); nothing is withdrawn while lending is frozen (R210, R406). -/
def State.reclaimAllow (s : State) (t : Nat) : State :=
  let s := { s with pw := { s.pw with lent := sset 0 s.pw.lent t 0 } }
  let sites := (List.range 256).map fun l => (s.siteOf l).val
  let all := (sites.map s.allowance).sum
  let own := sites.filter fun u => decide (s.pw.base < s.allowance u)
  let cut := (all - 256 * s.pw.base + own.length - 1) / own.length
  if (s.lendFrozen || decide (all ≤ 256 * s.pw.base)) = true then s
  else s.each own fun s u => { s with pw := { s.pw with lent := sset 0 s.pw.lent u (s.allowance u - cut + 1) } }

/-- A tile that reclaims returns to P0 and resumes; RECLAIM_MAX and RECLAIM_SLOW_CNT record it (R234). -/
def execReclaimComplete (t : Site) (s : State) : Res State :=
  .next (
    let x := s.tile t
    match x.reclaim with
    | none => s
    | some t0 =>
      let ns := nsOf (s.now - t0)
      let s := s.put R.RECLAIM_MAX (max (s.get R.RECLAIM_MAX) (min ns (2 ^ 32 - 1)))
      let s := (if 400 < ns then s.bump R.RECLAIM_SLOW_CNT else s).reclaimAllow t.val
      s.onTile t fun x =>
        { x with pstate := 0, reclaim := none, parked := none, vcResume := false, vc := if x.vcResume then .run else x.vc })

end Sys2Proof.Machine
end

