-- ==== Sys2Proof/Machine/Arrays.lean ====
section
/-! DEFINITION. The array sequencer: LOAD, conversions, the final promotion, reference-row tests (R14 to R47, R139, R354). -/

namespace Sys2Proof.Machine

open Sys2Proof

/-! ### Cells and columns (R14 to R17, R26, R27, R39) -/

/-- Key of a cell: site, array, physical plane, row, physical column. -/
def cellKey (t : Site) (a : ArrIx) (plane : Bool) (row col : Nat) : Nat :=
  (((t.val * 64 + a.val) * 2 + plane.toNat) * 132 + row) * 528 + col

/-- A cell's conductance in sixteenths of a level step; shipped at level 8 (R374). -/
def State.cell (s : State) (t : Site) (a : ArrIx) (plane : Bool) (row col : Nat) : Nat :=
  sget 128 s.cells (cellKey t a plane row col)

/-- The state with a cell set. -/
def State.setCell (s : State) (t : Site) (a : ArrIx) (plane : Bool) (row col v : Nat) : State :=
  { s with cells := sset 128 s.cells (cellKey t a plane row col) v }

/-- The column group of a physical column (R15). -/
def groupOf (col : Nat) : Nat :=
  if col < 512 then col / 128 else if col < 520 then (col - 512) / 2 else if col < 524 then col - 520 else col - 524

/-- K of a weight code (Table 1-2). -/
def weightK (code : Nat) : Nat := if code = 0 then 1 else if code = 1 then 2 else 7

/-- Remap entry `k` of an array: COL and V (Table 1-19). -/
def sprF (t : Site) (a : ArrIx) (k : Nat) (v : Bool) : FRef :=
  ⟨0x2008008 + 0x10000 * t.val + 0x80 * a.val + (if k < 4 then 0 else 4), 8 * (k % 4) + (if v then 7 else 0), if v then 1 else 7, 0⟩

/-- The data column each spare stands in for; of two entries naming one column the lower applies (R39). -/
def State.spares (s : State) (t : Site) (a : ArrIx) : List (Option Nat) :=
  let raw := (List.range 8).map fun k =>
    if s.get (sprF t a k true) = 1 then some (128 * (k / 2) + s.get (sprF t a k false)) else none
  raw.mapIdx fun k e => if e.isSome && (raw.take k).contains e then none else e

/-- The physical column a logical column reads (R39). -/
def physOf (spares : List (Option Nat)) (j : Nat) : Nat :=
  match findIx (fun e => e == some j) spares with
  | some k => 512 + k
  | none => j

/-- A quotient of integers rounded to nearest, ties to even. -/
def rneQuot (d l : Int) : Int :=
  let q := Int.fdiv d l
  let r := d - q * l
  if 2 * r < l then q else if 2 * r > l then q + 1 else if q % 2 = 0 then q else q + 1

/-- The ideal code of a physical column over the active rows, before clamping: difference value over the code LSB (R17, R26, R27), the LSB scaled by the gain trim as the DAC's full scale is, every threshold raised by the column's offset trim in eighths of the LSB (R28, R48; the sign DEDUCED, log entry 33). -/
def State.idealCode (s : State) (t : Site) (a : ArrIx) (plane : Bool) (lsb k gtrim : Nat) (otrim : Int) (rows : List Nat) (col : Nat) : Int :=
  let d : Int := rows.foldl (fun (acc : Int) r =>
    acc + ((s.cell t a plane r col : Int) - s.cell t a plane r (524 + groupOf col))) 0
  let l : Int := (if 520 ≤ col then 2 * k * lsb else 16 * k * lsb : Nat) * ((16384 + gtrim : Nat) - 2048)
  rneQuot (d * 16384 * 8 - otrim * l) (8 * l)

/-- The columns an operation keeps sums of: 512 logical data columns, 8 spares, 4 checksum columns. -/
def opCols (op : ArrOp) : List Nat := (List.range 512).map (physOf op.spares) ++ (List.range 12).map (512 + ·)

/-- The codes of one conversion, with the error of each code a free value (R26, R81, R82). -/
def State.codesOf (s : State) (t : Site) (a : ArrIx) (op : ArrOp) (rows : List Nat) : List Int :=
  let k := match op.test with | some o => if o.codes.isSome then 1 else weightK op.wcode | none => weightK op.wcode
  (opCols op).map fun col =>
    clampInt (-128) 127 (s.idealCode t a op.plane (if op.reduced then 2 else 1) k op.gtrim (sget 0 op.otrim col) rows col +
      Config.analogErr (s.free + col))

/-- A code at a limit (R32). -/
def atLimit (c : Int) : Bool := c == 127 || c == -128

/-! ### Row groups (R21 to R25) -/

/-- Bit `p` of an n-bit code. -/
def codeBit (n p : Nat) (c : Int) : Bool := (unsx n c).testBit p

/-- Rows dealt out to `g` groups of at most one row's difference, the larger first (R24). -/
def deal (g : Nat) (rows : List Nat) : List (List Nat) :=
  let c := rows.length
  let hi := (c + g - 1) / g
  let lo := c / g
  (List.range g).map fun i =>
    let start := if i ≤ c % g then i * hi else (c % g) * hi + (i - c % g) * lo
    (rows.drop start).take (if i < c % g then hi else lo)

/-- Rows of GMAX code `g` (Table 1-3). -/
def gmaxRows (g : Nat) : Nat := 16 * 2 ^ g

/-- Active rows of each main bit plane, most significant first (R21). -/
def mainPlanes (n : Nat) (codes : List Int) : List (Nat × List Nat) :=
  (List.range n).reverse.map fun p =>
    (p, (codes.mapIdx fun r c => (r, c)).filterMap fun x => if codeBit n p x.2 then some x.1 else none)

/-- Active rows of the four outlier bit planes (R22). -/
def outlPlanes (l : List (Nat × Int)) : List (Nat × List Nat) :=
  [3, 2, 1, 0].map fun p =>
    (p, (List.range 128).filter fun r => l.any fun e => e.1 == r && codeBit 4 p e.2)

/-- The row groups that the detector finds from bit plane to bit plane, `e` empty planes having been passed on the way; and the empty planes after the last group (R22 to R24). -/
def groupsFrom (gmax n : Nat) : Nat → List (Nat × List Nat × Bool) → List Grp × Nat
  | e, [] => ([], e)
  | e, (p, rows, outl) :: r =>
    if rows.isEmpty then groupsFrom gmax n (e + 1) r
    else
      let k := if outl then 1 else (rows.length + gmaxRows gmax - 1) / gmaxRows gmax
      let z := groupsFrom gmax n 0 r
      ((deal k rows).mapIdx (fun i x =>
        ⟨x, p, outl, if outl then p == 3 else p + 1 == n, if i = 0 then e else 0, i == 0 && decide (2 ≤ k)⟩) ++ z.1, z.2)

/-- The row groups of an operation in order, and the empty planes after them (R22 to R24). -/
def planOf (n gmax : Nat) (main outl : List (Nat × List Nat)) : List Grp × Nat :=
  groupsFrom gmax n 0 (main.map (fun x => (x.1, x.2, false)) ++ outl.map fun x => (x.1, x.2, true))

/-- The detector counts up to the next group: the empty planes it passes, and the plane it divides (R23). -/
def State.countGroups (s : State) (t : Site) (plan : List Grp) (tail : Nat) : State :=
  match plan with
  | [] => s.bump (R.EMPTY_PLANE_CNT t.val) tail
  | g :: _ => (s.bump (R.EMPTY_PLANE_CNT t.val) g.empt).bump (R.SPLIT_CNT t.val) g.split.toNat

/-! ### LOAD (R18, R19, R25, R28, R30, R31, R139, R354) -/

/-- The physical plane of a slot on array `a` (R354). -/
def State.physPlane (s : State) (t : Site) (a : ArrIx) (slot : Bool) : Bool :=
  slot ^^ (s.get (R.PSWAP_PSWAP t.val)).testBit a.val

/-- Weight code, gain and lock of a physical plane (R18, R19). -/
def State.pcode (s : State) (t : Site) (a : ArrIx) (p : Bool) : Nat :=
  s.get (if p then R.ARRCFG_PCODE1 t.val a.val else R.ARRCFG_PCODE0 t.val a.val)
/-- Gain of a physical plane. -/
def State.pgain (s : State) (t : Site) (a : ArrIx) (p : Bool) : Nat :=
  s.get (if p then R.ARRCFG_GAIN1 t.val a.val else R.ARRCFG_GAIN0 t.val a.val)
/-- The lock field of a physical plane. -/
def plockF (t : Site) (a : ArrIx) (p : Bool) : FRef :=
  if p then R.ARRSTAT_PLOCK1 t.val a.val else R.ARRSTAT_PLOCK0 t.val a.val

/-- A plane is unavailable while locked or EMPTY (R19). -/
def State.planeOut (s : State) (t : Site) (a : ArrIx) (p : Bool) : Bool :=
  s.get (plockF t a p) == 1 || s.pcode t a p == 3

/-- A trim of point `k` in a trim store: as shipped, or as a calibration run measured it (R418, R419). -/
def CalSet.trim (c : CalSet) (sector k place : Nat) : Int :=
  match c.src.getD k none with
  | none => Config.factoryTrim sector k place
  | some run => Config.calTrim run sector place

/-- The active trim between two points: f in 1/256, rounded to nearest, ties to even, clamped to its field (R420). -/
def lerpTrim (lo hi a b : Int) (f : Nat) : Int :=
  let n := 256 * a + (f : Int) * (b - a)
  let q := Int.fdiv n 256
  let r := n - 256 * q
  clampInt lo hi (if r < 128 ∨ (r = 128 ∧ q % 2 = 0) then q else q + 1)

/-- The trims that CAL_W and the trim store give for an array take effect (R28, R419, R420); before a store is loaded nothing changes. -/
def State.takeTrims (s : State) (t : Site) (a : ArrIx) : State :=
  let n := t.val / 9
  match sget none s.pw.trims n with
  | none => s
  | some c =>
    let k := s.get (R.CAL_W_K n)
    let f := s.get (R.CAL_W_F n)
    let base := (t.val % 9 * 64 + a.val) * 529
    let at_ (lo hi : Int) (i : Nat) : Int := lerpTrim lo hi (c.trim n k (base + i)) (c.trim n (k + 1) (base + i)) f
    let o := (List.range 524).foldl (fun (m : Sparse Int) col => sset 0 m col (at_ (-32) 31 (1 + col))) []
    (s.put (R.ARRCAL_GTRIM t.val a.val) (at_ 0 4095 0).toNat).onTile t fun x => x.onCtl a.val fun c => { c with otrim := o }

/-- LOAD of an operation with row groups `plan` on array `a` (R28, R30, R38, R47); GMAX capped and gain forced under R25. It is the operation in progress, or the next one when another's conversions are in progress (R30). -/
def State.enterOp (s : State) (t : Site) (a : ArrIx) (id : Nat) (test : Option TestOp) (phys : Bool) (dcol e8 : Nat)
    (n gmaxReq : Nat) (main outl : List (Nat × List Nat)) : State :=
  let cap := s.get (R.ASEQ_CTL_GMAX_CAP t.val)
  let g := min gmaxReq cap
  let refRow := match test with | some o => o.codes.isSome | none => false
  let gain := if refRow then 0 else s.pgain t a phys
  let force := !refRow && g == 3 && gain == 0
  let s := s.bumpEvt (R.GMAX_CAP_CNT t.val) (R.ASEQ_EVT_GMAX_CAPPED t.val) (if cap < gmaxReq then 1 else 0)
  let s := s.bumpEvt (R.GAIN_FORCE_CNT t.val) (R.ASEQ_EVT_GAIN_FORCE t.val) force.toNat
  let plan := planOf n g main outl
  let s := (s.countGroups t plan.1 plan.2).takeTrims t a
  let op : ArrOp :=
    { id := id, test := test, dcol := dcol, e8 := e8, plane := phys, wcode := s.pcode t a phys,
      reduced := gain == 1 || force, rerun := s.get (R.ASEQ_CTL_RERUN_EN t.val) == 1,
      chk := !refRow && s.get (R.ASEQ_CTL_CHK_EN t.val) == 1, tol := s.get (R.ASEQ_CTL_CHKTOL t.val),
      spares := s.spares t a, plan := plan.1, tail := plan.2, gtrim := s.get (R.ARRCAL_GTRIM t.val a.val), otrim := ((s.tile t).ctl a.val).otrim
      orig := none, half := none, lim := List.replicate 524 false,
      narrow := List.replicate 524 0, m := 0, parts := 0, pLast := none, vecOut := false, wide := List.replicate 524 0 }
  s.onTile t fun x => x.onCtl a.val fun c =>
    if c.op.isSome then { c with nxt := some op, loadAt := s.now, last := phys }
    else { c with st := if !refRow then .load else if plan.1.isEmpty then .drain else .test, op := some op, loadAt := s.now, last := phys }

/-- The operation waiting behind the one that ends becomes the one in progress (R30, Table 1-10). -/
def ArrCtl.advance (c : ArrCtl) : ArrCtl := { c with st := if c.nxt.isSome then .load else .idle, op := c.nxt, nxt := none }

/-- Whether an array may accept a further operation: idle, or with the conversions of one operation in progress and none behind it (R30). -/
def ArrCtl.accepts (c : ArrCtl) : Bool :=
  c.nxt.isNone && (c.st == .idle || ((c.st == .load || c.st == .conv || c.st == .rerun) && c.op.isSome))

/-- The arrays a mask names, in rising order. -/
def maskArrays (mask : Nat) : List ArrIx := (List.finRange 64).filter fun a => mask.testBit a.val

/-- An array refuses to drive an unavailable plane: counted and reported (R19). -/
def State.refuseDrive (s : State) (t : Site) (a : ArrIx) (phys : Bool) : State :=
  ((s.bumpEvt (R.PLOCK_CNT t.val) (R.ASEQ_EVT_PLANE_LOCKED t.val)).fault 0x01 t.val (array := a.val)
    (wplane := phys)).onTile t fun x => x.onCtl a.val fun c => { c with last := phys }

/-- A named array refuses an ARR.MVM; the work of its tile fails, and Enara firmware ends the request that owns it (R19; log entry 40). -/
def State.refusePlane (s : State) (t : Site) (a : ArrIx) (phys : Bool) : State := (s.refuseDrive t a phys).emit (.tileWork t stFAULT)

/-- What an ARR.MVM reads at acceptance: the record, the codes, the E8 byte, the outlier entries; none when an access was dropped (R60, R69, R86, R139). -/
def State.fetchOp (s : State) (t : Site) (desc ca ea oa blk : Nat) :
    State × Option (QRec × List Int × Nat × List (Nat × Int) × Bool) :=
  let r0 := s.spLoad t 5 desc 16
  match r0.2 with
  | none => (r0.1, none)
  | some rb =>
    let q := qrec rb
    let r1 := r0.1.spLoad t 5 (ca + blk * 16 * q.n) (16 * q.n)
    match r1.2 with
    | none => (r1.1, none)
    | some cb =>
      let r2 := r1.1.spLoad t 5 (ea + blk) 1
      match r2.2 with
      | none => (r2.1, none)
      | some eb =>
        let cap := ocapN q.ocap
        let r3 := r2.1.spLoad t 5 (oa + blk * 2 * cap) (2 * cap)
        match r3.2 with
        | none => (r3.1, none)
        | some ob =>
          (r3.1, some (q, blockCodes q.trn q.n cb, leNat eb, outlierEntries ob, q.trn && blockBadTrn cb))

/-- The entry at the head of a queue that met SP_OWNER or a late address check: aborted, counted as complete (R147). -/
def State.abortHead (s : State) (t : Site) (q : Nat) (e : QEntry) (c : Cause) : State :=
  (s.vcExc t c e.pc e.ord).onTile t fun x => x.popQueue q .free

/-- A physical plane that known-sum tests may use: its slot ACTIVE, DRAINING or STAGED with EXP_VALID, unlocked and not EMPTY, on a mapped site (R434). -/
def State.ksMay (s : State) (t : Site) (a : ArrIx) (p : Bool) : Bool :=
  let k := (s.physPlane t a p).toNat
  decide (slSTAGED ≤ s.slotSt k) && s.get (R.SLOT_EXP_VALID k) == 1 && !s.planeOut t a p && (s.logicalOf t.val).isSome

/-- The plane that comes next in the rotation of an array's tests, if any may be used (R434). -/
def State.ksNext (s : State) (t : Site) (a : ArrIx) : Option Bool :=
  let last := ((s.tile t).ctl a.val).ksPlane
  [!last, last].find? fun p => s.ksMay t a p

/-- In SCHEDULED mode a due test that has not begun waits while an operation is queued for its array, until a further 2^KS_LOG operations have completed (R481, row O of Table 16-3). -/
def State.testHeld (s : State) (t : Site) (a : ArrIx) : Bool :=
  let x := s.tile t
  let c := x.ctl a.val
  let n := 2 ^ s.get R.FLT_CTL_KS_LOG
  s.get R.LAT_STAT_MODE == 1 &&
    (x.qArr.ents.any fun e => match e.op with
      | .arrMvm _ _ _ _ mask _ _ _ _ _ _ _ _ => (maskArrays mask).contains a
      | _ => false) &&
    match c.due with
    | o :: _ => o.rep.isNone && o.firstHalf.isNone && decide (c.ops < o.since + n)
    | [] => decide (c.ksCnt < 2 * n)

/-- An array has a test to run before its next queued operation, or one to be judged (R434, R436, R439, R441, R481). -/
def State.testDue (s : State) (t : Site) (a : ArrIx) : Bool :=
  let c := (s.tile t).ctl a.val
  c.res.isSome || (!s.testHeld t a && (!c.due.isEmpty ||
    (s.get R.FLT_CTL_TEST != 0 && decide (2 ^ s.get R.FLT_CTL_KS_LOG ≤ c.ksCnt) && (s.ksNext t a).isSome)))

/-- Every row of every group is done. -/
def ProgRun.over (p : ProgRun) : Bool := p.grps.all fun g => decide (132 ≤ g.row)

/-- A job programs this array now, or no spare is being programmed (R386). -/
def State.progTurn (s : State) (t : Site) (a : ArrIx) (plane : Bool) : Bool :=
  match s.ws.jobs.find? fun j => j.what == .spare && !j.batch.isEmpty with
  | some j => j.batch.any fun b => b.1 == 2 * t.val + plane.toNat && b.2.arr == a.val
  | none => true

/-- A programming slot is pending on an array (R20). -/
def State.slotPending (s : State) (t : Site) (a : ArrIx) : Bool :=
  match ((s.tile t).ctl a.val).prog with | some p => s.progTurn t a p.plane && !p.over | none => false

/-- PROG_SHARE operations, the one in progress among them, have run on an array while a slot was pending, which goes before the next (R20). -/
def State.slotFirst (s : State) (t : Site) (a : ArrIx) : Bool :=
  let c := (s.tile t).ctl a.val
  s.slotPending t a && decide (s.get (R.ASEQ_CTL_PROG_SHARE t.val) ≤ c.share + c.op.isSome.toNat)

/-- An ARR.MVM that names array `a` is queued, or is the next on it (R20). -/
def Tile.queuedFor (x : Tile) (a : ArrIx) : Bool :=
  (x.ctl a.val).nxt.isSome || x.qArr.ents.any fun e => match e.op with
    | .arrMvm _ _ _ _ mask _ _ _ _ _ _ _ _ => mask.testBit a.val
    | _ => false

/-- The blocks that an ARR.MVM reads were left unquantised by FAIL: nothing is issued for them (R72). -/
def Tile.unquantised (x : Tile) (ca blk : Nat) : Bool := x.unq.contains (ca, blk)

/-- The parts of the accesses by which an ARR.MVM reads its block (R103). -/
def mvmWords (desc ca ea oa blk n cap : Nat) : List (Nat × Nat) :=
  spWords desc 16 ++ spWords (ca + blk * 16 * n) (16 * n) ++ spWords (ea + blk) 1 ++ spWords (oa + blk * 2 * cap) (2 * cap)

/-- LOAD of the ARR.MVM at the head of the ARR queue, once ASEQ_CTL.ENABLE stands, the issue gate is open (R404), and every array it names may accept it with no test and no programming slot to go first (R20, R30, R31, R47, R139, R434). On a block that FAIL left unquantised it issues nothing (R72). -/
def execArrayOperationLoad (t : Site) (s : State) : Res State :=
  .next (
    let x := s.tile t
    match x.qArr.ents with
    | e :: _ =>
      match e.op with
      | .arrMvm desc ca ea oa mask blk slot gmax fmt nm2 ocap efb dcol =>
        let arrs := maskArrays mask
        if !(x.awake && x.qArr.head == .free && s.get (R.ASEQ_CTL_ENABLE t.val) == 1 && s.gateOpen t &&
            arrs.all (fun a => (x.ctl a.val).accepts && !s.testDue t a && !s.slotFirst t a)) then s
        else if x.unquantised ca blk then s.onTile t fun x => x.popQueue 0 .free
        else
          let hdr := qrec (s.spBytes t desc 16)
          s.awake t 5 (mvmWords desc ca ea oa blk hdr.n (ocapN hdr.ocap)) fun s =>
          let r := s.fetchOp t desc ca ea oa blk
          match r.2 with
          | none => r.1.abortHead t 0 e .spOwner
          | some (q, codes, e8, outl, bad) =>
            let differs := fmt != (if q.trn then 9 else 8) || (!q.trn && nm2 + 2 != q.n) || ocap != q.ocap || efb != q.efb
            let s := if q.fix || bad || differs then r.1.bump (R.QREC_FIX t.val) else r.1
            let id := x.seq
            let main := mainPlanes q.n codes
            let outp := if outl.isEmpty then [] else outlPlanes outl
            let run := arrs.filter fun a => !s.planeOut t a (s.physPlane t a slot)
            let s := s.onTile t fun x =>
              { x.popQueue 0 .free with
                seq := id + 1, live := if run.isEmpty then x.live else x.live ++ [(id, run.length)] }
            s.each arrs fun s a =>
              let p := s.physPlane t a slot
              if s.planeOut t a p then s.refusePlane t a p
              else s.enterOp t a id none p dcol e8 q.n gmax main outp
      | _ => s
    | [] => s)

/-! ### Conversions (R29, R32 to R37, R42, R43) -/

/-- The promotion of the run into the wide accumulators (R37). -/
def ArrOp.promote (op : ArrOp) : ArrOp :=
  match op.pLast with
  | some p =>
    let f : Int := 2 ^ (p + (if op.vecOut then 4 else 0)) * (if op.reduced then 2 else 1)
    { op with
      wide := List.zipWith (fun w n => w + n * f) op.wide op.narrow, narrow := List.replicate 524 0, m := 0, parts := 0, pLast := none }
  | none => op

/-- A group's partial enters the narrow adders, the run being promoted first where R37 says so. -/
def ArrOp.addPartial (op : ArrOp) (g : Grp) (part : List Int) : ArrOp :=
  let op := if g.outl && !op.vecOut then { op.promote with vecOut := true } else op
  let part := if g.top then part.map (fun c => -c) else part
  let d (o : ArrOp) : Nat := match o.pLast with | some q => q - g.p | none => 0
  let op := if op.parts = 8 ∨ 127 < op.m * 2 ^ d op + 1 then op.promote else op
  { op with
    narrow := List.zipWith (fun n c => n * 2 ^ d op + c) op.narrow part, m := op.m * 2 ^ d op + 1,
            parts := op.parts + 1, pLast := some g.p }

/-- The checksum check of one conversion (R42, R43). The fault event names bit plane p of an outlier plane by p alone (DESIGN CHOICE, log entry 86). -/
def State.checkCodes (s : State) (t : Site) (a : ArrIx) (op : ArrOp) (g : Grp) (codes : List Int) : State :=
  if !op.chk then s
  else s.each (List.range 4) fun s k =>
    let data := (codes.drop (128 * k)).take 128
    let chk := codes.getD (520 + k) 0
    if data.any atLimit || atLimit chk then s.bump (R.CHK_SKIP_CNT t.val)
    else if (data.sum - 16 * chk).natAbs ≤ op.tol then s
    else ((s.bumpEvt (R.CHK_FAIL_CNT t.val) (R.ASEQ_EVT_CHK_FAIL t.val)).bump (R.ARRERR_CHKF_A t.val a.val)).fault 0x02
      t.val (array := a.val) (group := k) (bitplane := g.p) (wplane := op.plane)

/-- Column saturation events of an array (R34, R35). -/
def State.colsat (s : State) (t : Site) (a : ArrIx) (n : Nat) : State :=
  (s.bumpEvt (R.COLSAT_CNT t.val) (R.ASEQ_EVT_COLSAT t.val) n).bump (R.ARRERR_COLSAT_A t.val a.val) n

/-- Whether each column's partial is that of a SAT column: data columns by their code, a spare by the column it stands in for (R32). -/
def satCols (op : ArrOp) (codes : List Int) : List Bool :=
  let data := (codes.take 512).map atLimit
  data ++ (op.spares.map fun e => match e with | some j => data.getD j false | none => false) ++ List.replicate 4 false

/-- The controller with operation `op` whose head group is done. -/
def ArrCtl.nextGroup (c : ArrCtl) (op : ArrOp) : ArrCtl :=
  let op := { op with plan := op.plan.tail, orig := none, half := none }
  let running : ArrState := match op.test with | some o => if o.codes.isSome then .test else .conv | none => .conv
  { c with op := some op, st := if op.plan.isEmpty then .drain else running }

/-- A reference-row test stays in TEST through a re-run (Table 1-10). -/
def ArrOp.rerunSt (op : ArrOp) : ArrState := match op.test with | some o => if o.codes.isSome then .test else .rerun | none => .rerun

/-- One conversion on array `a` (R29): of the next group, or of the half that a re-run is at (R33). -/
def execConversion (t : Site) (a : ArrIx) (s : State) : Res State :=
  .next (
    if (s.tile t).clkOff then s else
    let c := (s.tile t).ctl a.val
    match c.op with
    | none => s
    | some op =>
      match op.plan with
      | [] => s
      | g :: _ =>
        if !(c.st == .load || c.st == .conv || c.st == .rerun || c.st == .test) then s
        else
          let m := (g.rows.length + 1) / 2
          let rows := match op.orig, op.half with
            | none, _ => g.rows
            | some _, none => g.rows.take m
            | some _, some _ => g.rows.drop m
          let codes := s.codesOf t a op rows
          let op := { op with lim := List.zipWith (fun l x => l || atLimit x) op.lim codes }
          let s := ((((s.draw 528).spend t pjConversion).bump (R.CONV_CNT t.val)).checkCodes t a op g codes)
          let put (s : State) (f : ArrCtl → ArrCtl) : State := s.onTile t fun x => x.onCtl a.val f
          match op.orig, op.half with
          | none, _ =>
            let sat := satCols op codes
            let n := ((sat.take 512).filter id).length
            if n ≠ 0 && op.rerun && decide (2 ≤ g.rows.length) then
              put (s.bump (R.RERUN_CNT t.val)) fun c => { c with st := op.rerunSt, op := some { op with orig := some codes } }
            else put ((s.colsat t a n).countGroups t op.plan.tail op.tail) fun c => c.nextGroup (op.addPartial g codes)
          | some _, none => put s fun c => { c with op := some { op with half := some codes } }
          | some o, some h =>
            let sat := satCols op o
            let n := ((List.range 512).filter fun j =>
              sat.getD j false && (atLimit (h.getD j 0) || atLimit (codes.getD j 0))).length
            let part := (List.range 524).map fun j =>
              if sat.getD j false then h.getD j 0 + codes.getD j 0 else o.getD j 0
            put ((s.colsat t a n).countGroups t op.plan.tail op.tail) fun c => c.nextGroup (op.addPartial g part))

/-! ### The final promotion (R30, R37, R38, R85, R87) -/

/-- The controller is in DRAIN, or in LOAD with no bit plane to convert (Table 1-10). -/
def ArrCtl.draining (c : ArrCtl) (op : ArrOp) : Bool := c.st == .drain || (c.st == .load && op.plan.isEmpty)

/-- The final promotion: the wide accumulator passes to the edge output buffer once that is empty, or, for a test, to the fault engine (R85, R87, R435). -/
def execArrayOperationDrain (t : Site) (a : ArrIx) (s : State) : Res State :=
  .next (
    if (s.tile t).clkOff then s else
    let c := (s.tile t).ctl a.val
    match c.op with
    | none => s
    | some op =>
      if !c.draining op then s
      else
        let w := op.promote.wide
        match op.test with
        | some o =>
          let s := s.bump (R.OP_CNT t.val)
          let s := if o.fleet.isNone && o.codes.isSome then s else s.bump R.KS_TEST_CNT
          let s := s.onTile t fun x => x.onCtl a.val fun c =>
            { c.advance with res := if o.fleet.isNone && o.codes.isSome then c.res else some ⟨o, w, op.lim, if op.reduced then 2 else 1⟩ }
          if o.fleet.isNone && o.codes.isSome then s.emit (.test t a (w.take 512)) else s
        | none =>
          if c.edge.isSome then s
          else
            let k := (s.slotPending t a).toNat
            (s.bump (R.OP_CNT t.val)).onTile t fun x => x.onCtl a.val fun c =>
              { c.advance with
                edge := some ⟨op.id, op.dcol, op.e8, w.take 512⟩, share := c.share + k, ksCnt := c.ksCnt + 1, ops := c.ops + 1 })

/-! ### Reference-row tests (R44) -/

/-- The rows of a reference-row test: element i of the vector drives row 128 + i. -/
def refPlanes (codes : List Int) : List (Nat × List Nat) :=
  [3, 2, 1, 0].map fun p =>
    (p, (List.range 4).filterMap fun i => if codeBit 4 p (codes.getD i 0) then some (128 + i) else none)

/-- A reference-row test enters an IDLE array of a tile that is not fenced, at W4 NORMAL gain (R44, R45); it is the fleet test that heads the array's due tests when plane and codes are its own, and any other asks for GMAX 128 (DESIGN CHOICE, log entry 86). It waits for ASEQ_CTL.ENABLE (R47); an unavailable plane is not driven, and the test is not made (R19). -/
def execReferenceRowTest (t : Site) (a : ArrIx) (plane : Bool) (codes : List Int) (s : State) : Res State :=
  .next (
    let c := (s.tile t).ctl a.val
    if c.st ≠ .idle ∨ (s.tile t).awake = false ∨ s.get (R.ASEQ_CTL_ENABLE t.val) = 0 ∨
        ((c.due.head?.any fun o => o.codes == some codes && o.plane == plane) && s.testHeld t a) then s
    else
      let plain : TestOp := ⟨none, 0, some codes, plane, 3, none, none, 0⟩
      let r : TestOp × List TestOp := match c.due with
        | o :: rest => if o.codes = some codes ∧ o.plane = plane then (o, rest) else (plain, c.due)
        | [] => (plain, [])
      let s := s.onTile t fun x => x.onCtl a.val fun c => { c with due := r.2 }
      if s.planeOut t a plane then s.refuseDrive t a plane
      else s.enterOp t a 0 (some r.1) plane 0 0 4 r.1.gmax (refPlanes codes) [])

end Sys2Proof.Machine
end

