-- ==== Sys2Proof/Machine/Crypto.lean ====
section
/-! DEFINITION. The cryptographic functions that the spec names by their standards (R5, R365, R366, R458, R461, R468): SHA-384, HMAC and HKDF, AES-256 with GCM, key unwrapping and CTR_DRBG, and ECDSA and ECDH on brainpoolP384r1. PRESUMED: the algorithms and constants are those of the standards (log entry 81). -/

namespace Sys2Proof.Machine

open Sys2Proof

/-- Big-endian value of bytes. -/
def beNat (bs : List Byte) : Nat := bs.foldl (fun n b => 256 * n + b.toNat) 0

/-- `n` bytes of `v`, big-endian. -/
def beBytes (n v : Nat) : List Byte := (leBytes n v).reverse

/-- Blocks of `n` bytes, the last one filled with zeros. -/
def blocksOf (n : Nat) (bs : List Byte) : List (List Byte) :=
  (List.range ((bs.length + n - 1) / n)).map fun i => let b := (bs.drop (n * i)).take n; b ++ List.replicate (n - b.length) 0

/-- The bytes of `a` exclusive-ored with those of `b`. -/
def xorBytes (a b : List Byte) : List Byte := (List.range a.length).map fun i => a.getD i 0 ^^^ b.getD i 0

/-! ### SHA-384 (FIPS 180-4), HMAC (FIPS 198-1), HKDF (RFC 5869) -/

/-- The first 64 bits of the fraction of the `r`-th root of `p`, for roots below 64. -/
def rootFrac (r p : Nat) : BitVec 64 :=
  BitVec.ofNat 64 ((List.range 70).foldl (fun x i => let y := x + 2 ^ (69 - i); if y ^ r ≤ p * 2 ^ (64 * r) then y else x) 0)

/-- The first 80 prime numbers. -/
def primes80 : List Nat := (List.range 410).filter fun n => decide (2 ≤ n) && (List.range n).all fun d => decide (d < 2) || n % d != 0

/-- The 80 constants of SHA-384, from the cube roots of the first 80 primes. -/
def shaK : List (BitVec 64) := primes80.map (rootFrac 3)

/-- The initial value of SHA-384, from the square roots of the ninth to sixteenth primes. -/
def shaInit : List (BitVec 64) := ((primes80.drop 8).take 8).map (rootFrac 2)

/-- The message schedule of a block of 128 bytes. -/
def shaSchedule (blk : List Byte) : List (BitVec 64) :=
  (List.range 64).foldl (fun w i =>
    let x := w.getD (i + 1) 0
    let y := w.getD (i + 14) 0
    w ++ [(y.rotateRight 19 ^^^ y.rotateRight 61 ^^^ y >>> 6) + w.getD (i + 9) 0 +
      (x.rotateRight 1 ^^^ x.rotateRight 8 ^^^ x >>> 7) + w.getD i 0])
    ((List.range 16).map fun i => BitVec.ofNat 64 (beNat ((blk.drop (8 * i)).take 8)))

/-- One round: the eight working variables with the round's constant and message word added up in `kw`. -/
def shaRound (v : List (BitVec 64)) (kw : BitVec 64) : List (BitVec 64) :=
  match v with
  | [a, b, c, d, e, f, g, h] =>
    let t1 := h + (e.rotateRight 14 ^^^ e.rotateRight 18 ^^^ e.rotateRight 41) + ((e &&& f) ^^^ ((~~~e) &&& g)) + kw
    let t2 := (a.rotateRight 28 ^^^ a.rotateRight 34 ^^^ a.rotateRight 39) + ((a &&& b) ^^^ (a &&& c) ^^^ (b &&& c))
    [t1 + t2, a, b, c, d + t1, e, f, g]
  | v => v

/-- The hash value after one more block. -/
def shaBlock (h : List (BitVec 64)) (blk : List Byte) : List (BitVec 64) :=
  List.zipWith (· + ·) h ((List.zipWith (· + ·) shaK (shaSchedule blk)).foldl shaRound h)

/-- SHA-384 of a message, 48 bytes (R5). -/
@[irreducible] def sha384 (m : List Byte) : List Byte :=
  let padded := m ++ 0x80 :: List.replicate (127 - (m.length + 16) % 128) 0 ++ beBytes 16 (8 * m.length)
  (((blocksOf 128 padded).foldl shaBlock shaInit).take 6).flatMap fun x => beBytes 8 x.toNat

/-- HMAC-SHA-384. -/
def hmac384 (key m : List Byte) : List Byte :=
  let k := if 128 < key.length then sha384 key else key
  let pad (c : Byte) : List Byte := (k ++ List.replicate (128 - k.length) 0).map fun b => b ^^^ c
  sha384 (pad 0x5C ++ sha384 (pad 0x36 ++ m))

/-- HKDF-SHA-384 with a salt of 48 zero bytes, for `n` bytes, at most 48 (R365, R461). -/
def hkdf384 (ikm info : List Byte) (n : Nat) : List Byte :=
  (hmac384 (hmac384 (List.replicate 48 0) ikm) (info ++ [1])).take n

/-! ### AES-256 (FIPS 197) -/

/-- Multiplication by x in the field of 256 elements. -/
def xtime (a : Byte) : Byte := a <<< 1 ^^^ (if a.getLsbD 7 then 0x1B else 0)

/-- Multiplication in the field of 256 elements. -/
def gmul (a b : Byte) : Byte :=
  (List.range 8).foldl (fun r i => xtime r ^^^ (if b.getLsbD (7 - i) then a else 0)) 0

/-- The inverse in the field of 256 elements, 0 for 0: the power 254. -/
def ginv (a : Byte) : Byte := (List.range 7).foldl (fun r _ => gmul (gmul r r) a) 1 |> fun r => gmul r r

/-- The substitution of one byte. -/
def subByte (a : Byte) : Byte :=
  let b := ginv a
  b ^^^ b.rotateLeft 1 ^^^ b.rotateLeft 2 ^^^ b.rotateLeft 3 ^^^ b.rotateLeft 4 ^^^ 0x63

/-- The substitution undone. -/
def unsubByte (a : Byte) : Byte := ginv (a.rotateLeft 1 ^^^ a.rotateLeft 3 ^^^ a.rotateLeft 6 ^^^ 0x05)

/-- The 60 words of the key schedule. -/
def aesWords (key : List Byte) : List (List Byte) :=
  (List.range 52).foldl (fun w j =>
    let t := w.getD (j + 7) []
    let t := if j % 8 = 0 then
        xorBytes ((t.drop 1 ++ t.take 1).map subByte) [(List.range (j / 8)).foldl (fun c _ => xtime c) 1, 0, 0, 0]
      else if j % 8 = 4 then t.map subByte else t
    w ++ [xorBytes (w.getD j []) t])
    ((List.range 8).map fun i => (key.drop (4 * i)).take 4)

/-- Key `r` of the rounds. -/
def roundKey (w : List (List Byte)) (r : Nat) : List Byte := ((w.drop (4 * r)).take 4).flatten

/-- The rows of a block shifted, by `n` = 1 to the left or 3 to the right, a byte of row r being at r + 4 times its column. -/
def shiftRows (n : Nat) (x : List Byte) : List Byte :=
  (List.range 16).map fun i => x.getD (i % 4 + 4 * ((i / 4 + n * (i % 4)) % 4)) 0

/-- The columns of a block multiplied by the circulant matrix with this first row. -/
def mixColumns (m x : List Byte) : List Byte :=
  (List.range 16).map fun i =>
    (List.range 4).foldl (fun r k => r ^^^ gmul (m.getD ((k + 4 - i % 4) % 4) 0) (x.getD (4 * (i / 4) + k) 0)) 0

/-- AES-256 of one block. -/
def aesEnc (key blk : List Byte) : List Byte :=
  let w := aesWords key
  let x := (List.range 13).foldl (fun x r =>
    xorBytes (mixColumns [2, 3, 1, 1] (shiftRows 1 (x.map subByte))) (roundKey w (r + 1))) (xorBytes blk (roundKey w 0))
  xorBytes (shiftRows 1 (x.map subByte)) (roundKey w 14)

/-- AES-256 of one block undone. -/
def aesDec (key blk : List Byte) : List Byte :=
  let w := aesWords key
  let x := (List.range 13).foldl (fun x r =>
    mixColumns [14, 11, 13, 9] (xorBytes ((shiftRows 3 x).map unsubByte) (roundKey w (13 - r)))) (xorBytes blk (roundKey w 14))
  xorBytes ((shiftRows 3 x).map unsubByte) (roundKey w 0)

/-! ### AES-256-GCM (SP 800-38D) and key unwrapping (RFC 3394) -/

/-- Multiplication in the field of GCM, the first bit of a block the most significant. -/
def gcmMul (x h : BitVec 128) : BitVec 128 :=
  ((List.range 128).foldl (fun (zv : BitVec 128 × BitVec 128) i =>
    (if x.getMsbD i then zv.1 ^^^ zv.2 else zv.1,
      zv.2 >>> 1 ^^^ (if zv.2.getLsbD 0 then BitVec.ofNat 128 (0xE1 * 2 ^ 120) else 0))) (0, h)).1

/-- GHASH under `h`. -/
def ghash (h : BitVec 128) (bs : List Byte) : BitVec 128 :=
  (blocksOf 16 bs).foldl (fun y b => gcmMul (y ^^^ BitVec.ofNat 128 (beNat b)) h) 0

/-- The tag of GCM for a 96-bit IV. -/
def gcmTag (key iv aad ct : List Byte) : List Byte :=
  let h := BitVec.ofNat 128 (beNat (aesEnc key (List.replicate 16 0)))
  let s := ghash h ((blocksOf 16 aad).flatten ++ (blocksOf 16 ct).flatten ++ beBytes 8 (8 * aad.length) ++ beBytes 8 (8 * ct.length))
  xorBytes (beBytes 16 s.toNat) (aesEnc key (iv ++ beBytes 4 1))

/-- AES-256-GCM opening: none when the tag fails (R366). -/
@[irreducible] def gcmOpen (key iv aad ct tag : List Byte) : Option (List Byte) :=
  if gcmTag key iv aad ct = tag then
    some (xorBytes ct ((List.range ((ct.length + 15) / 16)).flatMap fun i => aesEnc key (iv ++ beBytes 4 (i + 2))))
  else none

/-- The 32 bytes in a field of 40 wrapped under a key-encryption key, none when the integrity check fails (R365). -/
def aesUnwrap (kek wrapped : List Byte) : Option (List Byte) :=
  let a := (List.range 24).foldl (fun (x : List Byte × List (List Byte)) k =>
    let i := 3 - k % 4
    let b := aesDec kek (xorBytes x.1 (beBytes 8 (24 - k)) ++ x.2.getD i [])
    (b.take 8, x.2.set i (b.drop 8))) (wrapped.take 8, (List.range 4).map fun i => (wrapped.drop (8 * (i + 1))).take 8)
  if wrapped.length = 40 ∧ a.1 = List.replicate 8 0xA6 then some a.2.flatten else none

/-! ### CTR_DRBG with AES-256 and derivation function (SP 800-90A) -/

/-- A keyed chain over blocks of 16 bytes. -/
def bcc (key bs : List Byte) : List Byte := (blocksOf 16 bs).foldl (fun c b => aesEnc key (xorBytes c b)) (List.replicate 16 0)

/-- The derivation function: 48 bytes from bytes of any number. -/
def drbgDf (input : List Byte) : List Byte :=
  let s := beBytes 4 input.length ++ beBytes 4 48 ++ input ++ [0x80]
  let key := (List.range 32).map (BitVec.ofNat 8)
  let t := (List.range 3).flatMap fun i => bcc key (beBytes 4 i ++ List.replicate 12 0 ++ s)
  let x1 := aesEnc (t.take 32) (t.drop 32)
  let x2 := aesEnc (t.take 32) x1
  x1 ++ x2 ++ aesEnc (t.take 32) x2

/-- `n` blocks of the generator's counter mode after V. -/
def drbgBlocks (d : Drbg) (n : Nat) : List Byte :=
  (List.range n).flatMap fun i => aesEnc (beBytes 32 d.key.toNat) (beBytes 16 ((d.v.toNat + 1 + i) % 2 ^ 128))

/-- Key and V updated with 48 bytes, V having moved by `n` blocks before. -/
def drbgUpdate (d : Drbg) (n : Nat) (data : List Byte) : Drbg :=
  let d' := { d with v := d.v + BitVec.ofNat 128 n }
  let t := xorBytes (drbgBlocks d' 3) data
  { d' with key := BitVec.ofNat 256 (beNat (t.take 32)), v := BitVec.ofNat 128 (beNat (t.drop 32)) }

/-- The generator instantiated from entropy (R468). -/
@[irreducible] def drbgSeed (entropy : List Byte) : Drbg := { drbgUpdate Drbg.init 0 (drbgDf entropy) with count := 0 }

/-- The generator reseeded from entropy (R468). -/
@[irreducible] def drbgReseed (d : Drbg) (entropy : List Byte) : Drbg := { drbgUpdate d 0 (drbgDf entropy) with count := 0 }

/-- A request of `n` bytes, at most 48: the bytes, and the generator after it (R468). -/
@[irreducible] def drbgRequest (d : Drbg) (n : Nat) : List Byte × Drbg :=
  let k := (n + 15) / 16
  ((drbgBlocks d k).take n, { drbgUpdate d k (List.replicate 48 0) with count := d.count + 1 })

/-! ### brainpoolP384r1 (RFC 5639) -/

/-- The prime of the field. -/
def ecP : Nat := 0x8CB91E82A3386D280F5D6F7E50E641DF152F7109ED5456B412B1DA197FB71123ACD3A729901D1A71874700133107EC53

/-- The coefficient a of the curve. -/
def ecA : Nat := 0x7BC382C63D8C150C3C72080ACE05AFA0C2BEA28E4FB22787139165EFBA91F90F8AA5814A503AD4EB04A8C7DD22CE2826

/-- The coefficient b of the curve. -/
def ecB : Nat := 0x04A8C7DD22CE28268B39B55416F0447C2FB77DE107DCD2A62E880EA53EEB62D57CB4390295DBC9943AB78696FA504C11

/-- The prime order of the base point. -/
def ecN : Nat := 0x8CB91E82A3386D280F5D6F7E50E641DF152F7109ED5456B31F166E6CAC0425A7CF3AB6AF6B7FC3103B883202E9046565

/-- A point: none is the point at infinity. -/
abbrev EcPoint := Option (Nat × Nat)

/-- The base point. -/
def ecG : EcPoint :=
  some (0x1D1C64F068CF45FFA2A63A81B7C13F6B8847A3E77EF14FE3DB7FCAFE0CBD10E8E826E03436D646AAEF87B2E247D4AF1E,
    0x8ABE1D7520F9C2A45CB1EB8E95CFD55262B70B29FEEC5864E19C054FF99129280E4646217791811142820341263C5315)

/-- The inverse modulo a prime of 384 bits: the power two below it. -/
def invMod (p a : Nat) : Nat :=
  (List.range 384).foldl (fun r i => let r2 := r * r % p; if (p - 2).testBit (383 - i) then r2 * a % p else r2) 1

/-- The sum of two points. -/
def ecAdd (u v : EcPoint) : EcPoint :=
  match u, v with
  | none, v => v
  | u, none => u
  | some (x1, y1), some (x2, y2) =>
    if x1 = x2 ∧ (y1 + y2) % ecP = 0 then none
    else
      let l := if x1 = x2 then (3 * x1 * x1 + ecA) * invMod ecP (2 * y1) % ecP
        else (y2 + (ecP - y1)) * invMod ecP (x2 + (ecP - x1)) % ecP
      let x3 := (l * l + (ecP - x1) + (ecP - x2)) % ecP
      some (x3, (l * (x1 + (ecP - x3)) + (ecP - y1)) % ecP)

/-- A multiple of a point, for factors below 2^384. -/
def ecMul (k : Nat) (u : EcPoint) : EcPoint :=
  (List.range 384).foldl (fun r i => let r2 := ecAdd r r; if k.testBit (383 - i) then ecAdd r2 u else r2) none

/-- An uncompressed public key of 97 bytes: none for anything that is no point of the curve. -/
def ecDecode (key : List Byte) : EcPoint :=
  let x := beNat ((key.drop 1).take 48)
  let y := beNat ((key.drop 49).take 48)
  if key.length = 97 ∧ key.take 1 = [4] ∧ x < ecP ∧ y < ecP ∧ y * y % ecP = (x * x * x + ecA * x + ecB) % ecP then some (x, y) else none

/-- ECDSA verification: public key, digest, and the signature of 96 bytes, r then s (R5, R359, R440, R458, R463, R471). -/
@[irreducible] def ecdsaVerify (key digest sig : List Byte) : Bool :=
  let q := ecDecode key
  let r := beNat (sig.take 48)
  let s := beNat (sig.drop 48)
  let w := invMod ecN s
  q.isSome && decide (sig.length = 96) && decide (1 ≤ r) && decide (r < ecN) && decide (1 ≤ s) && decide (s < ecN) &&
    match ecAdd (ecMul (beNat digest * w % ecN) ecG) (ecMul (r * w % ecN) q) with
    | some (x, _) => x % ecN == r
    | none => false

/-- An ECDSA signature of 96 bytes with private scalar `d` over a digest, by the nonce `k`. -/
@[irreducible] def ecdsaSign (d : Nat) (digest : List Byte) (k : Nat) : List Byte :=
  let r := ((ecMul k ecG).getD (0, 0)).1 % ecN
  beBytes 48 r ++ beBytes 48 (invMod ecN k * (beNat digest + r * d) % ecN)

/-- A private scalar of the device: HKDF output of the seed under the label, the next counter byte appended to it until the scalar lies in [1, n - 1] (R461). -/
def ecScalar (seed label : List Byte) : Nat :=
  (((List.range 256).map fun c => beNat (hkdf384 seed (label ++ if c = 0 then [] else [BitVec.ofNat 8 c]) 48)).find?
    fun d => decide (1 ≤ d) && decide (d < ecN)).getD 1

/-- The identity key, label "ID" (R461). -/
def idKey : Nat := ecScalar Config.seed [0x49, 0x44]

/-- The key-agreement key, label "KA" (R461). -/
def kaKey : Nat := ecScalar Config.seed [0x4B, 0x41]

/-- The model key in a blob: the ECDH secret of the ephemeral point and the key-agreement key, the key-encryption key from its X coordinate, and the unwrapping; none for a bad point or a failed integrity check (R365). -/
@[irreducible] def keyUnwrap (point info wrapped : List Byte) : Option (List Byte) :=
  match ecDecode point with
  | none => none
  | q =>
    match ecMul kaKey q with
    | none => none
    | some (x, _) => aesUnwrap (hkdf384 (beBytes 48 x) info 32) wrapped

/-! ### The security core's use of them -/

/-- The generator instantiated from fresh entropy (R468, R469). -/
def State.seedDrbg (s : State) : State := { s.draw with secu := { s.secu with drbg := drbgSeed (Config.entropy s.free) } }

/-- `n` random bytes, the generator reseeded first when 2^20 requests have been served since (R468). -/
def State.random (s : State) (n : Nat) : List Byte × State :=
  let d := if 2 ^ 20 ≤ s.secu.drbg.count then drbgReseed s.secu.drbg (Config.entropy s.free) else s.secu.drbg
  let r := drbgRequest d n
  (r.1, { s.draw with secu := { s.secu with drbg := r.2 } })

/-- A signature of the identity key over a digest, its nonce from the generator (R461, R467, R468). -/
def State.signed (s : State) (digest : List Byte) : List Byte × State :=
  let r := s.random 48
  (ecdsaSign idKey digest (1 + Config.nonceOf r.1 % (ecN - 1)), r.2)

end Sys2Proof.Machine
end

