-- ==== Sys2Proof/Machine/Rqu.lean ====
section
/-! DEFINITION. The rotation and quantisation unit at work (R59 to R73, R138). -/

namespace Sys2Proof.Machine

open Sys2Proof

/-- The lowest multiple of 64 at or above `a`. -/
def up64 (a : Nat) : Nat := (a + 63) / 64 * 64

/-- Width z of an element format (Table 2-1). -/
def srcBits (f : Nat) : Nat := if f = 0 then 32 else if f ≤ 2 then 16 else if f = 6 then 4 else 8

/-- The RQU starts the RQU.QV at the head of the ARR queue: record read, STEP base checked (ALIGN before ADDR), the head held (R60, R138). -/
def execRquStart (t : Site) (s : State) : Res State :=
  .next (
    let x := s.tile t
    match x.qArr.ents with
    | e :: _ =>
      match e.op with
      | .rquQv desc _ _ _ _ step nb =>
        if !(x.awake && x.qArr.head == .free && x.rqu.isNone) then s
        else
          s.awake t 5 (spWords desc 16) fun s =>
          let r := s.spLoad t 5 desc 16
          match r.2 with
          | none => r.1.abortHead t 0 e .spOwner
          | some rb =>
            let q := qrec rb
            let s := if q.fix then r.1.bump (R.QREC_FIX t.val) else r.1
            if q.efb = 2 ∧ step % 64 ≠ 0 then s.abortHead t 0 e .align
            else if q.efb = 2 ∧ 2 ^ 21 ≤ step + 512 * (nb - 1) then s.abortHead t 0 e .addr
            else s.onTile t fun x => { x.popQueue 0 (.busy e) with rqu := some ⟨e, q, 0⟩ }
      | _ => s
    | [] => s)

/-- The RQU.QV in progress meets SP_OWNER: aborted, its entry counted as complete (R147). -/
def State.rquAbort (s : State) (t : Site) (e : QEntry) : State :=
  (s.vcExc t .spOwner e.pc e.ord).onTile t fun x => { x with rqu := none, qArr := { x.qArr with head := .free } }

/-- A list of reads through the RQU's port; none when one was dropped. -/
def State.rquReads (s : State) (t : Site) (l : List (Nat × Nat)) : State × Option (List (List Byte)) :=
  match l with
  | [] => (s, some [])
  | (a, n) :: r =>
    let p := s.spLoad t 5 a n
    match p.2 with
    | none => (p.1, none)
    | some b =>
      let q := p.1.rquReads t r
      (q.1, q.2.map (b :: ·))

/-- A list of writes by the RQU (port, address, bytes); false when one was dropped. -/
def State.rquWrites (s : State) (t : Site) (l : List (Nat × Nat × List Byte)) : State × Bool :=
  match l with
  | [] => (s, true)
  | (port, a, bs) :: r =>
    let p := s.spStore t 5 port a bs
    if p.2 then p.1.rquWrites t r else p

/-- The 128 source elements of a block widened to FP32 (R57, R59 step 1). -/
def srcElems (f : Nat) (bs sc : List Byte) : List FVal :=
  let v := leNat bs
  (List.range 128).map fun i => elemVal f 0 (bits v (srcBits f * i) (srcBits f)) ((sc.getD (i / 32) 0).toNat)

/-- The block done: the next one, or a block that FAIL left unwritten (R72). -/
def Tile.rquNext (x : Tile) : Tile := { x with rqu := x.rqu.map fun r => { r with blk := r.blk + 1 } }

/-- A block of a code area has been written (R72). -/
def Tile.quantised (x : Tile) (ca b : Nat) : Tile := { x with unq := x.unq.filter fun e => e != (ca, b) }

/-- Steps 5 to 10 of R59 for a block of finite values. -/
def State.rquEmit (s : State) (t : Site) (r : RquRun) (v : List FVal) (ca ea oa step : Nat) : State :=
  let q := r.qr
  let b := r.blk
  let o := quantise q v
  let cap := ocapN q.ocap
  let outs : List (Nat × Nat × List Byte) :=
    [(0, ca + b * 16 * q.n, codeBlock q.n o.c), (0, ea + b, leBytes 1 (if o.isZero then 0 else (o.e + 127).toNat))] ++
    (if cap = 0 then [] else [(0, oa + b * 2 * cap, outlierList cap o.rows o.o)]) ++
    (if q.efb = 2 then
      [(1, step + 512 * b, (List.range 128).flatMap fun i =>
        leBytes 4 (stepState (v.getD i FVal.zero) (o.c.getD i 0) (o.o.getD i 0) o.e).toNat)] else [])
  let w := s.rquWrites t outs
  if w.2 then
    (((((w.1.bump (R.BLK_CNT t.val)).bump (R.ZERO_BLK t.val) o.isZero.toNat).bump (R.OUT_OVF t.val) o.fell.toNat).bump
      (R.OUTLIER_CNT t.val) o.rows.length).bump (R.QCLIP_CNT t.val) o.clip.toNat).onTile t fun x => (x.quantised ca b).rquNext
  else w.1.rquAbort t r.e

/-- The block is not quantised, nothing is issued for it, and its request ends NONFINITE (R72). -/
def State.rquFail (s : State) (t : Site) (ca b : Nat) : State :=
  ((s.bump (R.NONFIN_FAIL t.val)).emit (.tileWork t stNONFINITE)).onTile t fun x =>
    { x.rquNext with unq := if x.unq.contains (ca, b) then x.unq else (ca, b) :: x.unq }

/-- Elements that are not finite replaced by +0, and how many (R72). -/
def zeroNonfin (l : List FVal) : List FVal × Nat :=
  (l.map fun v => if v.isFin then v else FVal.zero, (l.filter fun v => !v.isFin).length)

/-- What the RQU reads for block `b`: elements, and its exponent byte and outlier list when the source is array input, or its MX scale bytes and STEP state (R59, R60, R138). -/
def rquReadsOf (q : QRec) (src step nb b : Nat) : List (Nat × Nat) :=
  let cap := ocapN q.ocap
  if q.srcFmt = 8 ∨ q.srcFmt = 9 then
    let ev := up64 (src + nb * 16 * q.n)
    let ol := up64 (ev + nb)
    [(src + b * 16 * q.n, 16 * q.n), (ev + b, 1)] ++ (if cap = 0 then [] else [(ol + b * 2 * cap, 2 * cap)])
  else
    let z := srcBits q.srcFmt
    [(src + b * 16 * z, 16 * z)] ++ (if q.srcFmt = 6 ∨ q.srcFmt = 7 then [(up64 (src + nb * 16 * z) + 4 * b, 4)] else []) ++
      (if q.efb = 2 then [(step + 512 * b, 512)] else [])

/-- Where the RQU writes block `b` (R138). -/
def rquWritesOf (q : QRec) (ca ea oa step b : Nat) : List (Nat × Nat) :=
  let cap := ocapN q.ocap
  [(ca + b * 16 * q.n, 16 * q.n), (ea + b, 1)] ++ (if cap = 0 then [] else [(oa + b * 2 * cap, 2 * cap)]) ++
    (if q.efb = 2 ∧ q.srcFmt ≠ 8 ∧ q.srcFmt ≠ 9 then [(step + 512 * b, 512)] else [])

/-- Array input is copied to the code area (R60). -/
def State.rquCopy (s : State) (t : Site) (r : RquRun) (ds : List (List Byte)) (ca ea oa : Nat) : State :=
  let cap := ocapN r.qr.ocap
  let w := s.rquWrites t ([(0, ca + r.blk * 16 * r.qr.n, ds.getD 0 []), (0, ea + r.blk, ds.getD 1 [])] ++
    (if cap = 0 then [] else [(0, oa + r.blk * 2 * cap, ds.getD 2 [])]))
  if w.2 then (w.1.bump (R.BLK_CNT t.val)).onTile t fun x => (x.quantised ca r.blk).rquNext else w.1.rquAbort t r.e

/-- Steps 2 to 5 of R59: non-finite elements, rotation, STEP feedback; then the rest. -/
def State.rquRun (s : State) (t : Site) (r : RquRun) (ds : List (List Byte)) (ca ea oa step : Nat) : State :=
  let q := r.qr
  let mx := q.srcFmt = 6 ∨ q.srcFmt = 7
  let e0 := zeroNonfin (srcElems q.srcFmt (ds.getD 0 []) (if mx then ds.getD 1 [] else []))
  if e0.2 ≠ 0 ∧ q.nfZero = false then s.rquFail t ca r.blk
  else
    let v := if q.rot then rotate e0.1 q.seed else e0.1
    let st := ds.getLastD []
    let v' := if q.efb = 2 then
        v.mapIdx fun i a => round24 (fadd a (f32dec (BitVec.ofNat 32 (leNat ((st.drop (4 * i)).take 4))))).1
      else v
    let e1 := zeroNonfin v'
    if e1.2 ≠ 0 ∧ q.nfZero = false then s.rquFail t ca r.blk
    else (s.bump (R.NONFIN_CNT t.val) (e0.2 + e1.2)).rquEmit t r e1.1 ca ea oa step

/-- One block of the RQU.QV in progress, once the issue gate is open and the banks it reaches are awake (R59, R103, R404). -/
def execRquBlock (t : Site) (s : State) : Res State :=
  .next (
    if (s.tile t).clkOff then s else
    let x := s.tile t
    match x.rqu with
    | none => s
    | some r =>
      match r.e.op with
      | .rquQv _ ca ea oa src step nb =>
        if !(x.awake && s.gateOpen t && decide (r.blk < nb)) then s
        else
          let rd := rquReadsOf r.qr src step nb r.blk
          s.awake t 5 ((rd ++ rquWritesOf r.qr ca ea oa step r.blk).flatMap fun e => spWords e.1 e.2) fun s =>
            let p := (s.spend t (Config.eventEnergy 1)).rquReads t rd
            match p.2 with
            | none => p.1.rquAbort t r.e
            | some ds => if r.qr.srcFmt = 8 ∨ r.qr.srcFmt = 9 then p.1.rquCopy t r ds ca ea oa else p.1.rquRun t r ds ca ea oa step
      | _ => s)

/-- The last write of the RQU.QV is visible: the head of the ARR queue is released (R138). -/
def execRquQvComplete (t : Site) (s : State) : Res State :=
  .next (
    if (s.tile t).clkOff then s else
    match (s.tile t).rqu with
    | some r =>
      match r.e.op with
      | .rquQv _ _ _ _ _ _ nb =>
        if nb ≤ r.blk then s.onTile t fun x => { x with rqu := none, qArr := { x.qArr with head := .free } } else s
      | _ => s
    | none => s)

end Sys2Proof.Machine
end

