-- ==== Sys2Proof/Machine/Eba.lean ====
section
/-! DEFINITION. The exact block accumulator: opening, partials, closing, the edge writeback (R74 to R79, R86 to R88, R140, R152, R448). -/

namespace Sys2Proof.Machine

open Sys2Proof

/-! ### Opening (R77, R78, R86, R140) -/

/-- The anchor under AUTO (R77); an E8 byte of 0xFF, which marks a NaN block and no exponent, counts as exponent 128 (DESIGN CHOICE, log entry 86). -/
def autoAnchor (bs : List Byte) : Int :=
  let m := bs.foldl (fun a b => max a b.toNat) 0
  if m = 0 then -111 else (m : Int) - 127 + 16

/-- The EBA.OPEN at the head of the ARR queue takes effect once none of its blocks is OPEN: record, scales and, under AUTO, the exponent vector are read, the blocks become OPEN and the head is released (R140). -/
def execEbaOpenComplete (t : Site) (s : State) : Res State :=
  .next (
    let x := s.tile t
    match x.qArr.ents with
    | e :: _ =>
      match e.op with
      | .ebaOpen desc out exps sig ob nob count nbv cs =>
        if !(x.awake && x.qArr.head == .free && (List.range nob).all fun i => !(x.blk (ob + i)).opn) then s
        else
          s.awake t 5 (spWords desc (16 + 256 * nob) ++ (if (qrec (s.spBytes t desc 16)).fixed then [] else spWords exps nbv)) fun s =>
          let r0 := s.spLoad t 5 desc 16
          match r0.2 with
          | none => r0.1.abortHead t 0 e .spOwner
          | some rb =>
            let q := qrec rb
            let r1 := r0.1.spLoad t 5 (desc + 16) (256 * nob)
            match r1.2 with
            | none => r1.1.abortHead t 0 e .spOwner
            | some sc =>
              let r2 := if q.fixed then (r1.1, some []) else r1.1.spLoad t 5 exps nbv
              match r2.2 with
              | none => r2.1.abortHead t 0 e .spOwner
              | some ev =>
                let s := if 2 ≤ bits (leNat rb) 20 4 then r2.1.bump (R.QREC_FIX t.val) else r2.1
                let a := if q.fixed then q.anchor else autoAnchor ev
                let acc : Accum :=
                  { id := x.seq, pc := e.pc, ord := e.ord, out := out, bf16 := q.outBf16, ob := ob, left := nob,
                    sig := if cs then some (BitVec.ofNat 23 sig, BitVec.ofNat 32 (sig / 2 ^ 32)) else none,
                    dropped := false, scales := (chunks 2 (128 * nob) sc).map fun p => BitVec.ofNat 16 (leNat p) }
                s.onTile t fun x =>
                  let x := { x.popQueue 0 .free with seq := x.seq + 1, accs := x.accs ++ [acc] }
                  (List.range nob).foldl (fun x i =>
                    x.onBlk (ob + i) fun _ => ⟨true, a, count, acc.id, [], [], [], s.now⟩) x
      | _ => s
    | [] => s)

/-! ### Partials (R74 to R76, R78) -/

/-- The register increment of a finite partial in units of 2^(A - 48), and whether it was adjusted (R75, R76). -/
def windowed (anchor : Int) (p : Dy) : Int × Bool :=
  let l := anchor - 48
  if Dy.lt ⟨p.z.natAbs, p.q⟩ ⟨1, anchor + 32⟩ then
    if l ≤ p.q then (p.z * 2 ^ (p.q - l).toNat, false)
    else
      let r := rndAt 0 (p.z < 0) p.z.natAbs p.q l
      (sgnInt (p.z < 0) r.1, r.2)
  else (sgnInt (p.z < 0) (2 ^ 80 - 1), true)

/-- One partial enters element `e` of an OPEN block; none stands for a partial that is not finite (R74). -/
def Blk.add (b : Blk) (e : Nat) (p : Option Dy) : Blk × Bool :=
  let got := supd 0 b.got e (· + 1)
  match p with
  | none => ({ b with got := got, nonfin := sset false b.nonfin e true }, false)
  | some d =>
    let w := windowed b.anchor d
    ({ b with got := got, s := supd 0 b.s e fun v => sxNat 96 (unsx 96 (v + w.1)) }, w.2)

/-- A block has all its partials (R78). -/
def Blk.full (b : Blk) : Bool := (List.range 128).all fun e => decide (b.count ≤ sget 0 b.got e)

/-- One element of a closing block converted: its code and the CVT_OVF it counts (R79). -/
def closeElem (b : Blk) (bf16 : Bool) (scale : BitVec 16) (e : Nat) : Nat × Nat :=
  let outF := if bf16 then 1 else 0
  let sc := fdec (flay 2) scale.toNat
  if sget false b.nonfin e || !sc.isFin then (canonNaN outF, 1)
  else
    let v := sget 0 b.s e
    let a := fenc 0 0 false (.fin (v < 0) v.natAbs (b.anchor - 48))
    let p := fenc 0 0 false (fmul (fdec (flay 0) a.1) sc).1
    let c := if bf16 then fenc 1 0 false (fdec (flay 0) p.1) else (p.1, 0, false)
    (c.1, a.2.2.toNat + p.2.2.toNat + c.2.2.toNat)

/-- The values of a block's elements. -/
def blkVals (bf16 : Bool) (l : List Nat) : List FVal := l.map (fdec (flay (if bf16 then 1 else 0)))

/-- Whether two blocks match under DUAL with tolerance `tol` (R448). -/
def dualMatch (tol : Nat) (a b : List FVal) : Bool :=
  match amax (a ++ b) with
  | .fin _ m e =>
    (List.zip a b).all fun p =>
      if p.1.isNaN || p.2.isNaN then p.1.isNaN && p.2.isNaN
      else if m = 0 then true
      else
        let d := (fadd p.1 p.2.neg).1.abs
        !flt (.fin false tol (leadExp m e - 7)) d
  | _ => (List.zip a b).all fun p => p.1 == p.2

/-- The site of the other tile of a DUAL pair (R447). -/
def State.partner (s : State) (t : Site) : Option Site :=
  match s.logicalOf t.val with
  | some l => some (s.siteOf (if l % 2 = 0 then l + 1 else l - 1))
  | none => none

/-- A converted block passes to the edge writeback; under DUAL it is compared with its partner first, and a mismatch writes neither and is reported (R88, R448, R449). -/
def State.toWriteback (s : State) (t : Site) (w : WbBlk) (bf16 : Bool) : State :=
  let plain (s : State) : State := s.onTile t fun x => { x with wbq := x.wbq ++ [w] }
  if s.get R.FLT_STAT_REDUND = 0 then plain s
  else
    match s.partner t with
    | none => plain s
    | some u =>
      match (s.tile u).wbq.find? fun v => v.ob == w.ob && v.held with
      | none => s.onTile t fun x => { x with wbq := x.wbq ++ [{ w with held := true }] }
      | some v =>
        if dualMatch (s.get R.FLT_CTL_DUAL_TOL) (blkVals bf16 w.vals) (blkVals bf16 v.vals) then
          plain (s.onTile u fun x => { x with wbq := x.wbq.map fun k => if k = v then { k with held := false } else k })
        else
          let even := match s.logicalOf t.val with | some l => l % 2 == 0 | none => true
          (s.onTile u fun x => { x with wbq := x.wbq.filter fun k => k != v }).fault 0x07 (if even then t.val else u.val)

/-- A block that has received its last expected partial closes (R78, R79). -/
def State.closeBlk (s : State) (t : Site) (k : Nat) : State :=
  let b := (s.tile t).blk k
  match (s.tile t).accs.find? fun a => a.id == b.acc with
  | none => s.onTile t fun x => x.onBlk k fun b => { b with opn := false }
  | some a =>
    let els := (List.range 128).map fun e => closeElem b a.bf16 (a.scales.getD (128 * (k - a.ob) + e) 0) e
    let s := (s.bump (R.CVT_OVF t.val) (els.map (·.2)).sum).onTile t fun x => x.onBlk k fun b => { b with opn := false }
    s.toWriteback t ⟨a.id, k, els.map (·.1), false⟩ a.bf16

/-- Partials for elements of block `k` of tile `t`, in one unit: added, or dropped as late when the block is not OPEN (R78). -/
def State.ebaTake (s : State) (t : Site) (k : Nat) (l : List (Nat × Option Dy)) : State :=
  let b := (s.tile t).blk k
  if !b.opn then s.bump (R.EBA_LATE t.val) l.length
  else
    let r := l.foldl (fun (p : Blk × Nat) x => let q := p.1.add x.1 x.2; (q.1, p.2 + q.2.toNat)) (b, 0)
    let s := (s.bump (R.EBA_RANGE t.val) r.2).onTile t fun x => x.onBlk k fun _ => r.1
    if r.1.full then s.closeBlk t k else s

/-- An array partial W with exponent byte E8 (R74); E8 0xFF marks NaN (R53). -/
def wPartial (e8 : Nat) (w : Int) : Option Dy := if e8 = 255 then none else some ⟨w, (e8 : Int) - 127⟩

/-- An FP32 partial (R74). -/
def fPartial (w : BitVec 32) : Option Dy :=
  match f32dec w with
  | .fin n m e => some ⟨sgnInt n m, e⟩
  | _ => none

/-- Where the partials of block `k` go (R152): the block of this tile, or a block of another logical tile. -/
def State.homeOf (s : State) (t : Site) (k : Nat) : Nat ⊕ (Nat × Nat) :=
  if s.get (R.EBAFWD t.val k) = 0 then .inl k
  else
    let h := s.get (R.EBAFWD_HOME t.val k)
    if s.siteOf h = t then .inl (s.get (R.EBAFWD_HOB t.val k)) else .inr (h, s.get (R.EBAFWD_HOB t.val k))

/-- The node by which a tile sends: its logical tile, or the site's own (Table 7-3). -/
def State.selfNode (s : State) (t : Site) : Nat := (s.logicalOf t.val).getD (0x400 + t.val)

/-- A packet of partials forwarded to block `hob` of logical tile `h`, from element `e0` on (R152, Table 7-4). -/
def State.forwardParts (s : State) (t : Site) (op h hob e8 e0 : Nat) (ws : List (BitVec 32)) : State :=
  s.draw.inject op
    { mc := false, sa := false, err := false, dest := BitVec.ofNat 11 h, src := BitVec.ofNat 11 (s.selfNode t)
      addr := BitVec.ofNat 48 (hob % 32 + 256 * (e8 % 256)), words := (ws.length + 15) / 16, owner := Config.tileOwner s.free, sigH := 0
      sigN := 0, firstOff := 0, lastLen := 0, elFirst := BitVec.ofNat 7 e0, data := [], parts := ws }

/-- The 512 partials of an array, block by block (R139, R152). -/
def State.takeArray (s : State) (t : Site) (a : Nat) (b : EdgeBuf) : State :=
  s.each (List.range 4) fun s i =>
    let k := 4 * ((a % 8 + b.dcol) % 8) + i
    let ws := (b.w.drop (128 * i)).take 128
    match s.homeOf t k with
    | .inl k => s.ebaTake t k (ws.mapIdx fun e w => (e, wPartial b.e8 w))
    | .inr (h, hob) => s.forwardParts t 4 h hob b.e8 0 (ws.map (BitVec.ofInt 32))

/-- FP32 partials of consecutive elements of one block (R110, R152). -/
def State.takeFp (s : State) (t : Site) (l : List (Nat × BitVec 32)) : State :=
  match l with
  | [] => s
  | (e0, _) :: _ =>
    match s.homeOf t (e0 / 128) with
    | .inl k => s.ebaTake t k (l.map fun p => (p.1 % 128, fPartial p.2))
    | .inr (h, hob) => s.forwardParts t 5 h hob 0 (e0 % 128) (l.map (·.2))

/-- The output block that a PART packet names (Table 7-4). -/
def latBlock (p : LatPkt) : Nat := bits p.addr.toNat 0 5

/-- A packet of the ejection buffer enters the EBA as one unit: W as signed integers with the exponent byte of ADDR[15:8], or FP32 values; a signal attached to FP32 partials is applied unless they are dropped, W partials never carry one (R152, R203, R204, R211). -/
def State.takeLat (s : State) (t : Site) (f : Bool) (p : LatPkt) : State :=
  let part (w : BitVec 32) : Option Dy := if f then fPartial w else wPartial (bits p.addr.toNat 8 8) w.toInt
  let l := (p.parts.mapIdx fun i w => (p.elFirst.toNat + i, part w)).filter fun e => decide (e.1 < 128)
  let r := s.ebaTake t (latBlock p) l
  if f && p.sa && ((s.tile t).blk (latBlock p)).opn then r.signal (siteNode t) p.sigH p.sigN else r

/-- The source the round-robin serves next: an array whose edge buffer is full, the tensor unit (source 64), the lattice port (source 65) (R87). -/
def Tile.nextSource (x : Tile) : Option Nat :=
  ((List.range 66).map fun i => (x.rr + i) % 66).find? fun i =>
    if i < 64 then (x.ctl i).edge.isSome
    else if i = 64 then (match x.tu with | some r => !r.parts.isEmpty | none => false) else !x.ej.isEmpty

/-- The EBA takes the unit of the source its round-robin serves next (R87): 512 partials of an array, 64 of the tensor unit, or a packet of the lattice port. -/
def execEbaPartial (t : Site) (source : Fin 66) (s : State) : Res State :=
  .next (
    if (s.tile t).clkOff then s else
    let x := s.tile t
    if x.fenced ∨ x.nextSource ≠ some source.val then s
    else
      let s := s.onTile t fun x => { x with rr := (source.val + 1) % 66 }
      if source.val < 64 then
        match (x.ctl source.val).edge with
        | none => s
        | some b =>
          (s.takeArray t source.val b).onTile t fun x =>
            { x.onCtl source.val fun c => { c with edge := none } with
              live := (x.live.map fun p => if p.1 = b.id then (p.1, p.2 - 1) else p).filter fun p => p.2 != 0 }
      else if source.val = 64 then
        match x.tu with
        | none => s
        | some r =>
          let u := r.parts.take 64
          let s := (s.takeFp t (u.filter fun p => p.1 / 128 == (u.headD (0, 0)).1 / 128)).takeFp t
            (u.filter fun p => p.1 / 128 != (u.headD (0, 0)).1 / 128)
          s.onTile t fun x => { x with tu := x.tu.map fun r => { r with parts := r.parts.drop 64 } }
      else
        match x.ej with
        | [] => s
        | (f, p) :: r => (s.onTile t fun x => { x with ej := r }).takeLat t f p)

/-! ### The edge writeback (R88) -/

/-- One word of the writeback: written, or dropped with every later one of its accumulation. -/
def State.wbWord (s : State) (t : Site) (p : Nat × List Byte) (dropped : Bool) : State × Bool :=
  if dropped then (s.spDrop t 4 p.1 true, true)
  else let r := s.spStore t 4 0 p.1 p.2; (r.1, !r.2)

/-- Every word of a block, in order. -/
def State.wbWords (s : State) (t : Site) (l : List (Nat × List Byte)) (dropped : Bool) : State × Bool :=
  match l with
  | [] => (s, dropped)
  | p :: r => let q := s.wbWord t p dropped; q.1.wbWords t r q.2

/-- The oldest closed block is written through the EDGE port; after the last block of an accumulation its completion signal is applied, unless a word was dropped, which its EBA.OPEN answers for (R88, R147). -/
def execEdgeWriteback (t : Site) (s : State) : Res State :=
  .next (
    if (s.tile t).clkOff then s else
    let x := s.tile t
    match x.wbq with
    | [] => s
    | w :: rest =>
      if x.fenced ∨ w.held then s
      else
        match x.accs.find? fun a => a.id == w.acc with
        | none => s.onTile t fun x => { x with wbq := rest }
        | some a =>
          let size := if a.bf16 then 2 else 4
          let addr := a.out + (w.ob - a.ob) * 128 * size
          let bytes := w.vals.flatMap fun v => leBytes size v
          let words := (chunks 64 8 bytes).mapIdx fun i b => (addr + 64 * i, b)
          s.awake t 4 (if a.dropped then [] else words.map fun p => (p.1, 64)) fun s =>
          let r := s.wbWords t words a.dropped
          let s := if r.2 && !a.dropped then r.1.vcExc t .spOwner a.pc a.ord else r.1
          let s := if a.left = 1 then
              (match a.sig, r.2 with | some (h, n), false => s.signal (siteNode t) h n | _, _ => s) else s
          s.onTile t fun x =>
            { x with
              wbq := rest
              accs := (x.accs.map fun b => if b.id = a.id then { b with left := b.left - 1, dropped := r.2 } else b).filter
                fun b => b.left != 0 })

end Sys2Proof.Machine
end

