-- ==== Sys2Proof/Machine/Stack.lean ====
section
/-! DEFINITION. The stack controllers (R170 to R195). -/

namespace Sys2Proof.Machine

open Sys2Proof

/-- The stack an address names, and the offset in it (R173). -/
def stackOf (a : Nat) : Nat := bits a 33 5
/-- The offset. -/
def stackOff (a : Nat) : Nat := bits a 0 33

/-- An address of no stack byte (R175). -/
def stackBad (a : Nat) : Bool := decide (bits a 38 10 ≠ 0) || decide (0x180000000 ≤ stackOff a)

/-- The pseudo-channel of an offset (R174). -/
def pcOf (off : Nat) : Nat := Nat.xor (off / 256 % 16) (off / 4096 % 16)

/-- The bank, row and column of an offset (R174). -/
def bankRowCol (off : Nat) : Nat × Nat × Nat :=
  let g := off / 4096
  (g / 4 % 16, g / 64, g % 4 * 256 + off % 256)

/-- Stack bytes. -/
def State.stkBytes (s : State) (a n : Nat) : List Byte := sbytes 0 s.stk a n

/-- States of MC_STAT (Table 6-8). -/
def mcREADY : Nat := 3
/-- SELFREF. -/
def mcSELFREF : Nat := 4

/-- Sources of Table 6-11 that may write SYS, REF and EXP (R180). -/
def stackTrusted (src : Nat) : Bool := src == 4 || src == 5 || src == 7

/-- The slot of the REF area that holds an offset (R369), if any. -/
def refSlotOf (off : Nat) : Option Nat :=
  if 64 * 2 ^ 20 ≤ off ∧ off < 112 * 2 ^ 20 then some ((off - 64 * 2 ^ 20) / (24 * 2 ^ 20)) else none

/-- The reference copy of a slot is lost (R382). -/
def State.refLost (s : State) (slot : Nat) : State :=
  ((s.put (R.SLOT_REF_VALID slot) 0).set1 R.WS_EVT_REF_LOST).fault 0x15 0x1FF (detail := slot)

/-- An uncorrectable error at word `w` (offset / 32) of stack `n`: counted, captured once, logged, reported; a pseudo-channel with UE_CHFAIL such words within a second has failed (R184, R186, R187); a read of REF loses the slot's reference copy (R382). -/
def State.stackUe (s : State) (n w src : Nat) (owner : BitVec 32) : State :=
  let off := 32 * w
  let pc := pcOf off
  let s := if src = 6 then (s.bump (R.SCRUB_UE n)).set1 (R.MC_EVT_SCRUB_UE n) else (s.bump (R.UE_CNT n)).set1 (R.MC_EVT_UE n)
  let s := if s.get (R.UE_ADDR_VALID n) = 1 then s
    else ((((s.put (R.UE_ADDR_ADDR n) (n * 2 ^ 33 + off)).put (R.UE_ADDR_PC n) pc).put (R.UE_ADDR_SOURCE n) src).put
      (R.UE_TAG_OWNER n) owner.toNat).put (R.UE_ADDR_VALID n) 1
  let s := s.onSec n fun c =>
    { c with bad := if w ∈ c.bad then c.bad else w :: c.bad, log := c.log ++ [(s.now, w, src)],
             ues := (s.now, pc, w) :: c.ues.filter fun u => decide (s.now < u.1 + usTicks 1000000) }
  let s := s.fault 0x0F 0x1FF (detail := n) (owner := owner) (aux := w)
  let words := ((((s.sec n).ues.filter fun u => u.2.1 == pc).map fun u => u.2.2)).dedup
  let s := if s.get (R.MC_CTL_UE_CHFAIL n) ≤ words.length ∧ (s.get (R.MC_STAT_PC_FAIL n)).testBit pc = false then
      ((s.put (R.MC_STAT_PC_FAIL n) (s.get (R.MC_STAT_PC_FAIL n) + 2 ^ pc)).set1 (R.MC_EVT_CHFAIL n)).fault 0x10 0x1FF
        (detail := n) (aux := pc)
    else s
  match refSlotOf off with
  | some k => s.refLost k
  | none => s

/-- What the controller answers an access: held, refused under R175, a write not performed, or done with the data read and whether they hold an uncorrectable error. -/
inductive StackAns where
  | held | refused | dropped
  | done (data : List Byte) (ue : Bool)
deriving DecidableEq, Repr

/-! ### Errors (R183 to R187) -/

/-- The region of Table 6-3 that holds an offset of stack `n`, by its index. -/
def State.regionOf (s : State) (n off : Nat) : Nat :=
  ((List.range 8).find? fun k =>
    decide (s.get (R.MREG_BASE_MIB n k) * 2 ^ 20 ≤ off) &&
      decide (off < (s.get (R.MREG_BASE_MIB n k) + s.get (R.MREG_SIZE_MIB n k)) * 2 ^ 20)).getD 7

/-- The requests of the micro-batch of request `owner`; itself alone when no micro-batch of this device holds it. -/
def State.mates (s : State) (owner : BitVec 32) : List (BitVec 32) :=
  match s.serve.mbs.find? fun e => e.2.rows.any fun w => w.req == owner with
  | some e => (e.2.rows.map fun w => w.req).dedup
  | none => [owner]

/-- The prefix handle whose pinned pages hold an offset of stack `n`, if one does (R181, R339). -/
def State.pfxAt (s : State) (n off : Nat) : Option Nat :=
  (s.serve.pfxs.find? fun e => e.2.held && (List.range (sget 0 e.2.pages n)).any fun k =>
    Config.kvPage (2 ^ 32 + e.1) n k == off / 2 ^ 14).map (·.1)

/-- Work of several requests has failed. -/
def State.failAll (s : State) (l : List (BitVec 32)) : State := s.each l fun s r => s.workFailed r stFAULT 0

/-- The outcome of an uncorrectable error for the owner of the access (Table 6-5), by the region of its word: REF and EXP end no request; an adapter ends the requests of the micro-batch that use it, a matrix or the embedding all of them; a pinned prefix page ends every request that names its handle, and the handle is released. -/
def State.stackOwnerFails (s : State) (n off : Nat) (owner : BitVec 32) : State :=
  let k := s.regionOf n off
  if k = 1 ∨ k = 2 then s
  else if k = 3 then
    let slot (r : BitVec 32) : Nat := (s.req (bits r.toNat 0 20)).adslot
    s.failAll ((s.mates owner).filter fun r => slot r == slot owner)
  else if k = 5 ∨ k = 6 then s.failAll (s.mates owner)
  else if k = 7 then
    match s.pfxAt n off with
    | some h =>
      let l := (s.liveReqs.filter fun e => e.2.pfx == some h).map fun e => BitVec.ofNat 32 (reqId e.1 e.2)
      (s.failAll (if owner ∈ l then l else owner :: l)).pfxDrop h
    | none => s.workFailed owner stFAULT 0
  else s.workFailed owner stFAULT 0

/-- A correctable error was met at word `w`: the corrected word is written back when CE_WB is 1, and otherwise meets every later read (R184). -/
def State.stackMend (s : State) (n w : Nat) : State :=
  s.onSec n fun c => { c with soft := if s.get (R.MC_CTL_CE_WB n) = 1 then c.soft.filter fun v => v != w
                                      else if w ∈ c.soft then c.soft else w :: c.soft }

/-- How many bytes of 32-byte half `h` are enabled. -/
def beHalf (be : BitVec 64) (h : Nat) : Nat := ((List.range 32).filter fun i => be.getLsbD (32 * h + i)).length

/-- Whether an access reads a half of its word: a read each half it enables, a write each half it covers in part (R178). -/
def accReads (x : StackAcc) (h : Nat) : Bool := beHalf x.be h != 0 && (!x.write || beHalf x.be h != 32)

/-- What the code finds in half `h` of the word: a word known bad or soft, or the access's own finding in the first half it reads (R183 to R185). -/
def State.halfEcc (s : State) (x : StackAcc) (h : Nat) : Ecc :=
  let w := stackOff x.addr.toNat / 64 * 2 + h
  let c := s.sec (stackOf x.addr.toNat)
  let own : Ecc := if h = 0 ∨ !accReads x 0 then x.ecc else .clean
  if !accReads x h then .clean
  else if w ∈ c.bad then .uncorrectable
  else if w ∈ c.soft ∧ own = .clean then .correctable
  else own

/-- The error reports of the halves an access reads. -/
def State.stackErrs (s : State) (x : StackAcc) : State × Bool :=
  let n := stackOf x.addr.toNat
  [0, 1].foldl (fun (p : State × Bool) h =>
    let w := stackOff x.addr.toNat / 64 * 2 + h
    match s.halfEcc x h with
    | .clean => p
    | .correctable => (((p.1.bump (R.CE_CNT n)).set1 (R.MC_EVT_CE n)).stackMend n w, p.2)
    | .uncorrectable => ((p.1.stackUe n w x.source.toNat x.owner).stackOwnerFails n (32 * w) x.owner, true)) (s, false)

/-! ### Accesses (R175 to R180, R190, R192) -/

/-- The rank of a requester among writes that reach the controller in one cycle: sector-bus ports by tile position, the sector DMA engine, the lattice port (R177). -/
def accRank (x : StackAcc) : Nat := if x.bus then x.port.val else 10

/-- The bytes that a write changes: those it enables, less those that a write of a higher rank has written in the same tick (R177). -/
def State.writeBe (s : State) (x : StackAcc) : BitVec 64 :=
  let c := s.sec (stackOf x.addr.toNat)
  if c.wTick ≠ s.now then x.be
  else
    c.wrs.foldl (fun (be : BitVec 64) e =>
      if e.1 = stackOff x.addr.toNat / 64 ∧ accRank x < e.2.1 then be &&& ~~~e.2.2 else be) x.be

/-- A write performed: its bytes, and each 32-byte word it covers or rewrites stands without an error (R178, R185). -/
def State.stackStore (s : State) (x : StackAcc) : State :=
  let n := stackOf x.addr.toNat
  let w := stackOff x.addr.toNat / 64
  let be := s.writeBe x
  let m := (List.range 64).foldl (fun m i =>
    if be.getLsbD i then sset 0 m (x.addr.toNat / 64 * 64 + i) (x.data.getD i 0) else m) s.stk
  let hit (v : Nat) : Bool := v / 2 == w && beHalf x.be (v % 2) != 0
  { s with stk := m }.onSec n fun c =>
    { c with bad := c.bad.filter fun v => !hit v
             soft := c.soft.filter fun v => !hit v
             wrs := (w, accRank x, x.be) :: (if c.wTick = s.now then c.wrs else [])
             wTick := s.now }

/-- One access of a READY controller to the 64-byte word of its address (R176 to R185). -/
def State.stackDo (s : State) (x : StackAcc) : State × StackAns :=
  let n := stackOf x.addr.toNat
  let nb := beHalf x.be 0 + beHalf x.be 1
  let s := if x.bus then s.bump (R.LOCAL_BYTES n) nb else s.bump (R.LATT_BYTES n) nb
  if x.write then
    if stackOff x.addr.toNat < 152 * 2 ^ 20 ∧ !stackTrusted x.source.toNat then
      (((s.bump (R.PROT_DROP_CNT n)).set1 (R.MC_EVT_PROT_DROP n)).workFailed x.owner stFAULT 0, .dropped)
    else
      let r := (s.bump (R.RMW_CNT n) ((accReads x 0).toNat + (accReads x 1).toNat)).stackErrs x
      if r.2 then (r.1, .dropped) else (r.1.stackStore x, .done [] false)
  else
    let r := s.stackErrs x
    (r.1, .done (s.stkBytes (x.addr.toNat / 64 * 64) 64) r.2)

/-- An access refused under R175. -/
def State.stackRefuse (s : State) (a : Nat) : State := (s.bump (R.ADDR_ERR_CNT (stackOf a))).set1 (R.MC_EVT_ADDR_ERR (stackOf a))

/-- A stack is not READY: what reaches it is held (R190, R192). -/
def State.stackWaits (s : State) (a : Nat) : Bool := s.get (R.MC_STAT_STATE (stackOf a)) != mcREADY

/-- The accesses of `k` words held at a stack, as one unit (R190, R192). -/
def State.stackHold (s : State) (n k : Nat) (h : Held) : State :=
  ((s.bump (R.SR_HELD_CNT n) k).set1 (R.MC_EVT_SR_HELD n)).onSec n fun c => { c with held := c.held ++ [h] }

/-- An access arriving at its controller: refused under R175, held while the stack is not READY (R190, R192), or performed. -/
def State.stackAccess (s : State) (x : StackAcc) : State × StackAns :=
  if stackBad x.addr.toNat then (s.stackRefuse x.addr.toNat, .refused)
  else if s.stackWaits x.addr.toNat then (s.stackHold (stackOf x.addr.toNat) 1 (.acc x), .held)
  else s.stackDo x

/-- What follows an answer: a read's data go to the requester; a write's attached signal is applied once it is performed (R178, R180, R211). -/
def State.stackAnswer (r : State × StackAns) (x : StackAcc) : State :=
  match r.2 with
  | .done d ue => if x.write then (if x.sa then r.1.signal (0x100 + stackOf x.addr.toNat) x.sigH x.sigN else r.1)
      else r.1.emit (.stackData x.addr.toNat d ue)
  | _ => r.1

/-- An access of a stack (R176). -/
def execStackAccess (x : StackAcc) (s : State) : Res State := .next (State.stackAnswer (s.stackAccess x) x)

/-- The byte enables of the part of a span that lies in the word at `w`. -/
def beOf (w a n : Nat) : BitVec 64 :=
  BitVec.ofNat 64 ((((List.range 64).filter fun i => decide (a ≤ w + i ∧ w + i < a + n)).map fun i => 2 ^ i).sum)

/-- The accesses of a span of a READY stack, word by word, the finding of the code going to the first word read: the state, whether every one was performed, the bytes read, whether one holds an uncorrectable error. -/
def State.stackSpan (s : State) (x : StackAcc) (a : Nat) (bs : List Byte) (n : Nat) : State × Bool × List Byte × Bool :=
  ((spWords a n).foldl (fun (q : (State × Bool × List Byte × Bool) × Ecc) w =>
    let base := w.1 / 64 * 64
    let y : StackAcc := { x with
      addr := BitVec.ofNat 48 base, be := beOf base w.1 w.2, sa := false, ecc := q.2
      data := (List.range 64).map fun k => if a ≤ base + k then bs.getD (base + k - a) 0 else 0 }
    let r := if stackBad base then (q.1.1.stackRefuse base, StackAns.refused) else q.1.1.stackDo y
    let e := if accReads y 0 || accReads y 1 then Ecc.clean else q.2
    match r.2 with
    | .done d ue => ((r.1, q.1.2.1, q.1.2.2.1 ++ (d.drop (w.1 - base)).take w.2, q.1.2.2.2 || ue), e)
    | _ => ((r.1, false, q.1.2.2.1, q.1.2.2.2), e)) ((s, true, [], false), x.ecc)).1

/-- The writes of a span: the state, and whether every one was performed (R171, R178, R180). -/
def State.stackWriteSpan (s : State) (x : StackAcc) (a : Nat) (bs : List Byte) : State × Bool :=
  let r := s.stackSpan { x with write := true } a bs bs.length
  (r.1, r.2.1)

/-- The reads of a span: the state, the bytes unless an access was refused, whether one holds an uncorrectable error (R171, R184). -/
def State.stackReadSpan (s : State) (x : StackAcc) (a n : Nat) : State × Option (List Byte) × Bool :=
  let r := s.stackSpan { x with write := false } a [] n
  (r.1, if r.2.1 then some r.2.2.1 else none, r.2.2.2)

/-- The access by which a source of Table 6-11 reaches a stack: over the sector bus, or the lattice port. -/
def srcAcc (source : BitVec 4) (bus : Bool) (owner : BitVec 32) (ecc : Ecc) : StackAcc :=
  { addr := 0, write := false, data := [], be := 0, source := source, bus := bus, owner := owner, ecc := ecc, sa := false, sigH := 0
    sigN := 0 }

/-! ### The patrol scrubber (R186) -/

/-- Ticks in an hour. -/
def hourTicks : Nat := usTicks 3600000000

/-- 32-byte words of a stack (R170, R183). -/
def stackWords : Nat := 0x180000000 / 32

/-- The scrubber moves on, and from the last word to the next pass. -/
def State.scrubOn (s : State) (n : Nat) : State :=
  s.onSec n fun c => if stackWords ≤ c.scrub + 1 then { c with scrub := 0, pass := s.now } else { c with scrub := c.scrub + 1 }

/-- The patrol scrubber reads the word it has come to, once that word's time in the pass of SCRUB_HOURS hours has come (R186). -/
def execPatrolScrub (sec : Sector) (off : BitVec 33) (ecc : Ecc) (s : State) : Res State :=
  .next (
    let n := sec.val
    let c := s.sec n
    let w := off.toNat / 32
    let due := decide (c.scrub * (s.get (R.MC_CTL_SCRUB_HOURS n) * hourTicks) ≤ (s.now - c.pass) * stackWords)
    if s.get (R.MC_CTL_SCRUB_EN n) = 0 ∨ s.get (R.MC_STAT_STATE n) ≠ mcREADY ∨ w ≠ c.scrub ∨ !due then s
    else
      let s := s.scrubOn n
      if w ∈ c.bad ∨ ecc = .uncorrectable then s.stackUe n w 6 0xFFFFFFFF
      else if w ∈ c.soft ∨ ecc = .correctable then (s.bump (R.SCRUB_CE n)).stackMend n w
      else s)

/-- A per-bank refresh command of a READY stack (R189). -/
def execBankRefresh (sec : Sector) (_pc _bank : Fin 16) (s : State) : Res State :=
  .next (if s.get (R.MC_STAT_STATE sec.val) = mcREADY then s.bump (R.REF_CNT sec.val) else s)

/-- The refresh rate that R189 calls for: doubled when forced, when the latest reading failed or is above 85 degrees, and from then until readings have stayed below 83 degrees for 10 ms. -/
def State.refRate (s : State) (n : Nat) (hot : Bool) : State :=
  let old : Nat := s.get (R.MC_STAT_REF2X n)
  let cooled : Bool := match (s.sec n).cool with | some c => decide (c + usTicks 10000 ≤ s.now) | none => false
  let new : Nat := if hot || (s.sec n).tempFail || s.get (R.MC_CTL_REF2X_FORCE n) == 1 then 1 else if old == 1 && !cooled then 1 else 0
  if new = old then s else (s.put (R.MC_STAT_REF2X n) new).set1 (R.MC_EVT_REF2X_CHG n)

/-- A temperature reading of a stack: MC_STAT.TEMP and the refresh rate (R188, R189). -/
def State.stackTemp (s : State) (n : Nat) (temp : Option Int) : State :=
  let s := match temp with | some v => s.put (R.MC_STAT_TEMP n) (unsx 8 v) | none => s
  let cool : Option Nat := match temp with
    | some v => if v < 83 then (match (s.sec n).cool with | some c => some c | none => some s.now) else none
    | none => none
  let hot : Bool := match temp with | some v => decide (85 < v) | none => true
  (s.onSec n fun c => { c with cool := cool, tempFail := temp.isNone }).refRate n hot

/-- The RESULT and LANES fields of pseudo-channel k (Table 6-9). -/
def trainF (n k : Nat) (lanes : Bool) : FRef :=
  ⟨0x1004008 + 0x10000 * n, 4 * k + (if lanes then 2 else 0), 2, if lanes then 0 else 3⟩

/-- Training of a stack ends: failed lanes of each pseudo-channel; more than two fail the stack (R192, R193). -/
def State.stackTrained (s : State) (n : Nat) (lanes : List Nat) : State :=
  if s.get (R.MC_STAT_STATE n) ≠ 1 then s
  else
    let s := s.each (List.range 16) fun s k =>
      let c := lanes.getD k 0
      let s := (s.put (trainF n k false) (if c = 0 then 0 else if c ≤ 2 then 1 else 2)).put (trainF n k true) (min c 2)
      if 2 < c then s.put (R.MC_STAT_PC_FAIL n) (Nat.lor (s.get (R.MC_STAT_PC_FAIL n)) (2 ^ k)) else s
    s.put (R.MC_STAT_STATE n) (if (lanes.take 16).any (fun c => decide (2 < c)) then 5 else 2)

/-- A pseudo-channel loses training in service and has failed (R187). -/
def execPseudoChannelTrainingLoss (sec : Sector) (pc : Fin 16) (s : State) : Res State :=
  .next (
    let n := sec.val
    if s.get (R.MC_STAT_STATE n) ≠ mcREADY then s
    else
      ((s.put (R.MC_STAT_PC_FAIL n) (Nat.lor (s.get (R.MC_STAT_PC_FAIL n)) (2 ^ pc.val))).set1 (R.MC_EVT_CHFAIL n)).fault
        0x10 0x1FF (detail := n) (aux := pc.val))

end Sys2Proof.Machine
end

