-- ==== Sys2Proof/Machine/RegWrite.lean ====
section
/-! DEFINITION. Writes of BAR0 registers: field checks, clamps, latches of wide registers, held grouped settings (R284, R290 to R295). -/

namespace Sys2Proof.Machine

open Sys2Proof

/-- What a written value of a field becomes, and how it is logged when it is not as written (R290). -/
def checkField (x8 : Bool) (d : WRule) (v : Nat) : Nat × Option ClampKind :=
  let clamp (lo hi : Nat) : Nat × Option ClampKind :=
    if v < lo then (lo, some .clamp) else if hi < v then (hi, some .clamp) else (v, none)
  match d with
  | .any => (v, none)
  | .range lo hi => clamp lo hi
  | .subst lo hi w => if lo ≤ v ∧ v ≤ hi then (w, some .subst) else (v, none)
  | .aqcq => if v = 0 then (0, none) else clamp 4 16
  | .fetchA => clamp 0 (if x8 then 7 else 15)

/-- Bytes of BAR0 that hold FRAME while its writes are discarded: LAT_CTL in SCHEDULED mode (R209). -/
def State.frameHeld (s : State) (off lsb : Nat) : Bool :=
  off == 0x4000 && lsb == 4 && s.get R.LAT_STAT_MODE == 1

/-- One field of a register applied with the written value `v` of its bits (R10, R290, R295). -/
def State.applyField (s : State) (src off : Nat) (d : FDesc) (v : Nat) : State :=
  let f : FRef := ⟨off, d.lsb, d.w, d.rst⟩
  match d.acc with
  | .ro | .rc | .wo => s
  | .w1c => s.put f (s.get f &&& (2 ^ d.w - 1 - v))
  | .w1s => s.put f (s.get f ||| v)
  | .rw =>
    if s.frameHeld off d.lsb then
      if v = s.get f then s else s.clampLog off src .discard d.lsb d.w v (s.get f)
    else
      let r := checkField s.board.x8 d.rule v
      let s := s.put f r.1
      match r.2 with
      | some k => s.clampLog off src k d.lsb d.w v r.1
      | none => s

/-- A whole register applied, field by field in rising order of bits (R290, R295). -/
def State.applyReg (s : State) (src off : Nat) (l : List FDesc) (v : Nat) : State :=
  l.foldl (fun s d => s.applyField src off d (bits v d.lsb d.w)) s

/-- The 32-bit words latched for the register at `off` by partner `src`. -/
def State.latched (s : State) (off src w : Nat) : Option Nat :=
  (s.latch.find? fun e => e.1 == off && e.2.1 == src && e.2.2.1 == w).map fun e => e.2.2.2

/-- The latch of a register emptied. -/
def State.unlatch (s : State) (off src : Nat) : State :=
  { s with latch := s.latch.filter fun e => !(e.1 == off && e.2.1 == src) }

/-- Words latched for a register. -/
def State.latchWords (s : State) (off src : Nat) (l : List (Nat × Nat)) : State :=
  l.foldl (fun s p => { s with latch := (s.latch.filter fun e => !(e.1 == off && e.2.1 == src && e.2.2.1 == p.1)) ++ [(off, src, p.1, p.2)] }) s

/-- Whether the register at `off` belongs to the grouped setting of a port's admin rings, and the port (R291, Table 10-15). -/
def aqGroup (off : Nat) : Option Nat :=
  let p := (off - 0x6000) / 0x100
  let o := (off - 0x6000) % 0x100
  if 0x6000 ≤ off ∧ off < 0x6200 ∧ o < 0x14 then some p else none

/-- Whether a rule discards a write of the register at `off` as a whole: LSLOT in SCHEDULED mode (R209), the admin ring settings while the pair runs (Table 10-15). -/
def State.discards (s : State) (off : Nat) : Bool :=
  (decide (0x2000000 ≤ off) && decide (0x4000 ≤ (off - 0x2000000) % 0x10000) && decide ((off - 0x2000000) % 0x10000 < 0x4400) &&
    s.get R.LAT_STAT_MODE == 1) ||
  (match aqGroup off with | some p => s.get (R.AQ_STAT_RDY p) == 1 | none => false)

/-- A value for the whole register `r` at `off`: held until its commit (R291), or applied. -/
def State.commitReg (s : State) (src off : Nat) (r : RDesc) (v : Nat) : State :=
  match aqGroup off with
  | some p => s.onPort p fun x => { x with heldW := (x.heldW.filter fun e => e.1 != off) ++ [(off, src, v)] }
  | none => s.applyReg src off r.fields v

/-- Registers whose every write is described by a rule of its own: TOP.RST_CTL (R288), TOP.SETUP_LOCK (R294), AQ_CTL (R317), TILE_CTL, SPOWN and SPRET of a tile (R99, R102, R112). -/
def ownWrite (base : Nat) : Bool :=
  base == 0x30 || base == 0x34 || base == 0x6014 || base == 0x6114 ||
    (decide (0x2000000 ≤ base) && (base % 0x10000 == 4 || base % 0x10000 == 0x10 || base % 0x10000 == 0x14))

/-! ### Writes of both ports in one cycle (R285) -/

/-- A register written by port B is remembered for the cycle. -/
def State.noteB (s : State) (src base v : Nat) : State :=
  if src = 1 then { s with wrB := (base, s.now, v) :: s.wrB.filter fun e => e.1 != base && e.2.1 == s.now } else s

/-- The value that port B has written to the register in this cycle, which stands against a write from port A (R285). -/
def State.standB (s : State) (src base : Nat) : Option Nat :=
  if src = 0 then (s.wrB.find? fun e => e.1 == base && e.2.1 == s.now).map fun e => e.2.2 else none

/-- The value of port B put again over one of port A's. -/
def State.againB (s : State) (base : Nat) (r : RDesc) (v : Nat) : State :=
  match aqGroup base with
  | some _ => s.commitReg 1 base r v
  | none => s.each r.fields fun s d =>
      let v := bits v d.lsb d.w
      if d.acc == .rw && !s.frameHeld base d.lsb then s.put ⟨base, d.lsb, d.w, d.rst⟩ (checkField s.board.x8 d.rule v).1 else s

/-- One access of 4 or 8 bytes that lies in one register, or in none (R284); `k` is what the applied value does besides. A write from port A comes before one from port B of the same cycle, whose value stands (R285). -/
def State.writeWord (s : State) (src : Nat) (off bytes v : Nat) (k : Nat → Nat → State → State) : State :=
  match regFind off regTable with
  | none => if (s.viewReg off).isSome then s else s.clampLog off src .unmapped 0 (8 * bytes) v 0
  | some (r, b) =>
    let base := off - b
    if s.discards base then s.clampLog off src .discard 0 (8 * bytes) v (s.regRaw off bytes)
    else if ownWrite base then
      match s.standB src base with
      | some w => k base w (k base v s)
      | none => k base v (s.noteB src base v)
    else if b + bytes < r.bytes then s.latchWords base src ((List.range (bytes / 4)).map fun i => (b / 4 + i, bits v (32 * i) 32))
    else
      let cur := s.regValue base r.fields
      let low := ((List.range (b / 4)).map fun w => ((s.latched base src w).getD (bits cur (32 * w) 32)) * 2 ^ (32 * w)).sum
      let whole := low + v * 2 ^ (8 * b)
      let t := (s.unlatch base src).commitReg src base r whole
      match s.standB src base with
      | some w => k base whole (t.againB base r w)
      | none => k base whole (t.noteB src base whole)

/-- A write of BAR0 by a partner or by firmware: sizes and alignment (R284), readiness (R286), the lock (R294), then each register it covers. -/
def State.barWrite (s : State) (src : Partner) (off size v : Nat) (k : Nat → Nat → State → State) : State :=
  let v := v % 2 ^ (8 * size)
  let c := srcCode src
  if !s.reaches src off then s
  else if !((size == 4 || size == 8) && off % size == 0) then s.clampLog off c .unmapped 0 (8 * size) v 0
  else
    let part (off bytes v : Nat) (s : State) : State := regWrite src off bytes v s fun s => s.writeWord c off bytes v k
    if size = 4 then part off 4 v s
    else
      match regFind off regTable, regFind (off + 4) regTable with
      | none, none => part off 8 v s
      | some (r, b), _ =>
        if b + 8 ≤ r.bytes then part off 8 v s else part (off + 4) 4 (v / 2 ^ 32) (part off 4 (v % 2 ^ 32) s)
      | none, some _ => part (off + 4) 4 (v / 2 ^ 32) (part off 4 (v % 2 ^ 32) s)

end Sys2Proof.Machine
end

