-- ==== Sys2Proof/Machine/Lattice.lean ====
section
/-! DEFINITION. The lattice and the tangent (R196 to R220): packets and VAL messages arriving, the timing mode. -/

namespace Sys2Proof.Machine

open Sys2Proof

/-- SOURCE of a stack access that comes over the lattice from node `n` (Table 6-11). -/
def latSource (n : Nat) : BitVec 4 :=
  if n = 0x170 ∨ n = 0x171 then 3 else if n = 0x185 then 4 else if n = 0x184 then 5
  else if 0x178 ≤ n ∧ n ≤ 0x180 then 7 else 2

/-- The stack accesses that a lattice packet makes. -/
def latAccess (p : LatPkt) (ecc : Ecc) : StackAcc := srcAcc (latSource p.src.toNat) false p.owner ecc

/-- The bytes of a WRITE that are valid, as an address and their values: from FIRST_OFF of the first word to LAST_LEN of the last (Table 7-4; DEDUCED, log entry 10). -/
def latSpan (p : LatPkt) : Nat × List Byte :=
  let base := p.addr.toNat / 64 * 64
  let last := if p.lastLen = 0 then 64 else p.lastLen.toNat
  let stop := 64 * (p.words - 1) + last
  (base + p.firstOff.toNat, (p.data.take stop).drop p.firstOff.toNat)

/-! ### Arrival (R201, R203, R218) -/

/-- A packet reaches its end and is handled by `k`, unless an earlier one must come first (R201) or it is lost on its way (R218); while `busy` it stays where it is. -/
def State.latArrive (s : State) (op : Nat) (dst : LatDst) (p : LatPkt) (err : NetErr) (busy : Option State)
    (k : LatFly → State → State) : State :=
  match s.latTake op dst p, busy with
  | none, _ => s
  | some _, some b => b
  | some (s', e), none =>
    let r := s'.latPass e err fun r s => s.fault 0x0E r
    if r.2 then k e r.1 else r.1

/-- A packet for a fenced tile; one sent to the site itself passes the fence (R114, Table 7-3). -/
def State.fencedOff (s : State) (t : Site) (p : LatPkt) : Bool := (s.tile t).fenced && decide (p.dest.toNat < 0x400)

/-- A WRITE or READ of a tile waits while a bank it reaches is asleep, and starts its wake (R103). -/
def State.latAsleep (s : State) (dst : LatDst) (p : LatPkt) (l : List (Nat × Nat)) : Option State :=
  match dst with
  | .tile t => if s.fencedOff t p then none else (s.sleepsOn t 3 l).map (s.spTouch t)
  | _ => none

/-! ### Transfers and their signals (R96, R211, R245) -/

/-- The transfer a packet belongs to: that of its descriptor, or for a packet whose sender the model does not hold the destination, source and OWNER (R245; DEDUCED, log entry 11). -/
def latKey (dst : Nat) (e : LatFly) : Nat × Nat × Nat := e.tr.getD (dst, e.p.src.toNat, e.p.owner.toNat)

/-- The end of a packet at its destination, whose stop is node `src`: a dropped write is remembered until the last packet of its transfer, whose signal it withholds; a performed last packet applies its signal (R96, R211, R245). A transfer with no signal, of key 0, remembers nothing. -/
def State.latEnd (s : State) (src : Nat) (k : Nat × Nat × Nat) (p : LatPkt) (ok : Bool) : State :=
  let lost := s.lost.contains k
  if p.sa then
    let s' := { s with lost := s.lost.filter fun e => e != k }
    if ok && !lost then s'.signal src p.sigH p.sigN else s'
  else if (ok || lost || k.1 == 0) = true then s
  else { s with lost := k :: s.lost }

/-! ### WRITE (R203, R204, R211) -/

/-- A tile performs a WRITE through DMA write port 0 (R203); a write to a fenced tile (R114) or to a bank that DMA does not own (R96) is dropped, and the request that owns it ends FAULT (R247). -/
def State.latTileWrite (s : State) (t : Site) (e : LatFly) : State :=
  if s.fencedOff t e.p then
    ((s.bump (R.FENCE_DROP_CNT t.val)).workFailed e.p.owner stFAULT 0).latEnd (siteNode t) (latKey t.val e) e.p false
  else
    let r := s.spStore t 3 0 (latSpan e.p).1 (latSpan e.p).2
    (if r.2 then r.1 else r.1.workFailed e.p.owner stFAULT 0).latEnd (siteNode t) (latKey t.val e) e.p r.2

/-- A READY stack performs a WRITE word by word (R171); the signal goes with the last packet (R211, R245). -/
def State.latStackWrite (s : State) (n : Nat) (p : LatPkt) (tr : Option (Nat × Nat × Nat)) (ecc : Ecc) : State :=
  let r := s.stackWriteSpan (latAccess p ecc) (latSpan p).1 (latSpan p).2
  r.1.latEnd (0x100 + n) (tr.getD (0x200 + n, p.src.toNat, p.owner.toNat)) p r.2

/-- A packet arrives at the stack controller `n`: held as one unit while the stack is not READY (R190, R192), and otherwise handled by `k`. -/
def State.latStack (s : State) (n : Nat) (p : LatPkt) (h : Held) (k : State → State) : State :=
  if !stackBad p.addr.toNat && s.stackWaits p.addr.toNat then s.stackHold n p.words h else k s

/-- A WRITE packet arrives (R197, R203, R204, R211, R218). -/
def execLatticeWrite (dst : LatDst) (p : LatPkt) (ecc : Ecc) (s : State) (err : NetErr := .none) : Res State :=
  .next (
    s.latArrive 0 dst p err (s.latAsleep dst p (spWords (latSpan p).1 (latSpan p).2.length)) fun e s =>
      match dst with
      | .tile t => s.latTileWrite t e
      | .stack n => s.latStack n.val p (.write p e.tr ecc) fun s => s.latStackWrite n.val p e.tr ecc
      | .engine _ | .agent _ => s.emit (.latIn p.dest 0 p))

/-! ### READ (R203, R204) -/

/-- The answer to a READ, from the node that was asked. -/
def latAnswer (p : LatPkt) (err : Bool) (data : List Byte) : LatPkt :=
  { p with mc := false, sa := false, err := err, dest := p.src, src := p.dest, data := data, parts := [] }

/-- A READ answered with its words (R204). -/
def State.rdRsp (s : State) (p : LatPkt) (err : Bool) (bs : List Byte) : State := s.inject 2 (latAnswer p err bs) (some (0, 0, 0))

/-- A READ refused, with the reason the requester records (R204, Table 8-5). -/
def State.rdErr (s : State) (p : LatPkt) : State := s.inject 3 (latAnswer p false []) (some (0, 0, 0))

/-- A READ of a tile through the DMA read port (R95, R114, R203, R204). -/
def State.latTileRead (s : State) (t : Site) (p : LatPkt) : State :=
  if s.fencedOff t p then s.rdErr p
  else
    let r := s.spLoad t 3 (p.addr.toNat / 64 * 64) (64 * p.words)
    match r.2 with
    | some bs => r.1.rdRsp p false bs
    | none => r.1.rdErr p

/-- A READ of a READY stack, word by word: refused under R175, or answered, with ERR when a word holds an uncorrectable error (R184, R185, R204). -/
def State.latStackRead (s : State) (p : LatPkt) (ecc : Ecc) : State :=
  let r := s.stackReadSpan (latAccess p ecc) (p.addr.toNat / 64 * 64) (64 * p.words)
  match r.2.1 with
  | some bs => r.1.rdRsp p r.2.2 bs
  | none => r.1.rdErr p

/-- A READ packet arrives (R197, R203, R204, R218). -/
def execLatticeRead (dst : LatDst) (p : LatPkt) (s : State) (ecc : Ecc := .clean) (err : NetErr := .none) : Res State :=
  .next (
    s.latArrive 1 dst p err (s.latAsleep dst p (spWords (p.addr.toNat / 64 * 64) (64 * p.words))) fun _ s =>
      match dst with
      | .tile t => s.latTileRead t p
      | .stack n => s.latStack n.val p (.read p ecc) fun s => s.latStackRead p ecc
      | .engine _ | .agent _ => s.emit (.latIn p.dest 1 p))

/-! ### Partials (R87, R152, R203) -/

/-- Flits that stand in a tile's ejection buffer (R203). -/
def Tile.ejFlits (x : Tile) : Nat := (x.ej.map fun e => flitsOf (4 * e.2.parts.length)).sum

/-- A packet of forwarded partials enters the ejection buffer of its tile, where the EBA's round-robin finds it; while the 16 flits are full it stays on its way (R203). A fenced tile drops it (R114). -/
def State.latPart (s : State) (t : Site) (f : Bool) (p : LatPkt) (err : NetErr) : State :=
  let x := s.tile t
  let full := !x.fenced && decide (16 < x.ejFlits + flitsOf (4 * p.parts.length))
  s.latArrive (if f then 5 else 4) (.tile t) p err (if full then some s else none) fun _ s =>
    if (s.tile t).fenced then s.bump (R.FENCE_DROP_CNT t.val)
    else s.onTile t fun x => { x with ej := x.ej ++ [(f, p)] }

/-- Array partials forwarded by another tile arrive (R152). -/
def execPartW (t : Site) (p : LatPkt) (s : State) (err : NetErr := .none) : Res State := .next (s.latPart t false p err)

/-- FP32 partials forwarded by another tile arrive (R152). -/
def execPartF (t : Site) (p : LatPkt) (s : State) (err : NetErr := .none) : Res State := .next (s.latPart t true p err)

/-! ### Timing modes (R207 to R210) -/

/-- A write of LAT_CTL; a MODE_REQ that differs from the mode in force starts a switch by holding every injection (R209). -/
def execModeReqWrite (src : Partner) (v : BitVec 32) (s : State) : Res State :=
  .next (s.barWrite src 0x4000 4 v.toNat fun _ _ s =>
    if s.get R.LAT_CTL_MODE_REQ ≠ s.get R.LAT_STAT_MODE ∧ s.get R.LAT_STAT_SWITCHING = 0 then
      { s.put R.LAT_STAT_SWITCHING 1 with latSw := some s.now }
    else s)

/-- The empty lattice takes the requested mode in a lattice cycle that begins a frame, and the held injections are released (R209). -/
def execLatticeModeSwitch (s : State) : Res State :=
  .next (
    if s.get R.LAT_STAT_SWITCHING = 0 ∨ !s.latQuiet ∨ s.latCycle % s.frame ≠ 0 then s
    else
      let m := s.get R.LAT_CTL_MODE_REQ
      State.releaseHeld { ((s.put R.LAT_STAT_MODE m).put R.LAT_STAT_SWITCHING 0).bumpEvt R.LAT_SWITCH_CNT R.NET_EVT_MODE_CHG
        with latSw := none })

/-- The lattice was not empty within QUIESCE_LIM: the old mode stays, MODE_REQ is written back and the held injections are released (R209). -/
def execQuiesceTo (s : State) : Res State :=
  .next (
    match s.latSw with
    | none => s
    | some t0 =>
      if t0 + usTicks (s.get R.LAT_CTL_QUIESCE_LIM) ≤ s.now then
        State.releaseHeld { ((s.put R.LAT_CTL_MODE_REQ (s.get R.LAT_STAT_MODE)).put R.LAT_STAT_SWITCHING 0).bumpEvt R.LAT_QTO_CNT R.NET_EVT_QUIESCE_TO
          with latSw := none }
      else s)

/-! ### VAL messages (R216) -/

/-- A VAL message writes its bytes through DMA write port 0 and then applies its signal (R216); it waits while the bank it reaches is asleep (R103). -/
def execVal (t : Site) (m : ValMsg) (err : NetErr) (s : State) : Res State :=
  .next (
    let go (s : State) : State :=
      s.tanArrive (.val t m) (s.tanStop (siteNode t)) err fun s =>
        if (s.tile t).fenced then s.bump (R.FENCE_DROP_CNT t.val)
        else
          let w := s.spStore t 3 0 m.addr.toNat m.data
          if w.2 then (if m.sa then w.1.signal (siteNode t) m.sigH m.sigN else w.1) else w.1.workFailed m.owner stFAULT 0
    if (s.tile t).fenced || (s.tanTake (.val t m)).isNone then go s else s.awake t 3 (spWords m.addr.toNat m.data.length) go)

end Sys2Proof.Machine
end

