-- ==== Sys2Proof/Machine/Sync.lean ====
section
/-! DEFINITION. Synchronisation objects and their stops (R221 to R231). -/

namespace Sys2Proof.Machine

open Sys2Proof

/-- The object index of a handle (R221). -/
def hIndex (h : Handle) : Nat := bits h.toNat 0 15
/-- The generation of a handle (R221). -/
def hGen (h : Handle) : Nat := bits h.toNat 15 8

/-- The scan of a COUNTER object's queue in arrival order: the counter left, the waiters released, the waiters kept (R227). -/
def scanQueue (counter : Nat) (blocked : Bool) (q : List Waiter) : Nat × List WaiterId × List Waiter :=
  match q with
  | [] => (counter, [], [])
  | w :: r =>
    let th := w.thr.toNat
    if !w.acq then
      let z := scanQueue counter blocked r
      if th ≤ counter then (z.1, w.who :: z.2.1, z.2.2) else (z.1, z.2.1, w :: z.2.2)
    else if !blocked && decide (th ≤ counter) then
      let z := scanQueue (counter - th) false r
      (z.1, w.who :: z.2.1, z.2.2)
    else
      let z := scanQueue counter true r
      (z.1, z.2.1, w :: z.2.2)

/-- The node of the stop that holds object `i` (R221). -/
def objNode (i : Nat) : Nat := 0x140 + i / 1024

/-- RELEASE messages of object `i` to waiters, in order, as SIG messages (R226, R229). -/
def State.releaseAll (s : State) (i : Nat) (l : List WaiterId) : State :=
  s.each l fun s w => s.post (objNode i) (waiterNode w) clSIG (.release w)

/-- A COUNTER object scanned after its counter changed (R227). -/
def State.scanObj (s : State) (i : Nat) : State :=
  let o := s.obj i
  let z := scanQueue o.counter false o.q
  (s.onObj i fun o => { o with counter := z.1, q := z.2.2 }).releaseAll i z.2.1

/-- The saturated sum of a counter and an increment. -/
def satAdd (a b : Nat) : Nat := min (a + b) (2 ^ 32 - 1)

/-- A SIGNAL applied to object `i` (Table 8-2, R227, R228). -/
def State.objSignal (s : State) (i n : Nat) : State :=
  let o := s.obj i
  let c := satAdd o.counter n
  let s := if 2 ^ 32 ≤ o.counter + n then s.bumpEvt R.SIG_OVF R.SYNC_EVT_SIG_OVF else s
  let s := (s.bump R.SIG_CNT).onObj i fun o => { o with counter := c }
  if o.mode = 2 then
    if o.target ≤ c then
      (s.onObj i fun o => { o with counter := c - o.target, q := [] }).releaseAll i (o.q.map (·.who))
    else s
  else s.scanObj i

/-- A RESET applied to object `i` (Table 8-2). -/
def State.objReset (s : State) (i n : Nat) : State :=
  let s := s.bump R.SIG_CNT
  if (s.obj i).mode = 2 then s.onObj i fun o => { o with counter := 0, target := max n 1 }
  else (s.onObj i fun o => { o with counter := n }).scanObj i

/-- A waiter appended to an object's queue, or refused when 64 wait (R230). -/
def State.objQueue (s : State) (i : Nat) (w : Waiter) : State :=
  if 64 ≤ (s.obj i).q.length then (s.bumpEvt R.WAITQ_FULL R.SYNC_EVT_WAITQ_FULL).post (objNode i) (waiterNode w.who) clSIG (.refuse w.who)
  else s.onObj i fun o => { o with q := o.q ++ [w] }

/-- A WAIT or ACQUIRE on object `i`: tested as the last entry of the queue, then queued (R227); always queued in BARRIER mode (R228). -/
def State.objWait (s : State) (i : Nat) (w : Waiter) : State :=
  let o := s.obj i
  if o.mode = 2 then s.objQueue i w
  else if w.thr.toNat ≤ o.counter ∧ !(w.acq && o.q.any (·.acq)) then
    (if w.acq then s.onObj i fun o => { o with counter := o.counter - w.thr.toNat } else s).releaseAll i [w.who]
  else s.objQueue i w

/-- An operation at its stop: dropped on a FREE object or a stale generation (R225), or performed by `k`. -/
def State.atObj (s : State) (h : Handle) (k : State → State) : State :=
  let o := s.obj (hIndex h)
  if o.mode = 0 then s.bumpEvt R.FREE_OP_CNT R.SYNC_EVT_FREE_OP
  else if o.gen ≠ hGen h then s.bumpEvt R.STALE_SIG R.SYNC_EVT_STALE
  else k s

/-- A SIG message reaches its stop in its turn; one that finds the buffer of 128 full passes on round the ring (R229). -/
def State.atStop (s : State) (h : Handle) (op : Nat) (n : BitVec 32) (w : Option WaiterId) (full : Bool) (err : NetErr)
    (k : State → State) : State :=
  if full then (if (s.tanTake (.sig h op n w)).isNone then s else s.bumpEvt R.RECIRC_CNT R.SYNC_EVT_RECIRC)
  else s.tanArrive (.sig h op n w) (s.tanStop (stopNode h)) err k

/-- A SIGNAL reaches its stop (R226, R227). -/
def execStopSignal (h : Handle) (n : BitVec 32) (full : Bool) (s : State) (err : NetErr := .none) : Res State :=
  .next (s.atStop h 0 n none full err fun s => s.atObj h fun s => s.objSignal (hIndex h) n.toNat)

/-- A WAIT reaches its stop. -/
def execStopWait (h : Handle) (n : BitVec 32) (w : WaiterId) (full : Bool) (s : State) (err : NetErr := .none) : Res State :=
  .next (s.atStop h 1 n (some w) full err fun s => (s.bump R.WAIT_CNT).atObj h fun s => s.objWait (hIndex h) ⟨w, false, n⟩)

/-- An ACQUIRE reaches its stop. -/
def execStopAcquire (h : Handle) (n : BitVec 32) (w : WaiterId) (full : Bool) (s : State) (err : NetErr := .none) : Res State :=
  .next (s.atStop h 2 n (some w) full err fun s => (s.bump R.WAIT_CNT).atObj h fun s => s.objWait (hIndex h) ⟨w, true, n⟩)

/-- A RESET reaches its stop. -/
def execStopReset (h : Handle) (n : BitVec 32) (full : Bool) (s : State) (err : NetErr := .none) : Res State :=
  .next (s.atStop h 3 n none full err fun s => s.atObj h fun s => s.objReset (hIndex h) n.toNat)

/-- The object command of SYNC.OBJ_CMD (R224, Table 8-6): a new generation, mode, counter and target; every waiter discarded. -/
def State.objCmd (s : State) (src v : Nat) : State :=
  let i := bits v 0 15
  let m := bits v 16 2
  let count := bits v 32 32
  let s := if m = 3 then s.clampLog 0x500000 src .subst 16 2 3 1 else s
  let m := if m = 3 then 1 else m
  let s := if m = 2 ∧ count = 0 then s.clampLog 0x500000 src .clamp 32 32 0 1 else s
  let n := (s.obj i).q.length
  (((s.bump R.TAN_MSG_CNT).bumpEvt R.STALE_SIG R.SYNC_EVT_STALE n)).onObj i fun o =>
    { o with gen := (o.gen + 1) % 256, mode := m, q := [], counter := (if m = 1 then count else 0),
             target := (if m = 2 then max count 1 else 0) }

/-- SYNC.OBJ_CMD written with a mode that allocates (R224). -/
def execObjCmdAllocate (src : Partner) (v : BitVec 64) (s : State) : Res State :=
  .next (s.barWrite src 0x500000 8 v.toNat fun _ w s => s.objCmd (srcCode src) w)

/-- SYNC.OBJ_CMD written with mode FREE (R224). -/
def execObjCmdFree (src : Partner) (v : BitVec 64) (s : State) : Res State :=
  .next (s.barWrite src 0x500000 8 v.toNat fun _ w s => s.objCmd (srcCode src) w)

/-- The operation of SYNC.HOST_SIG (R231, Table 8-7): SIGNAL or RESET, any other code as SIGNAL. -/
def State.hostSig (s : State) (src v : Nat) : State :=
  let h : Handle := BitVec.ofNat 23 v
  let op := bits v 24 3
  let n := bits v 32 32
  let s := if op = 0 ∨ op = 3 then s else s.clampLog 0x500008 src .subst 24 3 op 0
  (s.bump R.TAN_MSG_CNT).atObj h fun s => if op = 3 then s.objReset (hIndex h) n else s.objSignal (hIndex h) n

/-- SYNC.HOST_SIG written with SIGNAL (R231). -/
def execHostSigSignal (src : Partner) (v : BitVec 64) (s : State) : Res State :=
  .next (s.barWrite src 0x500008 8 v.toNat fun _ w s => s.hostSig (srcCode src) w)

/-- SYNC.HOST_SIG written with RESET (R231). -/
def execHostSigReset (src : Partner) (v : BitVec 64) (s : State) : Res State :=
  .next (s.barWrite src 0x500008 8 v.toNat fun _ w s => s.hostSig (srcCode src) w)

end Sys2Proof.Machine
end

