-- ==== Sys2Proof/Machine/FabSend.lean ====
section
/-! DEFINITION. Sending on the fabric: vertices, slices, the orbit, routes, flits, link transmitters and bundles (R159 to R163, R253 to R264, R270). -/

namespace Sys2Proof.Machine

open Sys2Proof

/-- On axis `a`, whether a packet moves in the + direction from coordinate `c` to `d`: toward its offset when it stays in a slice that does not close the axis, else the shorter way, a tie going + (R264). -/
def stepPlus (b : Option Binding) (tor a c d dst : Nat) : Bool :=
  match b with
  | some b =>
    if inSlice b dst && decide ((bindAx b a).2.2 < tor) then decide (sliceOff b a c < sliceOff b a d)
    else decide (2 * ((d + tor - c) % tor) ≤ tor)
  | none => decide (2 * ((d + tor - c) % tor) ≤ tor)

/-- The first direction of the route from vertex `v` to `dst` of a packet whose sender's slice is `b` (R253, R264): 2 a for + and 2 a + 1 for − on axis a. -/
def State.routeIn (s : State) (b : Option Binding) (v dst : Nat) : Option Nat :=
  ([0, 1, 2].find? fun a => vtxAx v a != vtxAx dst a).map fun a =>
    if stepPlus b (s.torus a) a (vtxAx v a) (vtxAx dst a) dst then 2 * a else 2 * a + 1

/-- The first direction of the route from vertex `v` to `dst` for what this device sends itself (R264). -/
def State.routeFrom (s : State) (v dst : Nat) : Option Nat := s.routeIn s.fbind v dst

/-- The slice of a packet's sender, as far as it is this device's own: that of a packet of its own, or of one from a vertex of its slice (R264). -/
def State.senderSlice (s : State) (p : FabPkt) : Option Binding :=
  match s.fbind with
  | some b => if p.spod.toNat == s.ownPod && (p.svtx.toNat == s.ownVtx || inSlice b p.svtx.toNat) then some b else none
  | none => none

/-- The neighbouring vertex of `v` in direction `d` (R253). -/
def State.neighbour (s : State) (v d : Nat) : Nat :=
  let a := d / 2
  let t := s.torus a
  let c := if d % 2 = 0 then (vtxAx v a + 1) % t else (vtxAx v a + t - 1) % t
  mkVtx (if a = 0 then c else vtxAx v 0) (if a = 1 then c else vtxAx v 1) (if a = 2 then c else vtxAx v 2)

/-! ### Units and flits (R256, Tables 9-2, 9-4, 9-8) -/

/-- The 48-byte header of a fabric packet (Table 9-4). -/
def fabHeader (p : FabPkt) : Nat :=
  p.op.toNat + p.vc.val * 2 ^ 4 + p.sa.toNat * 2 ^ 6 + p.ackreq.toNat * 2 ^ 7 + (p.words - 1) % 8 * 2 ^ 8 + p.cls.toNat * 2 ^ 11 +
    p.space.toNat * 2 ^ 12 + p.dvtx.toNat * 2 ^ 16 + p.svtx.toNat * 2 ^ 28 + p.dpod.toNat * 2 ^ 40 + p.spod.toNat * 2 ^ 52 +
    p.dnode.toNat * 2 ^ 64 + p.bseq.toNat * 2 ^ 80 + p.addr.toNat * 2 ^ 96 + p.owner.toNat * 2 ^ 144 + p.sigH.toNat * 2 ^ 176 +
    p.sigN.toNat * 2 ^ 200 + p.sliceId.toNat * 2 ^ 232 + p.bgen.toNat * 2 ^ 248 + p.tag.toNat * 2 ^ 256 + p.firstOff.toNat * 2 ^ 272 +
    p.lastLen.toNat * 2 ^ 278 + p.reason.toNat * 2 ^ 284

/-- The 32 bytes of a beacon (Table 9-8). -/
def beaconPayload (b : Beacon) : Nat :=
  b.time.toNat + b.step.toNat * 2 ^ 64 + b.markN.toNat * 2 ^ 112 + b.markT.toNat * 2 ^ 160 + b.sliceId.toNat * 2 ^ 224 +
    b.bgen.toNat * 2 ^ 240 + b.depth.toNat * 2 ^ 248 + b.locked.toNat * 2 ^ 255

/-- SLICE_ID and BGEN that the device sends. -/
def State.sliceTag (s : State) : BitVec 16 × BitVec 8 := match s.fbind with | some b => (b.sliceId, b.bgen) | none => (0, 0)

/-- The header of a beacon or management packet on link `l`: operation and channel of Table 9-5, from this vertex to the neighbour on the link (DEDUCED, log entry 88). -/
def State.ctmHeader (s : State) (l op : Nat) : Nat :=
  op + 3 * 2 ^ 4 + (if l < 48 then s.neighbour s.ownVtx (linkDir l) else s.ownVtx) * 2 ^ 16 + s.ownVtx * 2 ^ 28 + s.ownPod * 2 ^ 40 +
    s.ownPod * 2 ^ 52 + s.sliceTag.1.toNat * 2 ^ 232 + s.sliceTag.2.toNat * 2 ^ 248

/-- What a management record says, by kind and value, for its unit. -/
def mgmtKey : MgmtRec → Nat × Nat
  | .identity id => (0, id.vtx.toNat + id.pod.toNat * 2 ^ 12 + id.link.toNat * 2 ^ 24 + id.sliceId.toNat * 2 ^ 30 + id.bgen.toNat * 2 ^ 46)
  | .adopt f => (1, f.val)
  | .delay d => (2, d.toNat)

/-- The bytes of what link `l` transmits, in whole 16-byte units: a header of 3 units and the payload (R256); a management packet has one unit of it (PRESUMED, log entry 88). -/
def State.txBytes (s : State) (l : Nat) : TxItem → List Byte
  | .pkt p => leBytes 48 (fabHeader p) ++ p.data ++ List.replicate ((16 - p.data.length % 16) % 16) 0
  | .beacon b => leBytes 48 (s.ctmHeader l 7) ++ leBytes 32 (beaconPayload b)
  | .mgmt r => leBytes 48 (s.ctmHeader l 8) ++ leBytes 16 (Config.mgmtUnit (mgmtKey r).1 (mgmtKey r).2).toNat

/-- Its 16-byte units (R256). -/
def txUnits : TxItem → Nat
  | .pkt p => 3 + (p.data.length + 15) / 16
  | .beacon _ => 5
  | .mgmt _ => 4

/-- Its virtual channel (Table 9-5). -/
def txVc : TxItem → Nat
  | .pkt p => p.vc.val
  | .beacon _ | .mgmt _ => 3

/-- Waiting items packed into `room` units, `sent` units of the first having left: what lies in the flit and whether it ends there, what still waits, and the units of its first item that have left (R256). -/
def packUnits (room sent : Nat) : List TxItem → List (TxItem × Bool) × List TxItem × Nat
  | [] => ([], [], 0)
  | i :: r =>
    let left := txUnits i - sent
    if room = 0 then ([], i :: r, sent)
    else if left ≤ room then let z := packUnits (room - left) 0 r; ((i, true) :: z.1, z.2)
    else ([(i, false)], i :: r, sent + room)

/-- The 256 bytes of a flit: header, payload, CRC-32C (R256, Table 9-2). -/
def flitBytes (type vc fseq ack pstart : Nat) (data : List Byte) : List Byte :=
  let b := leBytes 12 (type + vc * 2 ^ 2 + fseq * 2 ^ 4 + ack * 2 ^ 16 + pstart * 2 ^ 38) ++ data ++ List.replicate (240 - data.length) 0
  b ++ leBytes 4 (crc32c b)

/-! ### Links (R256 to R258) -/

/-- A flit put on a link, with the highest FSEQ received in order (R257). -/
def State.flitOut (s : State) (l : Nat) (f : TxFlit) : State :=
  (s.bump (R.FLIT_TX l)).emit (.flit l (flitBytes 0 f.vc f.fseq (((s.lnk l).rx + 4095) % 4096) f.pstart f.data))

/-- What has left a link whole. -/
def State.itemOut (s : State) (l : Nat) : TxItem → State
  | .pkt p => s.emit (.fab l p)
  | .beacon b => s.emit (.beacon l b)
  | .mgmt r => s.emit (.mgmt l r)

/-- TIME of a beacon is the time at which its flit starts (R273). -/
def State.stamped (s : State) : TxItem → TxItem
  | .beacon b => .beacon { b with time := BitVec.ofNat 64 s.tm.time }
  | i => i

/-- The units of virtual channel `v` that wait on a link. -/
def Lnk.waiting (k : Lnk) (v : Nat) : Nat := ((k.wait.filter fun i => txVc i == v).map txUnits).sum - k.sent.getD v 0

/-- The next DATA flit of virtual channel `v`: it takes an FSEQ, a credit and a place in the replay store (R256, R257). -/
def State.linkFlit (s : State) (l v : Nat) : State :=
  let k := s.lnk l
  let q := (k.wait.filter fun i => txVc i == v).map s.stamped
  let sent := k.sent.getD v 0
  let z := packUnits 15 sent q
  let first := match q with | i :: _ => if sent = 0 then 0 else if z.1.length < 2 then 15 else txUnits i - sent | [] => 15
  let f : TxFlit := ⟨k.tx, v, first, (((q.map (s.txBytes l)).flatten).drop (16 * sent)).take 240, z.1⟩
  ((s.flitOut l f).onLnk l fun k =>
    { k with tx := (k.tx + 1) % 4096, replay := k.replay ++ [f], credit := setAt k.credit v (k.credit.getD v 0 - 1)
             wait := (k.wait.filter fun i => txVc i != v) ++ z.2.1, sent := setAt k.sent v z.2.2 }).each
    (z.1.filter fun e => e.2) fun s e => s.itemOut l e.1

/-- Packets of a link of one virtual channel that are sent and not acknowledged (R257, R263). -/
def Lnk.inFlight (k : Lnk) (v : Nat) : Nat := (k.replay.map fun f => (f.items.filter fun e => e.2 && txVc e.1 == v).length).sum

/-- At most 256 packets of a torus direction and virtual channel are not yet acknowledged (R263). -/
def State.bundleOpen (s : State) (l v : Nat) : Bool :=
  decide (48 ≤ l) || decide (((s.workingLinks (linkDir l)).map fun f => (s.lnk f).inFlight v).sum < 256)

/-- Whether virtual channel `v` of a link may send a flit: units wait, enough for a whole flit unless the tail is to leave too, it holds a credit and the replay store has room (R257); an unadopted spare carries beacons and management packets alone (R261). -/
def State.linkReady (s : State) (l : Nat) (tail : Bool) (v : Nat) : Bool :=
  let k := s.lnk l
  decide ((if tail || v == 3 then 1 else 15) ≤ k.waiting v) && decide (0 < k.credit.getD v 0) && decide (k.replay.length < 128) &&
    (if v = 3 then s.get (R.LNK_STAT_STATE l) == lkACTIVE else s.linkWorks l && s.bundleOpen l v)

/-- Flits leave while they may, beacons and management packets ahead of the others (R257, R273). -/
def State.linkPump (s : State) (l : Nat) (tail : Bool) : Nat → State
  | 0 => s
  | fuel + 1 =>
    match [3, 0, 1, 2].find? (s.linkReady l tail) with
    | some v => (s.linkFlit l v).linkPump l tail fuel
    | none => s

/-- Flits enough for all that waits on a link. -/
def Lnk.pumps (k : Lnk) : Nat := (k.wait.map txUnits).sum

/-- Every whole flit that may leave a link leaves; the tail of what waits goes with the next tick (R256). -/
def State.linkGo (s : State) (l : Nat) : State := s.linkPump l false (s.lnk l).pumps

/-- A packet handed to a link (R257). -/
def State.linkSend (s : State) (l : Nat) (p : FabPkt) : State := (s.onLnk l fun k => { k with wait := k.wait ++ [.pkt p] }).linkGo l

/-- A beacon or management packet handed to a link, a beacon ahead of what has not begun to leave (R273). -/
def State.ctmSend (s : State) (l : Nat) (i : TxItem) : State :=
  (s.onLnk l fun k => { k with
    wait := match i with | .beacon _ => (if k.sent.getD 3 0 = 0 then i :: k.wait else k.wait ++ [i]) | _ => k.wait ++ [i] }).linkGo l

/-- Every link of the direction of `l` sends what waits and may leave. -/
def State.dirPump (s : State) (l : Nat) : State :=
  s.each ((dirLinks (linkDir l)).filter fun f => !(s.lnk f).wait.isEmpty) fun s f => s.linkGo f

/-! ### Bundles and routes (R263, R264, R270) -/

/-- The bundle of a direction and virtual channel. -/
def State.bundle (s : State) (k : Nat) : Bundle := sget Bundle.init s.bundles k

/-- The state with bundle `k` changed. -/
def State.onBundle (s : State) (k : Nat) (f : Bundle → Bundle) : State := { s with bundles := supd Bundle.init s.bundles k f }

/-- A packet with its dateline class for the hop that leaves this device on axis `a` (R264): class 1 from the wrap until it turns. -/
def State.dateline (s : State) (p : FabPkt) (d : Nat) : FabPkt :=
  let a := d / 2
  let own := vtxAx s.ownVtx a
  let along := decide (p.via.val / 2 = a)
  let crossed := if d % 2 = 0 then own == 0 else own + 1 == s.torus a
  { p with cls := along && (p.cls || crossed), via := 6 }

/-- A packet sent in a torus direction: the next BSEQ of its bundle, the next working link in turn; it waits while the direction has none (R263). -/
def State.torusSend (s : State) (d : Nat) (p : FabPkt) : State :=
  let k := 4 * d + p.vc.val
  let b := s.bundle k
  match s.workingLinks d with
  | [] => s.onBundle k fun b => { b with wait := b.wait ++ [p] }
  | l0 :: r =>
    let l := ((l0 :: r).find? fun l => decide (b.rr ≤ l % 8)).getD l0
    (s.onBundle k fun b => { b with tx := (b.tx + 1) % 65536, rr := l % 8 + 1 }).linkSend l
      { s.dateline p d with bseq := BitVec.ofNat 16 b.tx }

/-- The packets of a direction that waited for a working link are sent. -/
def State.bundlePump (s : State) (d : Nat) : State :=
  if 6 ≤ d ∨ (s.workingLinks d).isEmpty then s
  else s.each (List.range 4) fun s v =>
    (s.onBundle (4 * d + v) fun b => { b with wait := [] }).each (s.bundle (4 * d + v)).wait fun s p => s.torusSend d p

/-- The link of a spine slot: working link 48 + j, or the spare that replaced it (R270). -/
def State.spineLink (s : State) (p : FabPkt) : Nat :=
  let v := p.dvtx.toNat
  let j := (vtxAx v 0 + vtxAx v 1 + vtxAx v 2 + p.dnode.toNat + p.tag.toNat % 32) % 14
  match (s.lnk (48 + j)).takenBy with | some k => k | none => 48 + j

/-- A packet leaves the device: by the spine when it names another pod, else on the torus (R264, R270); false when a device of role TORUS has no spine route. -/
def State.fabRoute (s : State) (p : FabPkt) : State × Bool :=
  if p.dpod.toNat ≠ s.ownPod then
    if !s.hasSpine then (s, false) else (s.linkSend (s.spineLink p) { p with bseq := 0, via := 6 }, true)
  else
    match s.routeIn (s.senderSlice p) s.ownVtx p.dvtx.toNat with
    | some d => (s.torusSend d p, true)
    | none => (s, true)

end Sys2Proof.Machine
end

