-- ==== Sys2Proof/Machine/Ring.lean ====
section
/-! DEFINITION. Rings of a host port: completions, tokens, messages, fetches, doorbells, and the commands that create and delete rings (R291, R293, R296 to R310, R315, R317). -/

namespace Sys2Proof.Machine

open Sys2Proof

/-! ### Statuses and reasons of completions (Table 10-9) -/

/-- DONE. -/
def stDONE : Nat := 0
/-- DONE_CANCEL_LATE. -/
def stCANCEL_LATE : Nat := 1
/-- CANCELLED. -/
def stCANCELLED : Nat := 2
/-- DEADLINE. -/
def stDEADLINE : Nat := 3
/-- REJECTED_FULL. -/
def stREJECTED : Nat := 4
/-- GRAMMAR_DEAD. -/
def stGDEAD : Nat := 5
/-- VERSION_REBUILT. -/
def stREBUILT : Nat := 8
/-- STALE_ID. -/
def stSTALE : Nat := 9
/-- PREFIX_MISSING. -/
def stPREFIX : Nat := 0xA
/-- BUDGET_TIMEOUT. -/
def stBUDGET : Nat := 0xB
/-- INVALID. -/
def stINVALID : Nat := 0x10
/-- BUSY. -/
def stBUSY : Nat := 0x11

/-- Fields of an entry (Table 10-5). -/
def entField (e : Entry) (lsb w : Nat) : Nat := bits e.toNat lsb w

/-- A payload field of a command. -/
def cf (c : Cmd) (lsb w : Nat) : Nat := entField c.e lsb w

/-- What a completion says beside the command it answers (Table 10-6). -/
structure Done where
  status : Nat
  reason : Nat
  reqid : Nat
  result : Nat
  flags : Nat
  tokens : Nat
  clamped : Bool
  late : Bool
  /-- SQHD of a completion whose command has left its SQ's flight. -/
  head : Nat := 0
deriving DecidableEq, Repr

/-- A completion with a status and a reason alone. -/
def Done.st (status reason : Nat) : Done := ⟨status, reason, 0, 0, 0, 0, false, false, 0⟩

/-- The 256 bits of a completion entry with SQHD `hd`, PHASE left 0 (Table 10-6); the end of a request whose SUBMIT completed earlier carries TAG 0xFFFF. -/
def State.cqEntry (s : State) (c : Cmd) (hd : Nat) (d : Done) : Nat :=
  (if d.late then 0xFFFF else cf c 16 16) + c.sq.val * 2 ^ 16 + d.clamped.toNat * 2 ^ 22 + d.status % 256 * 2 ^ 24 +
    d.reqid % 2 ^ 32 * 2 ^ 32 + hd % 2 ^ 16 * 2 ^ 64 + d.reason % 256 * 2 ^ 80 + d.flags % 256 * 2 ^ 88 +
    s.get R.STEP_NOW_N * 2 ^ 96 + d.tokens % 2 ^ 32 * 2 ^ 144 + d.result % 2 ^ 64 * 2 ^ 176

/-! ### Rings -/

/-- SQ `q` of a port. -/
def PortSt.sq (x : PortSt) (q : Nat) : Option Sq := sget none x.sqs q
/-- CQ `q` of a port. -/
def PortSt.cq (x : PortSt) (q : Nat) : Option Cq := sget none x.cqs q
/-- TQ `q` of a port. -/
def PortSt.tq (x : PortSt) (q : Nat) : Option Cq := sget none x.tqs q

/-- The state with a port's SQ `q` replaced. -/
def State.setSq (s : State) (p q : Nat) (v : Option Sq) : State := s.onPort p fun x => { x with sqs := sset none x.sqs q v }

/-- The state with a port's completion ring (`tq` false) or token ring `q` replaced. -/
def State.setCq (s : State) (p : Nat) (tq : Bool) (q : Nat) (v : Option Cq) : State :=
  s.onPort p fun x => if tq then { x with tqs := sset none x.tqs q v } else { x with cqs := sset none x.cqs q v }

/-- A completion ring or token ring. -/
def State.cqOf (s : State) (p : Nat) (tq : Bool) (q : Nat) : Option Cq := if tq then (s.port p).tq q else (s.port p).cq q

/-- Unread entries of a ring: its tail less the host's head (R299). -/
def Cq.unread (k : Cq) : Nat := (k.tail + 2 ^ k.log2 - k.head) % 2 ^ k.log2

/-- A ring holds at most 2^k − 1 unread entries (R299). -/
def Cq.full (k : Cq) : Bool := decide (2 ^ k.log2 - 1 ≤ k.unread)

/-- Completions a port's store holds (R299). -/
def PortSt.stored (x : PortSt) : Nat := (x.cqs.map fun e => match e.2 with | some k => k.held.length | none => 0).sum

/-- The ring's message (R304). -/
def State.ringMsg (s : State) (p : Nat) (tq : Bool) (q : Nat) (k : Cq) : State :=
  (s.setCq p tq q (some { k with since := 0 })).msixSend p k.vector

/-- One entry written at the part's tail in a single memory write, with PHASE, then its coalesced message (R298, R304). -/
def State.ringWrite (s : State) (p : Nat) (tq : Bool) (q : Nat) (k : Cq) (e : Nat) : State :=
  let n := if tq then 16 else 32
  let s := s.emit (.hostWrite p (k.base.toNat + n * k.tail) (leBytes n (e + k.phase.toNat * 2 ^ (8 * n - 1))))
  let s := s.bump (if tq then R.TQ_POST_CNT p else R.CQ_POST_CNT p)
  let t := (k.tail + 1) % 2 ^ k.log2
  let k' : Cq := { k with tail := t
                          phase := if t = 0 then !k.phase else k.phase
                          first := if k.since = 0 then s.now else k.first
                          since := k.since + 1 }
  if k'.cnt ≤ k'.since then s.ringMsg p tq q k' else s.setCq p tq q (some k')

/-- An entry for a ring: written, or held in order when the ring is full (R299). -/
def State.ringPost (s : State) (p : Nat) (tq : Bool) (q e : Nat) : State :=
  match s.cqOf p tq q with
  | none => s
  | some k =>
    if k.full || !k.held.isEmpty then
      (s.setCq p tq q (some { k with held := k.held ++ [e] })).bump (if tq then R.TQ_HOLD_CNT p else R.CQ_HOLD_CNT p)
    else s.ringWrite p tq q k e

/-- Held entries written in order while there is room (R299). -/
def State.ringDrain (s : State) (p : Nat) (tq : Bool) (q : Nat) : Nat → State
  | 0 => s
  | fuel + 1 =>
    match s.cqOf p tq q with
    | none => s
    | some k =>
      match k.held with
      | [] => s
      | e :: r => if k.full then s else (s.ringWrite p tq q { k with held := r } e).ringDrain p tq q fuel

/-- Whether a completion for CQ `q` finds room in the ring or in the port's store of 32,768 (R299). -/
def State.cqRoom (s : State) (p q : Nat) : Bool :=
  match (s.port p).cq q with
  | none => true
  | some k => (!k.full && k.held.isEmpty) || decide ((s.port p).stored < 32768)

/-- Whether a token for TQ `q` finds room in the ring or in its store of 65,536 (R299). -/
def State.tqRoom (s : State) (p q : Nat) : Bool :=
  match (s.port p).tq q with
  | none => true
  | some k => (!k.full && k.held.isEmpty) || decide (k.held.length < 65536)

/-! ### Completions -/

/-- A list without its first element equal to `x`. -/
def dropFirst {α : Type} [DecidableEq α] (x : α) : List α → List α
  | [] => []
  | y :: r => if y = x then r else y :: dropFirst x r

/-- The elements of a list before the first equal to `x`; all of them when there is none. -/
def beforeFirst {α : Type} [DecidableEq α] (x : α) : List α → List α
  | [] => []
  | y :: r => if y = x then [] else y :: beforeFirst x r

/-- The opcodes of Table 10-7. -/
def opcodeKnown (o : Nat) : Bool := (1 ≤ o && o ≤ 7) || (0x10 ≤ o && o ≤ 0x15) || (0x20 ≤ o && o ≤ 0x23) || o == 0x30

/-- The command of a fetched entry that is in flight: its index and entry, the head after its fetch, and whether it has started. -/
def Sq.entry (x : Sq) (c : Cmd) : Option (Nat × Entry × Nat × Bool) := x.flight.find? fun f => f.1 == c.ix.toNat && f.2.1 == c.e

/-- One completion: posted unless QUIET asks for failures only, and the command leaves its SQ's commands in flight (R297, R305, R306). -/
def State.complete1 (s : State) (c : Cmd) (d : Done) : State :=
  match (s.port c.port).sq c.sq with
  | none => s
  | some x =>
    let e := x.entry c
    let fl := match e with | some f => dropFirst f x.flight | none => x.flight
    let hd := match e with | some f => f.2.2.1 | none => d.head
    let s := s.setSq c.port c.sq (some { x with flight := fl })
    if cf c 9 1 = 1 ∧ d.status = stDONE then s else s.ringPost c.port false x.cq (s.cqEntry c hd d)

/-- Whether a completion of a command of SQ `q` is held and not yet posted (R297, R299). -/
def State.unposted (s : State) (p : Nat) (x : Sq) (q : Nat) : Bool :=
  match (s.port p).cq x.cq with
  | some k => k.held.any fun e => bits e 16 6 == q && bits e 0 16 != 0xFFFF
  | none => false

/-- Whether the entry `f` in flight starts now: it has not started, every earlier entry has, and a FENCE finds every earlier entry's completion posted (R297). -/
def State.mayStart (s : State) (p : Nat) (x : Sq) (q : Nat) (f : Nat × Entry × Nat × Bool) : Bool :=
  let before := beforeFirst f x.flight
  !f.2.2.2 && before.all (fun e => e.2.2.2) && (entField f.2.1 8 1 == 0 || (before.isEmpty && !s.unposted p x q))

/-- The entries of an SQ that start now and have an opcode outside Table 10-7 complete with INVALID, reason OPCODE (R297, R308). -/
def State.rejectUnknown (s : State) (p : Port) (q : Fin 64) : Nat → State
  | 0 => s
  | fuel + 1 =>
    match (s.port p).sq q with
    | none => s
    | some x =>
      match x.flight.find? fun f => !opcodeKnown (entField f.2.1 0 8) && s.mayStart p x q f with
      | none => s
      | some f => (s.complete1 ⟨p, q, BitVec.ofNat 12 f.1, f.2.1⟩ (.st stINVALID 1)).rejectUnknown p q fuel

/-- Unknown entries of an SQ that have come to their turn. -/
def State.rejectAll (s : State) (p : Port) (q : Fin 64) : State :=
  s.rejectUnknown p q (match (s.port p).sq q with | some x => x.flight.length | none => 0)

/-- A DELETE_RING of SQ `q` completes once nothing else fetched from it is in flight; the SQ of the DELETE_RING itself is then judged in its turn (R308, R310). -/
def State.finishDelete (s : State) (p : Port) (q : Fin 64) : Nat → State
  | 0 => s
  | fuel + 1 =>
    match (s.port p).sq q with
    | none => s
    | some x =>
      match x.del with
      | none => s
      | some c =>
        let rest := match x.entry c with | some f => (if c.sq = q then dropFirst f x.flight else x.flight) | none => x.flight
        if rest.isEmpty then
          let s := (s.complete1 c (.st stDONE 0)).setSq p q none
          if c.sq = q then s else (s.rejectAll c.port c.sq).finishDelete c.port c.sq fuel
        else s

/-- A command completes: its entry is posted or held, then what waited for it follows (R297, R308, R310). -/
def State.complete (s : State) (c : Cmd) (d : Done) : State :=
  ((s.complete1 c d).rejectAll c.port c.sq).finishDelete c.port c.sq 64

/-- Whether a ring command of opcode `op` starts: its port serves and its rings run, its SQ has fetched that entry with that opcode, its completion will find room, and its turn has come (R297, R299, R305, R308). -/
def State.ringReady (s : State) (op : Nat) (c : Cmd) : Bool :=
  s.portOn c.port && s.get (R.AQ_STAT_RDY c.port) == 1 && cf c 0 8 == op &&
    match (s.port c.port).sq c.sq with
    | none => false
    | some x => s.cqRoom c.port x.cq && (match x.entry c with | some f => s.mayStart c.port x c.sq f | none => false)

/-- A command has started (R297). -/
def State.starts (s : State) (c : Cmd) : State :=
  match (s.port c.port).sq c.sq with
  | none => s
  | some x =>
    match x.entry c with
    | some f => s.setSq c.port c.sq (some { x with flight := x.flight.map fun e => if e = f then (f.1, f.2.1, f.2.2.1, true) else e })
    | none => s

/-- A ring command of opcode `op` performed by `k`, or waiting while `k` gives nothing; entries that came after it may start then. -/
def State.ringCmdW (s : State) (op : Nat) (c : Cmd) (k : State → Option State) : State :=
  if s.ringReady op c then (match k (s.starts c) with | some t => t.rejectAll c.port c.sq | none => s) else s

/-- A ring command of opcode `op` performed by `k`. -/
def State.ringCmd (s : State) (op : Nat) (c : Cmd) (k : State → State) : State := s.ringCmdW op c fun s => some (k s)

/-- A clamped or substituted payload field, logged with SOURCE RING_A or RING_B (R293, Table 10-4). -/
def State.ringLog (s : State) (c : Cmd) (kind : ClampKind) (lsb w written applied : Nat) : State :=
  s.clampLog (lsb / 8 + c.ix.toNat * 2 ^ 6 + c.sq.val * 2 ^ 18) (6 + c.port.val) kind (lsb % 8) w written applied

/-- A payload field with a range: the value in force and whether it was clamped (R290, R293). -/
def State.ringClamp (s : State) (c : Cmd) (lsb w lo hi : Nat) : State × Nat × Bool :=
  let v := cf c lsb w
  let a := clampNat lo hi v
  if a = v then (s, v, false) else (s.ringLog c .clamp lsb w v a, a, true)

/-! ### Rejected requests -/

/-- An entry returns to FREE, keeping its generation; the pages of a handle that it was the last to name are freed with it (R341). -/
def State.freeReq (s : State) (i : Nat) : State :=
  let h := (s.req i).pfx
  let s := s.onReq i fun r => { Req.init with gen := r.gen }
  match h with | some h => s.pfxUnpin h | none => s

/-- CANCEL commands that waited for a request's end complete DONE with its final status (R329). -/
def State.endCancels (s : State) (l : List Cmd) (status : Nat) : State :=
  s.each l fun s c => s.complete c { Done.st stDONE 0 with result := status }

/-- A SUBMIT or PREFIX_CREATE in ADMIT is rejected: one completion with REQID 0, and the entry returns to FREE (R320, R329, R336). -/
def State.rejectReq (s : State) (i status reason : Nat) : State :=
  let r := s.req i
  let s := match r.cmd with
    | some c => if r.orphan then s else s.complete c { Done.st status reason with clamped := r.clamped }
    | none => s
  (s.freeReq i).endCancels r.cancels status

/-- The entry in ADMIT of a command, if any. -/
def State.admitOf (s : State) (c : Cmd) : Option Nat :=
  (s.serve.reqs.find? fun e => e.2.st == .inAdmission && e.2.cmd == some c).map fun e => e.1

/-- A command fails after its data fetch: a request in ADMIT is rejected, any other command completes (R334, R335). -/
def State.failCmd (s : State) (c : Cmd) (status reason : Nat) : State :=
  match s.admitOf c with
  | some i => s.rejectReq i status reason
  | none => s.complete c (.st status reason)

/-! ### Fetching (R297, R299, R303) -/

/-- Entries between an SQ's head and the tail of its last doorbell (R297). -/
def Sq.waiting (x : Sq) : Nat := (x.tail + 2 ^ x.log2 - x.head) % 2 ^ x.log2

/-- Whether the part may fetch from an SQ (R297, R299, R303, R310). -/
def State.fetchable (s : State) (p : Nat) (x : Sq) : Bool :=
  !x.err && x.del.isNone && decide (0 < x.waiting) && decide ((s.port p).stored < 32768) &&
    match (s.port p).cq x.cq with | some k => k.held.isEmpty | none => false

/-- The SQ a port serves next: descending PRIO, round-robin within one PRIO (R297). -/
def State.fetchTurn (s : State) (p : Nat) : Option Nat :=
  let ok (pr q : Nat) : Bool := match (s.port p).sq q with | some x => x.prio == pr && s.fetchable p x | none => false
  ([3, 2, 1, 0].filterMap fun pr =>
    ((List.range 64).map fun i => (sget 0 (s.port p).turn pr + 1 + i) % 64).find? (ok pr)).head?

/-- A fetch of up to 8 entries completes: its commands start in ring order, or the ring enters ERROR (R297, R303). -/
def execSqFetch (p : Port) (q : Nat) (ok : Bool) (entries : List Entry) (s : State) : Res State :=
  .next (
    match (s.port p).sq q with
    | none => s
    | some x =>
      if s.get (R.AQ_STAT_RDY p) = 0 ∨ !s.portOn p ∨ s.fetchTurn p ≠ some q then s
      else
        let s := s.onPort p fun y => { y with turn := sset 0 y.turn x.prio q }
        if !ok then
          ((s.setSq p q (some { x with err := true })).put (R.AQ_STAT_ERR_SQ p) q).hevt1 p 1
        else
          let es := entries.take (min 8 x.waiting)
          let hd := (x.head + es.length) % 2 ^ x.log2
          let fl := (List.range es.length).zip es |>.map fun e => ((x.head + e.1) % 2 ^ x.log2, e.2, hd, false)
          let s := s.setSq p q (some { x with head := hd, flight := x.flight ++ fl })
          (s.bump (R.SQ_FETCH_CNT p) es.length).rejectAll p (Fin.ofNat 64 q))

/-! ### Doorbells (R299, R301, R302) -/

/-- A discarded doorbell write (R302); `cur` is the index in force. -/
def State.doorbellErr (s : State) (p : Port) (off v cur : Nat) : State :=
  (s.clampLog off (4 + p.val) .discard 0 32 v cur).bump (R.DB_ERR_CNT p)

/-- SQ tail doorbell (R301). -/
def execSqTailDoorbell (p : Port) (q : Nat) (v : BitVec 32) (s : State) : Res State :=
  .next (
    let i := v.toNat % 2 ^ 16
    if !s.portOn p then s else
    match (s.port p).sq q with
    | none => s.doorbellErr p (0x40 * q) v.toNat 0
    | some x => if 2 ^ x.log2 ≤ i then s.doorbellErr p (0x40 * q) v.toNat x.tail else s.setSq p q (some { x with tail := i }))

/-- A head doorbell of a completion or token ring: entries held follow as room appears (R299). -/
def State.headDoorbell (s : State) (p : Port) (tq : Bool) (q v : Nat) : State :=
  let off := (if tq then 0x2000 else 0x1000) + 0x40 * q
  if !s.portOn p then s else
  match s.cqOf p tq q with
  | none => s.doorbellErr p off v 0
  | some k =>
    if 2 ^ k.log2 ≤ v % 2 ^ 16 then s.doorbellErr p off v k.head
    else
      let s := (s.setCq p tq q (some { k with head := v % 2 ^ 16 })).ringDrain p tq q k.held.length
      if tq then s
      else s.each ((List.range 64).filter fun i => (match (s.port p).sq i with | some x => x.cq == q && !x.flight.isEmpty | none => false))
        fun s i => s.rejectAll p (Fin.ofNat 64 i)

/-- CQ head doorbell (R299). -/
def execCqHeadDoorbell (p : Port) (q : Nat) (v : BitVec 32) (s : State) : Res State := .next (s.headDoorbell p false q v.toNat)

/-- TQ head doorbell (R299). -/
def execTqHeadDoorbell (p : Port) (q : Nat) (v : BitVec 32) (s : State) : Res State := .next (s.headDoorbell p true q v.toNat)

/-- U µs after the first entry since the ring's last message, its message (R304). -/
def execMsixCoalesceTimeout (p : Port) (tq : Bool) (id : Nat) (s : State) : Res State :=
  .next (
    match s.cqOf p tq id with
    | none => s
    | some k => if k.us ≠ 0 ∧ 0 < k.since ∧ k.first + usTicks k.us ≤ s.now then s.ringMsg p tq id k else s)

/-! ### Creating and deleting rings (R291, R309, R310, R317) -/

/-- A new completion or token ring (R298). -/
def Cq.make (base : BitVec 64) (log2 vector cnt us : Nat) : Cq := ⟨base, log2, vector, cnt, us, 0, true, 0, [], 0, 0⟩

/-- A new submission ring (R296). -/
def Sq.make (base : BitVec 64) (log2 cq prio : Nat) : Sq := ⟨base, log2, cq, prio, 0, 0, false, [], none⟩

/-- AQ_CTL.EN = 1: the held settings are checked and applied, then SQ 0 and CQ 0 run (R291, R317). -/
def State.aqEnable (s : State) (p : Nat) : State :=
    if s.get (R.AQ_STAT_RDY p) = 1 then s
    else
      let held := (s.port p).heldW
      let s := held.foldl (fun s e => match regFind e.1 regTable with | some (r, _) => s.applyReg e.2.1 e.1 r.fields e.2.2 | none => s) s
      let sqb := BitVec.ofNat 64 (s.get (R.ASQ_BASE_BASE p) * 2 ^ 12)
      let cqb := BitVec.ofNat 64 (s.get (R.ACQ_BASE_BASE p) * 2 ^ 12)
      let cql := if s.get (R.AQ_CFG_CQ_LOG2 p) = 0 then 16 else s.get (R.AQ_CFG_CQ_LOG2 p)
      let s := s.onPort p fun x => { x with heldW := [] }
      let s := (s.setSq p 0 (some (.make sqb (s.get (R.AQ_CFG_SQ_LOG2 p)) 0 0))).setCq p false 0 (some (.make cqb cql 1 0 0))
      (s.put (R.AQ_CTL_EN p) 1).put (R.AQ_STAT_RDY p) 1

/-- AQ_CTL.EN set. -/
def execAqCtlEnable (src : Partner) (p : Port) (s : State) : Res State :=
  .next (regWrite src (0x6014 + 0x100 * p.val) 4 1 s fun s => s.aqEnable p)

/-- Every ring of a port deleted, with its doorbells (R289). -/
def State.deleteRings (s : State) (p : Nat) : State := s.onPort p fun x => { x with sqs := [], cqs := [], tqs := [], turn := [] }

/-- AQ_CTL.EN = 0: the admin pair stops and every ring of the port is deleted (R317). -/
def State.aqDisable (s : State) (p : Nat) : State := ((s.deleteRings p).put (R.AQ_CTL_EN p) 0).put (R.AQ_STAT_RDY p) 0

/-- AQ_CTL.EN cleared. -/
def execAqCtlDisable (src : Partner) (p : Port) (s : State) : Res State :=
  .next (regWrite src (0x6014 + 0x100 * p.val) 4 0 s fun s => s.aqDisable p)

/-- CREATE_RING (R309). -/
def execCreateRing (c : Cmd) (s : State) : Res State :=
  .next (s.ringCmd 0x01 c fun s =>
    let kind := cf c 64 2
    let id := cf c 66 6
    let cqid := cf c 72 6
    let k := cf c 80 4
    let base := BitVec.ofNat 64 (cf c 128 64)
    let x := s.port c.port
    let bad := kind == 3 || (kind == 0 && ((x.sq id).isSome || id == 0 || (x.cq cqid).isNone)) ||
      (kind == 1 && ((x.cq id).isSome || id == 0)) || (kind == 2 && ((x.tq id).isSome || decide (15 < id))) ||
      base.toNat % 4096 != 0
    if bad then s.complete c (.st stINVALID 2)
    else if kind = 0 then
      let r := s.ringClamp c 80 4 4 12
      (r.1.setSq c.port id (some (.make base r.2.1 cqid (cf c 78 2)))).complete c { Done.st stDONE 0 with clamped := r.2.2 }
    else
      let r := if k = 0 then (s, 16, false) else s.ringClamp c 80 4 4 16
      let v := r.1.ringClamp c 84 11 1 2047
      let u := v.1.ringClamp c 104 10 0 1000
      (u.1.setCq c.port (kind == 2) id (some (.make base r.2.1 v.2.1 (cf c 96 8) u.2.1))).complete c
        { Done.st stDONE 0 with clamped := r.2.2 || v.2.2 || u.2.2 })

end Sys2Proof.Machine
end

