-- ==== Sys2Proof/Machine/Dma.lean ====
section
/-! DEFINITION. DMA channels: chains, descriptors, packets, errors, channel control (R236 to R252, R265, R267). -/

namespace Sys2Proof.Machine

open Sys2Proof

/-! ### Channels and their registers (R236, R251) -/

/-- BAR0 offset of a channel's registers (R251). -/
def chBase (c : Nat) : Nat := if c < 256 then 0x1006000 + 0x10000 * (c / 8) + 0x40 * (c % 8) else 0x601000 + 0x40 * (c - 256)

/-- A host channel (R236). -/
def chHost (c : Nat) : Bool := decide (256 ≤ c)

/-- The port of a host channel: in X8X8 mode channels 8 to 15 are port B's (R236). -/
def State.chPort (s : State) (c : Nat) : Nat := if s.board.x8 && decide (264 ≤ c) then 1 else 0

/-- The lattice node of a channel's engine (Table 7-3). -/
def State.chNode (s : State) (c : Nat) : Nat := if c < 256 then 0x120 + c / 8 else 0x170 + s.chPort c

/-- CTL.ENABLE of a channel. -/
def State.chEnabled (s : State) (c : Nat) : Bool := s.get ⟨chBase c, 0, 1, 1⟩ == 1

/-- Error codes of Table 8-5. -/
def deFORMAT : Nat := 1
/-- ADDR. -/
def deADDR : Nat := 2
/-- SP_OWNER. -/
def deSPOWNER : Nat := 3
/-- UE. -/
def deUE : Nat := 4
/-- TIMEOUT. -/
def deTIMEOUT : Nat := 5
/-- FENCED. -/
def deFENCED : Nat := 7
/-- LINK. -/
def deLINK : Nat := 8
/-- ABORT. -/
def deABORT : Nat := 9

/-- The next pending chain starts when nothing runs (R237). -/
def State.chanStart (s : State) (c : Nat) : State :=
  match (s.chan c).st, (s.chan c).pend with
  | .idle, h :: r => s.onChan c fun x => { x with pend := r, chain := some h, cur := h.ptr, first := true, desc := none, st := .fetch }
  | _, _ => s

/-- It starts by itself while the channel is enabled (R237, Table 8-12). -/
def State.chanNext (s : State) (c : Nat) : State := if s.chEnabled c then s.chanStart c else s

/-- A chain head for a channel with room (R237). -/
def State.chanPush (s : State) (c : Nat) (h : Chain) : State := (s.onChan c fun x => { x with pend := x.pend ++ [h] }).chanNext c

/-- Whether a channel accepts a chain head: fewer than 4 pending and enabled (R237). -/
def State.chanRoom (s : State) (c : Nat) : Bool := decide ((s.chan c).pend.length < 4) && s.chEnabled c

/-- What a chain that ends, fails or is discarded tells the command that placed it (R251, R313, R334). -/
def State.chainTell (s : State) (h : Chain) (code : Nat) : State :=
  match h.fromWho with
  | .ring c => s.complete c (if code = 0 then .st stDONE 0 else .st stFAULT code)
  | .fetch c => if code = 0 then s else s.failCmd c stFAULT code
  | _ => s

/-- A channel error (R246): the channel stops in ERROR with its record; firmware ends the owner's request. -/
def State.chErr (s : State) (c code : Nat) (ptr : BitVec 64) (line : Nat) (owner : BitVec 32) : State :=
  let b := chBase c
  let x := s.chan c
  let s := (((s.put ⟨b + 4, 8, 4, 0⟩ code).put ⟨b + 0x18, 0, 64, 0⟩ ptr.toNat).put ⟨b + 0x20, 0, 16, 0⟩ line).put
    ⟨b + 0x20, 32, 32, 0⟩ owner.toNat
  let s := (s.bumpEvt R.ERR_CNT R.DMA_EVT_CH_ERR).emit (.evt 2 (c * 16 + code))
  let s := if code = deUE ∨ code = deTIMEOUT then s.fault 0x11 0x1FF (detail := c) (owner := owner) (aux := code) else s
  let s := s.workFailed owner stFAULT 0
  let s := s.onChan c fun x => { x with st := .error, chain := none, desc := none, buf := [], rd := none, line := 0, off := 0, waits := false,
                                        late := x.late + (if x.rd.isSome then 1 else 0) }
  match x.chain with
  | some h => s.chainTell h code
  | none => s

/-- An error of the descriptor in progress, or of the fetch that should have brought it. -/
def State.chFail (s : State) (c code : Nat) : State :=
  let x := s.chan c
  match x.desc with
  | some d => s.chErr c code d.ptr x.line d.owner
  | none => s.chErr c code x.cur 0 0xFFFFFFFF

/-! ### Chain heads (R237, R238) -/

/-- A chain pointer written to a channel's KICK register: accepted, or dropped and logged (R237). -/
def State.chanKick (s : State) (src c : Nat) (ptr : Nat) : State :=
  if s.chanRoom c then s.chanPush c ⟨BitVec.ofNat 64 ptr, .reg⟩ else s.clampLog (chBase c + 8) src .discard 0 64 ptr 0

/-- KICK register write (R237). -/
def execKick (src : Partner) (c : ChanIx) (ptr : BitVec 64) (s : State) : Res State :=
  .next (s.barWrite src (chBase c + 8) 8 ptr.toNat fun _ v s => s.chanKick (srcCode src) c v)

/-- The DMA.KICK at the head of a tile's DMA queue is accepted by its channel (R90, R143, R237). -/
def execChainAccept (t : Site) (s : State) : Res State :=
  .next (
    let x := s.tile t
    match x.qDma.ents with
    | ⟨_, _, .dmaKick ptr ch⟩ :: _ =>
      let c := 8 * (t.val / 9) + ch % 8
      if x.awake && x.clear 2 && s.chanRoom c then
        (s.onTile t fun x => x.popQueue 2 .free).chanPush c ⟨BitVec.ofNat 64 ptr, .tile t⟩
      else s
    | _ => s)

/-! ### Descriptors (R239, R241, R265) -/

/-- A descriptor from its 64 bytes (Table 8-4). -/
def parseDesc (ptr : BitVec 64) (bs : List Byte) : Desc :=
  let n := leNat bs
  { ptr := ptr, src := bits n 0 64, dst := bits n 64 64, srcSpace := bits n 128 4, dstSpace := bits n 132 4
    srcNode := bits n 136 11, dstNode := bits n 147 11, swap := bits n 158 2, len := bits n 160 24 + 1, cnt := bits n 192 16 + 1
    srcStride := sxNat 32 (bits n 224 32), dstStride := sxNat 32 (bits n 256 32)
    sig := if bits n 311 1 = 1 then some (BitVec.ofNat 23 (bits n 288 23), BitVec.ofNat 32 (bits n 312 32)) else none
    vtx := BitVec.ofNat 12 (bits n 344 12), last := bits n 356 1 == 1, dpod := BitVec.ofNat 12 (bits n 357 12)
    next := BitVec.ofNat 64 (bits n 384 64), owner := BitVec.ofNat 32 (bits n 448 32) }

/-- A REMOTE destination. -/
def Desc.remote (d : Desc) : Bool := d.dstSpace == 3 || d.dstSpace == 4

/-- The form of a descriptor suits the channel: spaces, nodes, line length (R238, R241, R242). -/
def descFormat (host : Bool) (d : Desc) : Bool :=
  let space (n : Nat) : Bool := if host then decide (n ≤ 2) else decide (n ≤ 1)
  let scratchNode (n : Nat) : Bool := decide (n < 0x100)
  space d.srcSpace && (space d.dstSpace || (!host && d.remote)) &&
    (d.srcSpace != 0 || scratchNode d.srcNode) &&
    (d.dstSpace != 0 || scratchNode d.dstNode || (decide (0x200 ≤ d.dstNode) && decide (d.dstNode < 0x240))) &&
    (d.dstSpace != 3 || scratchNode d.dstNode) &&
    (if d.swap = 1 then d.len % 2 == 0 else if d.swap = 2 ∨ d.swap = 3 then d.len % 4 == 0 else true)

/-- Every byte of the line at `a` lies in its space: SCRATCH, or one stack (R173, R241); host addresses are not checked. -/
def lineFits (space : Nat) (a : Int) (len : Nat) : Bool :=
  if space = 0 ∨ space = 3 then decide (0 ≤ a) && decide (a + len ≤ 2 ^ 21)
  else if space = 1 ∨ space = 4 then
    decide (0 ≤ a) && !stackBad a.toNat && !stackBad (a.toNat + len - 1) && decide (a < 2 ^ 48) &&
      stackOf a.toNat == stackOf (a.toNat + len - 1)
  else true

/-- Every line of a descriptor lies in its spaces (R241). -/
def descAddr (d : Desc) : Bool :=
  (List.range d.cnt).all fun k =>
    lineFits d.srcSpace (d.src + k * d.srcStride) d.len && lineFits d.dstSpace (d.dst + k * d.dstStride) d.len

/-- The vertex and pod of a REMOTE descriptor are allowed (R265). -/
def State.descLink (s : State) (d : Desc) : Bool :=
  !d.remote ||
    (if d.dpod.toNat = s.ownPod then
      (match s.fbind with | some b => inSlice b d.vtx.toNat | none => false) && d.vtx.toNat != s.ownVtx
    else s.hasSpine)

/-- The outcome of a read by an engine: bytes, an error code, or nothing yet. -/
inductive Got where
  | bytes (l : List Byte)
  | err (code : Nat)
  | wait
deriving DecidableEq, Repr

/-- A read of a tile's scratchpad through its DMA port (R95, R114, R238); it waits while a bank is asleep, whose wake it starts (R103). -/
def State.dmaTileRead (s : State) (t : Site) (a n : Nat) : State × Got :=
  if (s.tile t).fenced then (s, .err deFENCED)
  else
    match s.sleepsOn t 3 (spWords a n) with
    | some b => (s.spTouch t b, .wait)
    | none =>
      let r := s.spLoad t 3 a n
      (r.1, match r.2 with | some bs => .bytes bs | none => .err deSPOWNER)

/-- A read of one stack, word by word (R171, R175, R184); while the stack is not READY the read waits (R190, R192). -/
def State.dmaStackRead (s : State) (x : StackAcc) (a n : Nat) : State × Got :=
  if s.stackWaits a && !stackBad a then (s, .wait)
  else
    let r := s.stackReadSpan x a n
    (r.1, match r.2.1 with | some bs => (if r.2.2 then .err deUE else .bytes bs) | none => .err deADDR)

/-- The 64-byte words of a span. -/
def wordsOf (a n : Nat) : Nat := (spWords a n).length

/-- The access that channel `c` makes over the sector bus waits for its stack: counted once as held (R190, R192). -/
def State.chHeld (s : State) (c a n : Nat) : State :=
  if (s.chan c).waits then s
  else ((s.bump (R.SR_HELD_CNT (stackOf a)) (wordsOf a n)).set1 (R.MC_EVT_SR_HELD (stackOf a))).onChan c fun x => { x with waits := true }

/-- A read by a channel of its own sector's stack over the sector bus (R171). -/
def State.chStackRead (s : State) (c : Nat) (owner : BitVec 32) (ecc : Ecc) (a n : Nat) : State × Got :=
  let r := s.dmaStackRead (srcAcc 1 true owner ecc) a n
  match r.2 with
  | .wait => (s.chHeld c a n, .wait)
  | g => (r.1.onChan c fun x => { x with waits := false }, g)

/-- A lattice packet of an engine. -/
def State.chPkt (s : State) (c : Nat) (owner : BitVec 32) (dest addr words : Nat) : LatPkt :=
  { mc := false, sa := false, err := false, dest := BitVec.ofNat 11 dest, src := BitVec.ofNat 11 (s.chNode c), addr := BitVec.ofNat 48 addr
    words := words, owner := owner, sigH := 0, sigN := 0, firstOff := 0, lastLen := 0, elFirst := 0, data := [], parts := [] }

/-- A READ of `words` words, of which the response brings `n` bytes from byte `o` on (R205, R244). -/
def State.chReadPkt (s : State) (c : Nat) (owner : BitVec 32) (dest addr words n o : Nat) : State :=
  (s.onChan c fun x => { x with rd := some (n, o, s.now) }).inject 1 (s.chPkt c owner dest addr words) (some (0, 0, 0))

/-- A descriptor has been fetched; its checks are made before any data moves (R239, R241, R265). -/
def State.descTake (s : State) (c : Nat) (bs : List Byte) : State :=
  let d := parseDesc (s.chan c).cur bs
  let s := s.onChan c fun x =>
    { x with desc := some d, line := 0, off := 0, buf := [], rd := none, dropped := false, dseq := x.dseq + 1, st := .run }
  if !descFormat (chHost c) d then s.chFail c deFORMAT
  else if !descAddr d then s.chFail c deADDR
  else if !s.descLink d then s.chFail c deLINK
  else s

/-- The tile or stack from which a descriptor comes that the engine does not reach over its sector bus: the node and address of the READ that fetches it (R236, R238). -/
def State.descFar (s : State) (c : Nat) : Option (Nat × Nat) :=
  let x := s.chan c
  let p := x.cur.toNat
  let kicked : Bool := match x.first, x.chain with | true, some ⟨_, .tile _⟩ => true | _, _ => false
  if bits p 4 2 = 0 then
    if chHost c ∨ kicked ∨ (s.siteOf (bits p 32 8)).val / 9 = c / 8 then none else some (bits p 32 8, bits p 6 15 * 64)
  else if bits p 4 2 = 1 then
    let a := bits p 6 42 * 64
    if !chHost c ∧ stackOf a = c / 8 then none else some (0x100 + stackOf a, a)
  else none

/-- A descriptor's bytes from its pointer, within reach of the engine or from the host (R238). -/
def State.descBytes (s : State) (c : Nat) (host : HostRd) (ecc : Ecc) : State × Got :=
  let x := s.chan c
  let p := x.cur.toNat
  let space := bits p 4 2
  if space = 0 ∧ !chHost c then
    let t : Site := match x.first, x.chain with
      | true, some ⟨_, .tile t⟩ => t
      | _, _ => s.siteOf (bits p 32 8)
    s.dmaTileRead t (bits p 6 15 * 64) 64
  else if space = 1 then s.chStackRead c 0xFFFFFFFF ecc (bits p 6 42 * 64) 64
  else if space = 2 ∧ chHost c then
    (s, match host with | .data bs => .bytes bs | .fail code => .err code)
  else (s, .err deFORMAT)

/-- Whether a chain is the fetch of a command, which has no descriptor (R334). -/
def Chan.fetching (x : Chan) : Bool := match x.chain with | some ⟨_, .fetch _⟩ => true | _ => false

/-- A descriptor is fetched: over the sector bus, from the host, or by a READ on the lattice (R236, R238, R239). -/
def execDescriptorFetch (c : ChanIx) (host : HostRd) (s : State) (ecc : Ecc := .clean) : Res State :=
  .next (
    let x := s.chan c
    if x.st ≠ .fetch ∨ x.fetching ∨ x.rd.isSome then s
    else
      match s.descFar c with
      | some (node, a) => s.chReadPkt c 0xFFFFFFFF node a 1 64 0
      | none =>
        let r := s.descBytes c host ecc
        match r.2 with
        | .wait => r.1
        | .err code => r.1.chFail c code
        | .bytes bs => r.1.descTake c bs)

/-! ### Data (R240, R242 to R245) -/

/-- The place in its line from which byte `i` of the destination line comes (R240). -/
def swapIx (swap i : Nat) : Nat :=
  if swap = 1 then i / 2 * 2 + (1 - i % 2)
  else if swap = 2 then i / 4 * 4 + (3 - i % 4)
  else if swap = 3 then i / 4 * 4 + (i % 4 + 2) % 4
  else i

/-- Bytes that SWAP exchanges together. -/
def swapGroup (swap : Nat) : Nat := if swap = 1 then 2 else if swap = 0 then 1 else 4

/-- The destination address of line `k`, and of the source. -/
def Desc.dstOf (d : Desc) (k : Nat) : Nat := ((d.dst + k * d.dstStride) % 2 ^ 64).toNat
/-- The source address of line `k`. -/
def Desc.srcOf (d : Desc) (k : Nat) : Nat := ((d.src + k * d.srcStride) % 2 ^ 64).toNat

/-- The bytes of the packet at `off` of line `k`: those within one 512-byte-aligned destination range (R244). -/
def Desc.chunk (d : Desc) (k off : Nat) : Nat := min (512 - (d.dstOf k + off) % 512) (d.len - off)

/-- One descriptor goes as a VAL message (R244): one line of at most 16 bytes within one 64-byte word of scratchpad in another sector. -/
def State.isVal (s : State) (c : Nat) (d : Desc) : Bool :=
  !chHost c && d.dstSpace == 0 && decide (d.dstNode < 0x100) && d.cnt == 1 && decide (d.len ≤ 16) &&
    decide (d.dstOf 0 % 64 + d.len ≤ 64) && (s.siteOf d.dstNode).val / 9 != c / 8

/-- The lattice node of a space and node: a logical tile, or the controller of the addressed stack. -/
def nodeOf (space node addr : Nat) : Nat := if space = 1 ∨ space = 4 then 0x100 + stackOf addr else node

/-- Source bytes `lo` to `hi` of a line within reach of the engine's sector bus, or from the host; none when the source lies elsewhere (R244). -/
def State.chSource (s : State) (c : Nat) (d : Desc) (lo hi : Nat) (host : HostRd) (ecc : Ecc) : Option (State × Got) :=
  let a := d.srcOf (s.chan c).line + lo
  if d.srcSpace = 2 then
    some (s, match host with | .data bs => .bytes (bs.take (hi - lo)) | .fail code => .err code)
  else if chHost c then none
  else if d.srcSpace = 0 then
    let t := s.siteOf d.srcNode
    if t.val / 9 = c / 8 then some (s.dmaTileRead t a (hi - lo)) else none
  else if stackOf a = c / 8 then some (s.chStackRead c d.owner ecc a (hi - lo))
  else none

/-- A READ of up to 8 words for the bytes still missing of `lo` to `hi` (R205, R244). -/
def State.chRead (s : State) (c : Nat) (d : Desc) (lo hi : Nat) : State :=
  let x := s.chan c
  let a := d.srcOf x.line + lo + x.buf.length
  let stop := d.srcOf x.line + hi
  let words := min 8 ((stop - a / 64 * 64 + 63) / 64)
  let n := min stop (a / 64 * 64 + 64 * words) - a
  s.chReadPkt c d.owner (nodeOf d.srcSpace d.srcNode a) (a / 64 * 64) words n (a % 64)

/-- A packet's data placed in whole words from the word of `a` (Table 7-4). -/
def padWords (a : Nat) (bs : List Byte) : Nat × List Byte :=
  let w := (a % 64 + bs.length + 63) / 64
  (w, List.replicate (a % 64) 0 ++ bs ++ List.replicate (64 * w - a % 64 - bs.length) 0)

/-- The signal of a descriptor that is done. -/
def Desc.sigOf (d : Desc) : Handle × BitVec 32 := d.sig.getD (0, 0)

/-- The transfer of a channel's descriptor, by which a dropped write is charged to it; key 0 when it applies no signal (R245). -/
def State.chKey (s : State) (c : Nat) (d : Desc) : Nat × Nat × Nat :=
  if d.sig.isSome then (0x1000 + c, (s.chan c).dseq, 0) else (0, 0, 0)

/-- A WRITE packet of an engine on the lattice, to its destination or multicast group, with the signal in the last (R202, R211, R245). -/
def State.chLatWrite (s : State) (c : Nat) (d : Desc) (a : Nat) (bs : List Byte) (last : Bool) : State :=
  let w := padWords a bs
  s.inject 0
    { s.chPkt c d.owner (nodeOf d.dstSpace d.dstNode a) (a / 64 * 64) w.1 with
      sa := last && d.sig.isSome && !(s.chan c).dropped, sigH := d.sigOf.1, sigN := d.sigOf.2
      firstOff := BitVec.ofNat 6 (a % 64), lastLen := BitVec.ofNat 6 ((a + bs.length) % 64), data := w.2
      mc := decide (0x200 ≤ d.dstNode) && d.dstSpace == 0 } (some (s.chKey c d))

/-- A write over the sector bus; a dropped or not performed write leaves the descriptor without its signal (R171, R244, R245, R247). -/
def State.chBusWrite (s : State) (c : Nat) (d : Desc) (a : Nat) (bs : List Byte) (ecc : Ecc) : State :=
  let mark (s : State) (ok : Bool) : State := if ok then s else s.onChan c fun x => { x with dropped := true }
  if d.dstSpace = 0 then
    let t := s.siteOf d.dstNode
    if (s.tile t).fenced then mark ((s.bump (R.FENCE_DROP_CNT t.val)).workFailed d.owner stFAULT 0) false
    else
      let r := s.spStore t 3 1 a bs
      mark (if r.2 then r.1 else r.1.workFailed d.owner stFAULT 0) r.2
  else
    let r := s.stackWriteSpan (srcAcc 1 true d.owner ecc) a bs
    mark (r.1.onChan c fun x => { x with waits := false }) r.2

/-- A write over the sector bus cannot be made yet: a bank is asleep (R103), or the stack is not READY (R190, R192). -/
def State.chBusWaits (s : State) (c : Nat) (d : Desc) (a n : Nat) : Option State :=
  if d.dstSpace = 0 then
    let t := s.siteOf d.dstNode
    if (s.tile t).fenced then none else (s.sleepsOn t 3 (spWords a n)).map (s.spTouch t)
  else if s.stackWaits a then some (s.chHeld c a n) else none

/-- The pending slot of the descriptor in progress, if it has one, and the lowest free slot otherwise (R267). -/
def Chan.slotFor (x : Chan) : Option Nat :=
  match x.slots.find? fun e => e.2.2 == none with
  | some e => some e.1
  | none => (List.range 8).find? fun i => !x.slots.any fun e => e.1 == i

/-- A remote WRITE packet (R265 to R267): TAG names sector, channel and slot; the last asks for WACK and carries the signal. -/
def State.chFabWrite (s : State) (c slot : Nat) (d : Desc) (a : Nat) (bs : List Byte) (last : Bool) : State :=
  let w := padWords a bs
  let tag := s.sliceTag
  let p : FabPkt :=
    { op := 0, vc := 0, sa := last && d.sig.isSome, ackreq := last, cls := false, words := w.1
      space := if d.dstSpace = 3 then 0 else 1, dvtx := d.vtx, svtx := BitVec.ofNat 12 s.ownVtx, dpod := d.dpod
      spod := BitVec.ofNat 12 (s.ownPod), dnode := BitVec.ofNat 11 d.dstNode, bseq := 0, addr := BitVec.ofNat 48 (a / 64 * 64)
      owner := d.owner, sigH := d.sigOf.1, sigN := d.sigOf.2, sliceId := tag.1, bgen := tag.2
      tag := BitVec.ofNat 16 (c / 8 + 32 * (c % 8) + 256 * slot), firstOff := BitVec.ofNat 6 (a % 64)
      lastLen := BitVec.ofNat 6 ((a + bs.length) % 64), reason := 0, data := w.2 }
  let s := s.onChan c fun x => { x with slots := (x.slots.filter fun e => e.1 != slot) ++ [(slot, d, if last then some s.now else none)] }
  (s.fabRoute p).1

/-- A chain ends; the channel turns to the next (R237, R313). -/
def State.chainEnd (s : State) (c : Nat) : State :=
  let h := (s.chan c).chain
  let s := s.onChan c fun x => { x with st := .idle, chain := none, desc := none, buf := [] }
  let s := match h with | some h => s.chainTell h 0 | none => s
  s.chanNext c

/-- A descriptor's last packet has left: the next is fetched, or the chain ends (R239, R243). -/
def State.descNext (s : State) (c : Nat) (d : Desc) : State :=
  if d.last then s.chainEnd c else s.onChan c fun x => { x with st := .fetch, cur := d.next, first := false, desc := none, buf := [] }

/-- A destination that the engine reaches over its sector bus (R244). -/
def State.onBus (s : State) (c : Nat) (d : Desc) (a : Nat) : Bool :=
  !chHost c && ((d.dstSpace == 1 && stackOf a == c / 8) ||
    (d.dstSpace == 0 && decide (d.dstNode < 0x100) && (s.siteOf d.dstNode).val / 9 == c / 8))

/-- The signal of a descriptor that ends on the sector bus or in host memory, unless a write of it was dropped (R245). -/
def State.chSignal (s : State) (c : Nat) (d : Desc) : State :=
  match d.sig with
  | none => s
  | some g =>
    let k := s.chKey c d
    if (s.chan c).dropped || s.lost.contains k then { s with lost := s.lost.filter fun e => e != k }
    else s.signal (s.chNode c) g.1 g.2

/-- The chain in progress was placed by the odd copy of a pair in DUAL, which sends no outbound traffic (R447; DEDUCED, log entry 91). -/
def State.chOdd (s : State) (c : Nat) : Bool :=
  s.dual && match (s.chan c).chain with
    | some ⟨_, .tile t⟩ => (s.logicalOf t.val).any fun l => l % 2 == 1
    | _ => false

/-- The bytes of a packet sent by the transport that applies, the last packet completing the descriptor (R244, R245). -/
def State.chSend (s : State) (c : Nat) (d : Desc) (bs : List Byte) (ecc : Ecc) : State :=
  let x := s.chan c
  let a := d.dstOf x.line + x.off
  let last := decide (d.cnt ≤ x.line + 1) && decide (d.len ≤ x.off + bs.length)
  let val := s.isVal c d
  let bus := s.onBus c d a
  let mute := d.remote && s.chOdd c
  let s := (s.bump ⟨chBase c + 0x28, 0, 64, 0⟩ bs.length).onChan c fun x =>
    if x.off + bs.length < d.len then { x with off := x.off + bs.length, buf := [] }
    else { x with line := x.line + 1, off := 0, buf := [] }
  let s :=
    if mute then s
    else if d.remote then (match x.slotFor with | some k => s.chFabWrite c k d a bs last | none => s)
    else if val then
      (s.post (s.chNode c) d.dstNode clVAL
        (.val (s.siteOf d.dstNode) ⟨BitVec.ofNat 21 a, bs, d.sig.isSome, d.sigOf.1, d.sigOf.2, d.owner⟩)).bump R.VAL_CNT
    else if bus then s.chBusWrite c d a bs ecc
    else if d.dstSpace = 2 then s.emit (.hostWrite (s.chPort c) a bs)
    else s.chLatWrite c d a bs last
  if last then
    let s := if bus || d.dstSpace == 2 then s.chSignal c d else s
    (if d.remote && !mute then s else s.bump R.DESC_CNT).descNext c d
  else s

/-- The engine of a channel, the channels it serves, and the place of the channel among them (R236). -/
def State.engineOf (s : State) (c : Nat) : Nat × Nat × Nat :=
  if c < 256 then (c / 8, 8, c % 8) else if s.board.x8 then (32 + s.chPort c, 8, c % 8) else (32, 16, c - 256)

/-- A channel has a packet to send or to ask for that waits neither for a response, nor for a pending slot, nor for its stack (R236, R267); one that reads host memory counts only when its bytes are there. -/
def State.chReady (s : State) (c : Nat) : Bool :=
  let x := s.chan c
  match x.st, x.desc, x.rd with
  | .run, some d, none => !(d.remote && x.slotFor.isNone) && d.srcSpace != 2 && !x.waits
  | _, _, _ => false

/-- It is the turn of channel `c` in the round-robin of its engine: no channel between the one served last and it is ready (R236). -/
def State.chHasTurn (s : State) (c : Nat) : Bool :=
  let e := s.engineOf c
  let last := sget 0 s.chTurn e.1
  let at_ (i : Nat) : Nat := (last + 1 + i) % e.2.1
  ((List.range e.2.1).find? fun i => at_ i == e.2.2 || s.chReady (c - e.2.2 + at_ i)) == ((List.range e.2.1).find? fun i => at_ i == e.2.2)

/-- One unit of a descriptor's data: a READ of a source out of reach, or a packet, message or sector-bus write of the bytes read (R240, R243, R244). A descriptor that needs a ninth pending slot waits to start (R267); a sector-bus access waits for its stack or for a sleeping bank. -/
def execDmaPacket (c : ChanIx) (host : HostRd) (s : State) (ecc : Ecc := .clean) : Res State :=
  .next (
    let x := s.chan c
    match x.st, x.desc, x.rd with
    | .run, some d, none =>
      if (d.remote && x.slotFor.isNone) || !s.chHasTurn c then s
      else
        let g := swapGroup d.swap
        let n := d.chunk x.line x.off
        let lo := x.off / g * g
        let hi := (x.off + n + g - 1) / g * g
        let a := d.dstOf x.line + x.off
        let served (s : State) : State := { s with chTurn := sset 0 s.chTurn (s.engineOf c).1 (s.engineOf c).2.2 }
        match if s.onBus c d a && !s.isVal c d then s.chBusWaits c d a n else none with
        | some s' => s'
        | none =>
          let send (s : State) (bs : List Byte) : State :=
            served (s.chSend c d ((List.range n).map fun i => bs.getD (swapIx d.swap (x.off + i) - lo) 0) ecc)
          if hi - lo ≤ x.buf.length then send s x.buf
          else
            match s.chSource c d lo hi host ecc with
            | none => served (s.chRead c d lo hi)
            | some (s', .wait) => s'
            | some (s', .err code) => s'.chFail c code
            | some (s', .bytes bs) => send s' bs
    | _, _, _ => s)

/-- A response after its channel gave it up (R248). -/
def State.chLate (s : State) (c : Nat) : State :=
  (s.onChan c fun x => { x with late := x.late - 1 }).bumpEvt R.RSP_LATE_CNT R.DMA_EVT_RSP_LATE

/-- The address of the READ a channel waits for: of a descriptor, or of data. -/
def State.rdAddr (s : State) (c : Nat) : Option Nat :=
  let x := s.chan c
  match x.desc, x.rd with
  | some d, some _ =>
    let g := swapGroup d.swap
    some ((d.srcOf x.line + x.off / g * g + x.buf.length) / 64 * 64)
  | none, some _ => (s.descFar c).map (·.2)
  | _, none => none

/-- The end of a response at its engine: it arrives in its turn (R201), is checked (R218), and is handled by `k` when the channel waits for it; a late one is discarded and counted (R248). -/
def State.chResponse (s : State) (c : Nat) (op : Nat) (p : LatPkt) (err : NetErr) (k : Nat → Nat → State → State) : State :=
  s.latArrive op (s.latExit (s.chNode c)) p err none fun _ s =>
    match (s.chan c).rd with
    | some (n, o, _) => if 0 < (s.chan c).late ∧ s.rdAddr c ≠ some p.addr.toNat then s.chLate c else k n o s
    | none => if 0 < (s.chan c).late then s.chLate c else s

/-- A read response arrives: a descriptor, or data (R199, R239, R246, R248). -/
def execLatticeRdrsp (c : ChanIx) (p : LatPkt) (s : State) (err : NetErr := .none) : Res State :=
  .next (s.chResponse c 2 p err fun n o s =>
    let bs := (p.data.drop o).take n
    let fetch := (s.chan c).desc.isNone
    let s := s.onChan c fun x => { x with rd := none, buf := if fetch then [] else x.buf ++ bs }
    if p.err then s.chFail c deUE else if fetch then s.descTake c bs else s)

/-- A refused read (R204, R246). -/
def execLatticeRderr (c : ChanIx) (r : RdRefusal) (s : State) (err : NetErr := .none) : Res State :=
  .next (s.chResponse c 3 r.p err fun _ _ s =>
    (s.onChan c fun x => { x with rd := none }).chFail c
      (match r.why with | .addr => deADDR | .spOwner => deSPOWNER | .fenced => deFENCED))

/-! ### Control and time limits (R246, R248, R251, R267) -/

/-- A write of one action bit of a channel's CTL, its other bits as they stand. -/
def chCtl (src : Partner) (c bit : Nat) (s : State) (k : State → State) : State :=
  regWrite src (chBase c) 4 ((s.chEnabled c).toNat + 2 ^ bit) s k

/-- CTL.RESUME: the next pending chain starts (R246). -/
def State.chResume (s : State) (c : Nat) : State :=
  if (s.chan c).st = .error then (s.onChan c fun x => { x with st := .idle }).chanStart c else s

/-- CTL.FLUSH: pending chains are discarded and their commands complete FAULT, ABORT (R251); it ends ERROR as RESUME does (R246). -/
def State.chFlush (s : State) (c : Nat) : State :=
  let p := (s.chan c).pend
  (s.onChan c fun x => { x with pend := [], st := if x.st = .error then .idle else x.st }).each p fun s h => s.chainTell h deABORT

/-- CTL.ABORT: the running descriptor stops at its next packet boundary (R251). -/
def State.chAbort (s : State) (c : Nat) : State :=
  if (s.chan c).st = .run ∨ (s.chan c).st = .fetch then s.chFail c deABORT else s

/-- RESUME. -/
def execResume (src : Partner) (c : ChanIx) (s : State) : Res State := .next (chCtl src c 1 s fun s => s.chResume c)
/-- FLUSH. -/
def execFlush (src : Partner) (c : ChanIx) (s : State) : Res State := .next (chCtl src c 2 s fun s => s.chFlush c)
/-- ABORT. -/
def execAbort (src : Partner) (c : ChanIx) (s : State) : Res State := .next (chCtl src c 3 s fun s => s.chAbort c)

/-- No response to a READ, or no WACK for a remote descriptor, within RSP_LIM (R248, R267). -/
def execRspTimeout (c : ChanIx) (s : State) : Res State :=
  .next (
    let x := s.chan c
    let out (t0 : Nat) : Bool := decide (t0 + usTicks (s.get R.DMA_CTL_RSP_LIM) ≤ s.now)
    if (match x.rd with | some (_, _, t0) => out t0 | none => false) then s.chFail c deTIMEOUT
    else
      match x.slots.find? fun e => match e.2.2 with | some t0 => out t0 | none => false with
      | some (k, d, _) =>
        (s.onChan c fun x => { x with slots := x.slots.filter fun e => e.1 != k }).chErr c deTIMEOUT d.ptr (d.cnt - 1) d.owner
      | none => s)

/-- The channel and slot that a TAG names, for a sector channel (Table 9-4). -/
def tagChan (t : BitVec 16) : Option (Nat × Nat) :=
  if t.getLsbD 15 then none else some (8 * bits t.toNat 0 5 + bits t.toNat 5 3, bits t.toNat 8 3)

/-- WACK: the pending slot is free and its descriptor complete (R267). -/
def State.wackHere (s : State) (p : FabPkt) : State :=
    match tagChan p.tag with
    | none => s
    | some (c, k) =>
      if (s.chan c).slots.any fun e => e.1 == k && e.2.2.isSome then
        (s.onChan c fun x => { x with slots := x.slots.filter fun e => e.1 != k }).bump R.DESC_CNT
      else s

/-- WNAK: the channel enters ERROR with code LINK for the refused descriptor; further ones for the slot are ignored (R267). -/
def State.wnakHere (s : State) (p : FabPkt) : State :=
    match tagChan p.tag with
    | none => s
    | some (c, k) =>
      match (s.chan c).slots.find? fun e => e.1 == k with
      | some (_, d, _) =>
        let line := (Config.wnakLine s.free).toNat
        (s.draw.onChan c fun x => { x with slots := x.slots.filter fun e => e.1 != k }).chErr c deLINK d.ptr line d.owner
      | none => s

end Sys2Proof.Machine
end

