-- ==== Sys2Proof/Machine/Fabric.lean ====
section
/-! DEFINITION. Receiving on the fabric: flits, retry, failures and sparing, training, packets, time (R254 to R277). -/

namespace Sys2Proof.Machine

open Sys2Proof

/-! ### Link layer (R255 to R257) -/

/-- Flits of each virtual channel that a receiver holds (R257). -/
def vcRoom : List Nat := [96, 96, 16, 8]

/-- An acknowledgement and returned credits reach the transmitter (R257). -/
def State.linkFree (s : State) (l ack vc n : Nat) : State :=
  let k := s.lnk l
  let hit := k.replay.any fun e => e.fseq == ack
  let rest := if hit then (k.replay.dropWhile fun e => e.fseq != ack).drop 1 else k.replay
  s.onLnk l fun k =>
    { k with replay := rest
             fruitless := if hit then 0 else k.fruitless
             credit := setAt k.credit vc (min (vcRoom.getD vc 0) (k.credit.getD vc 0 + n)) }

/-- An acknowledgement and returned credits, and waiting packets leave (R257, R263). -/
def State.linkAck (s : State) (l ack vc n : Nat) : State := (s.linkFree l ack vc n).dirPump l

/-- Packets of a link of which a unit lies in an unacknowledged flit, and those that wait, each once, in order (R261). -/
def Lnk.unacked (k : Lnk) : List TxItem :=
  (((k.replay.map fun f => (f.items.filter (·.2)).map (·.1)).flatten) ++ k.wait).filter fun i => match i with | .pkt _ => true | _ => false

/-- The link layer of a link starts afresh: sequence numbers, credits, replay store (R257, R259). -/
def Lnk.fresh (k : Lnk) (wait : List TxItem) : Lnk :=
  { k with rx := 0, gap := false, tx := 0, replay := [], wait := wait, sent := [0, 0, 0, 0], credit := vcRoom, fruitless := 0, ues := []
           seen := [], dups := k.dups ++ k.seen.reverse }

/-! ### Failure and sparing (R258, R261, R262) -/

/-- A working position of a direction whose link is out of use, for which no spare serves yet (R259, R261). -/
def State.lostPos (s : State) (d : Nat) : Option Nat :=
  (dirLinks d).find? fun l =>
    !linkSpare l && (s.lnk l).takenBy.isNone &&
      (s.get (R.LNK_STAT_STATE l) == lkFAILED || s.get (R.LNK_STAT_STATE l) == lkMISWIRED || (s.lnk l).misAt.isSome ||
        (s.get (R.LNK_STAT_STATE l) == lkACTIVE && s.get (R.LNK_STAT_USE l) == 2))

/-- A spare of a direction that is ACTIVE and not adopted. -/
def State.freeSpare (s : State) (d : Nat) : Option Nat :=
  (dirLinks d).find? fun l => s.get (R.LNK_STAT_STATE l) == lkACTIVE && s.get (R.LNK_STAT_USE l) == 2

/-- Packets of a link out of use are sent again on the remaining links of its direction with their bundle sequence numbers, or on the spare that took its place (R261). -/
def State.resend (s : State) (d f : Nat) : State :=
  let ps := (s.lnk f).unacked
  let ls := match (s.lnk f).takenBy with
    | some k => if d < 6 then s.workingLinks d else [k]
    | none => if d < 6 then s.workingLinks d else []
  match ls with
  | [] => s.onLnk f fun k => k.fresh ps
  | l0 :: _ =>
    (s.onLnk f fun k => k.fresh []).each ((List.range ps.length).zip ps) fun s e =>
      match e.2 with | .pkt p => s.linkSend (ls.getD (e.1 % ls.length) l0) p | _ => s

/-- The part adopts spare `k` for the failed position `f`, telling the partner which of its links failed (R261); copies of spine packets that `f` has already delivered are to be discarded on `k`. -/
def State.adopt (s : State) (d f k : Nat) : State :=
  let far := if f < 48 then Nat.xor f 8 else s.get (R.LNK_STAT_PLINK f)
  let old := (s.lnk f).seen.reverse
  let s := ((s.put (R.LNK_STAT_USE k) 3).onLnk f fun x => { x with takenBy := some k }).onLnk k fun x => { x with dups := x.dups ++ old }
  ((s.bumpEvt R.ADOPT_CNT R.FAB_EVT_ADOPT).ctmSend k (.mgmt (.adopt (Fin.ofNat 64 far)))).resend d f

/-- The spare of a direction is adopted for a lost position when both exist (R259, R261). -/
def State.adoptIn (s : State) (d : Nat) : State :=
  match s.lostPos d, s.freeSpare d with
  | some f, some k => s.adopt d f k
  | _, _ => s

/-- A link leaves use: an adopted spare leaves the position it served open again (R261). -/
def State.unuse (s : State) (l : Nat) : State :=
  let s := s.each (dirLinks (linkDir l)) fun s f =>
    if (s.lnk f).takenBy == some l then s.onLnk f fun x => { x with takenBy := none } else s
  s.put (R.LNK_STAT_USE l) 0

/-- A failure counts: the event, the fault event, the adoption (R258, R261, R262). -/
def State.lnkLost (s : State) (l : Nat) : State :=
  let d := linkDir l
  let s := ((s.unuse l).fault 0x12 0x1FF (detail := l)).adoptIn d
  if (s.lnk l).takenBy.isSome then s else s.resend d l

/-- A link fails: FAILED until device reset (R258). -/
def State.lnkFail (s : State) (l : Nat) : State :=
  let counted := (s.lnk l).misAt.isSome
  let s := (s.put (R.LNK_STAT_STATE l) lkFAILED).set1 R.FAB_EVT_LINK_FAIL
  if counted then s.unuse l else s.lnkLost l

/-- A lane has lost signal for 1 µs, and its link fails (R258). -/
def execLaneSignalLoss (l : LinkIx) (lane : Fin 4) (s : State) : Res State :=
  .next (
    let st := s.get (R.LNK_STAT_STATE l)
    if st = lkOFF ∨ st = lkFAILED then s
    else
      let ok := s.get (R.LNK_STAT_LANE_OK l)
      (s.put (R.LNK_STAT_LANE_OK l) (if ok.testBit lane then ok - 2 ^ lane.val else ok)).lnkFail l)

/-! ### Flits (R255 to R258, R263) -/

/-- Held packets of a bundle released in order (R263). -/
def State.bundleDrain (s : State) (k : Nat) : Nat → State
  | 0 => s
  | fuel + 1 =>
    let b := s.bundle k
    match b.held.find? fun p => p.bseq.toNat == b.rx with
    | none => s
    | some p =>
      ((s.onBundle k fun b => { b with rx := (b.rx + 1) % 65536, held := b.held.filter fun q => q.bseq != p.bseq }).emit
        (.fabIn false p)).bundleDrain k fuel

/-- A packet delivered by a spine link: released at once (R270), unless it is the copy of one that a failed link has delivered (R261). -/
def State.spineDeliver (s : State) (l : Nat) (p : FabPkt) : State :=
  match (s.lnk l).dups.findIdx? fun q => q == p with
  | some i => s.onLnk l fun k => { k with dups := k.dups.drop (i + 1) }
  | none => (s.onLnk l fun k => { k with dups := [], seen := (p :: k.seen).take 128 }).emit (.fabIn true p)

/-- A packet delivered by a link: on the torus released in BSEQ order of its bundle, copies already accepted being discarded; from the spine, and counter and management packets, as they come (R261, R263, R270). -/
def State.fabDeliver (s : State) (l : Nat) (p : FabPkt) : State :=
  let p := { p with via := Fin.ofNat 7 (linkDir l) }
  if p.vc = 3 then s.emit (.fabIn (decide (48 ≤ l)) p)
  else if 48 ≤ l then s.spineDeliver l p
  else
    let k := 4 * linkDir l + p.vc.val
    let b := s.bundle k
    let ahead := (p.bseq.toNat + 65536 - b.rx) % 65536
    if 32768 ≤ ahead ∨ b.held.any (fun q => q.bseq == p.bseq) then s
    else (s.onBundle k fun b => { b with held := b.held ++ [p] }).bundleDrain k (b.held.length + 1)

/-- Uncorrectable codewords on a link: UE_LIM of them within 1 ms fail it (R258). -/
def State.linkUes (s : State) (l n : Nat) : State :=
  if n = 0 then s
  else
    let s := s.onLnk l fun k => { k with ues := (s.now, n) :: k.ues.filter fun e => decide (s.now < e.1 + usTicks 1000) }
    if s.get (R.LNK_UE_LIM_LIMIT l) ≤ ((s.lnk l).ues.map fun e => e.2).sum then s.lnkFail l else s

/-- A DATA flit is received (R255 to R258, R263). A failed CRC asks for a replay each time, so that a replay that fails in its turn is asked for again; a gap in FSEQ asks once, until it is filled (R257). -/
def execDataFlit (l : LinkIx) (f : Flit) (s : State) : Res State :=
  .next (
    if s.get (R.LNK_STAT_STATE l) ≠ lkACTIVE then s
    else
      let k := s.lnk l
      let s := (s.bump (R.FEC_CORR l) f.fecCorr).bump (R.FEC_UNCORR l) f.fecUncorr
      let bad := !f.crcOk || f.fecUncorr != 0
      let s := if bad then s.bump (R.CRC_ERR l) else s
      let s := s.linkUes l f.fecUncorr
      if s.get (R.LNK_STAT_STATE l) ≠ lkACTIVE then s
      else
        let ahead := (f.fseq.toNat + 4096 - k.rx) % 4096
        let last := (k.rx + 4095) % 4096
        let nak (s : State) : State := (s.onLnk l fun k => { k with gap := true }).emit (.nak l last)
        if bad then nak s
        else if ahead = 0 then
          let s := (s.bump (R.FLIT_RX l)).onLnk l fun k => { k with rx := (k.rx + 1) % 4096, gap := false }
          let s := (s.linkAck l f.ack.toNat f.credVc f.credN.toNat).emit (.idle l f.fseq.toNat f.vc 1)
          s.each f.pkts fun s p => s.fabDeliver l p
        else if 2048 ≤ ahead then s.emit (.idle l last 0 0)
        else if k.gap then s
        else nak s)

/-- An IDLE flit returns credits and advances ACK (R257). -/
def execIdleFlit (l : LinkIx) (ack : BitVec 12) (credVc : Fin 4) (credN : BitVec 8) (s : State) : Res State :=
  .next (if s.get (R.LNK_STAT_STATE l) ≠ lkACTIVE then s else s.linkAck l ack.toNat credVc credN.toNat)

/-- A NAK: the transmitter replays from ACK + 1; once 8 replays in succession have gone by without progress the link fails (R257, R258). -/
def execNak (l : LinkIx) (ack : BitVec 12) (credVc : Fin 4) (credN : BitVec 8) (s : State) : Res State :=
  .next (
    if s.get (R.LNK_STAT_STATE l) ≠ lkACTIVE then s
    else
      let s := s.linkFree l ack.toNat credVc credN.toNat
      if 8 ≤ (s.lnk l).fruitless then s.lnkFail l
      else
        let s := (s.bump (R.RETRY_CNT l)).onLnk l fun k => { k with fruitless := k.fruitless + 1 }
        (s.each (s.lnk l).replay fun s f => s.flitOut l f).dirPump l)

/-! ### Training (R253, R254, R259, R260, R272, R277) -/

/-- Training of a link begins: it takes the value of TOP.FAB_CFG (R259, R277). -/
def State.trainBegin (s : State) (l : Nat) : State :=
  let s := { s with fab := s.fabCfg }
  let s := if s.get (R.LNK_STAT_STATE l) = lkACTIVE then s.put (R.LNK_STAT_USE l) 0 else s
  (s.put (R.LNK_STAT_STATE l) lkOPTICS).onLnk l fun k => { k.fresh k.unacked with trainAt := some s.now, stageAt := s.now }

/-- An enabled link of a direction in use trains; any other is OFF (R254, R259). -/
def State.trainIfUsed (s : State) (l : Nat) : State :=
  let s' := { s with fab := s.fabCfg }
  if s.get (R.LNK_CTL_EN l) = 1 ∧ s'.dirUsed (linkDir l) ∧ s.get (R.LNK_STAT_STATE l) = lkOFF then s.trainBegin l else s

/-- The partner is the one that R253 and R260 call for. -/
def State.partnerOk (s : State) (l : Nat) (id : PartnerId) : Bool :=
  if l < 48 then
    !id.isSwitch && id.vtx.toNat == s.neighbour s.ownVtx (linkDir l) && id.link.toNat == Nat.xor l 8
  else id.isSwitch && id.pod.toNat == s.ownPod

/-- The identity a partner gave, as LNK[l].STAT shows it (Table 9-13). -/
def State.partnerShown (s : State) (l : Nat) (id : PartnerId) : State :=
  ((s.put (R.LNK_STAT_PLINK l) id.link.toNat).put (R.LNK_STAT_PVTX l) id.vtx.toNat).put (R.LNK_STAT_PSWITCH l) id.isSwitch.toNat

/-- The partner check fails: MISWIRED, which counts as failed from the first time (R259, R260). -/
def State.miswired (s : State) (l : Nat) : State :=
  let first := (s.lnk l).misAt.isNone
  let s := (s.put (R.LNK_STAT_STATE l) lkMISWIRED).set1 R.FAB_EVT_MISWIRE
  let s := s.onLnk l fun k => { k with misAt := some (match k.misAt with | some m => m.1 | none => s.now, s.now) }
  if first then s.lnkLost l else s

/-- A link in training, its first attempt or a retry (R259). -/
def State.training (s : State) (l : Nat) : Bool :=
  decide (1 ≤ s.get (R.LNK_STAT_STATE l)) && decide (s.get (R.LNK_STAT_STATE l) ≤ 5)

/-- What still waits on links of a direction that are out of use is sent on those in service (R261). -/
def State.reclaimDir (s : State) (d : Nat) : State :=
  s.each ((dirLinks d).filter fun f => !(s.lnk f).wait.isEmpty && !s.linkWorks f && !s.training f && s.get (R.LNK_STAT_STATE f) != lkACTIVE)
    fun s f => s.resend d f

/-- The link is in service: a working link; a spare; the adopted spare that it was before; or a spare in place of the one its failure had adopted (R259, R261). -/
def State.linkUp (s : State) (l : Nat) : State :=
  let d := linkDir l
  let serves := (dirLinks d).any fun f => (s.lnk f).takenBy == some l
  let spare := linkSpare l || (s.lnk l).misAt.isSome || (s.lnk l).takenBy.isSome
  let s := (s.put (R.LNK_STAT_STATE l) lkACTIVE).put (R.LNK_STAT_USE l) (if serves then 3 else if spare then 2 else 1)
  let s := s.onLnk l fun k => { k with trainAt := none, misAt := none, beaconAt := s.now }
  (((s.adoptIn d).reclaimDir d).bundlePump d).linkGo l

/-- What the part sends of itself in PARTNER (R260). -/
def State.ownIdent (s : State) (l : Nat) : PartnerId :=
  { vtx := BitVec.ofNat 12 s.ownVtx, pod := BitVec.ofNat 12 s.ownPod, link := BitVec.ofNat 6 l, sliceId := s.sliceTag.1, bgen := s.sliceTag.2
    isSwitch := false, lanes := BitVec.ofNat 4 (s.get (R.LNK_STAT_LANE_OK l)), ok := true }

/-- A link enters the next training state; in PARTNER it sends its identity (R260, Table 9-3). -/
def State.stageTo (s : State) (l st : Nat) : State :=
  let s := (s.put (R.LNK_STAT_STATE l) st).onLnk l fun k => { k with stageAt := s.now }
  if st = 4 then s.emit (.ident l (s.ownIdent l)) else s

/-- A training state completes (Table 9-3); the partner of an ACTIVE link that returns to OPTICS starts training again (R259); dark lasers prevent it (R498). -/
def State.linkStage (s : State) (l : Nat) (id : PartnerId) : State :=
  let st := s.get (R.LNK_STAT_STATE l)
  if st = lkACTIVE then (if id.ok then s else s.trainBegin l)
  else if !id.ok ∨ s.board.laserOff then s
  else if st = lkOPTICS then
    let s := s.put (R.LNK_STAT_LANE_OK l) id.lanes.toNat
    if id.lanes = 15 then s.stageTo l 2 else s
  else if st = 2 ∨ st = 3 then s.stageTo l (st + 1)
  else if st = 4 then
    let s := s.partnerShown l id
    if s.partnerOk l id then s.stageTo l 5 else s.miswired l
  else if st = 5 then s.linkUp l
  else s

/-- The limit of a training state (Table 9-3). -/
def stageTicks (st : Nat) : Nat := usTicks (if st ≤ 2 then 2000 else 1000)

/-- 20 ms after its training began a link that is not ACTIVE has failed (R259). A training state that outlasts its own limit in Table 9-3 begins again from OPTICS (DEDUCED, log entry 49: else no link would come to 20 ms). -/
def State.linkLimit (s : State) (l : Nat) : State :=
  match (s.lnk l).trainAt with
  | some t0 =>
    if !s.training l then s
    else if t0 + usTicks 20000 ≤ s.now then s.lnkFail l
    else if (s.lnk l).stageAt + stageTicks (s.get (R.LNK_STAT_STATE l)) ≤ s.now then s.stageTo l lkOPTICS
    else s
  | none => s

/-- Training of a MISWIRED link is repeated every 100 ms (R259). -/
def execMiswiredRetry (l : LinkIx) (s : State) : Res State :=
  .next (
    match (s.lnk l).misAt with
    | some (_, t) =>
      if s.get (R.LNK_STAT_STATE l) = lkMISWIRED ∧ t + usTicks 100000 ≤ s.now then s.trainBegin l else s
    | none => s)

/-- 1 s after its first MISWIRED a link that has not become ACTIVE is FAILED (R259, Table 9-3). -/
def execMiswiredLimit (l : LinkIx) (s : State) : Res State :=
  .next (
    match (s.lnk l).misAt with
    | some (t, _) => if t + usTicks 1000000 ≤ s.now ∧ s.get (R.LNK_STAT_STATE l) ≠ lkFAILED then s.lnkFail l else s
    | none => s)

/-- A management packet: the partner's identity, its adoption of a spare, or a delay record (R261, R263, R272). -/
def execMgmt (l : LinkIx) (r : MgmtRec) (s : State) : Res State :=
  .next (
    if s.get (R.LNK_STAT_STATE l) ≠ lkACTIVE then s
    else
      match r with
      | .identity id => s.partnerShown l id
      | .delay d => s.put (R.LNK_DELAY_DELAY l) d.toNat
      | .adopt f =>
        if linkDir f = linkDir l ∧ s.linkWorks f ∧ s.get (R.LNK_STAT_USE l) = 2 then
          ((s.put (R.LNK_STAT_STATE f) lkFAILED).set1 R.FAB_EVT_LINK_FAIL).lnkLost f
        else s)

/-- The one-way delay of an ACTIVE torus link (R272). -/
def execDelayMeasurement (l : LinkIx) (t1 t2 t3 t4 : Nat) (s : State) : Res State :=
  .next (
    if l.val < 48 ∧ (s.get (R.LNK_STAT_STATE l) = lkACTIVE ∨ s.get (R.LNK_STAT_STATE l) = 5) then
      s.put (R.LNK_DELAY_DELAY l) (unsx 24 ((((t4 : Int) - t1) - ((t3 : Int) - t2)) / 2))
    else s)

/-! ### Packets at the receiving agent (R264 to R270) -/

/-- A packet that is not for this device is forwarded (R264, R270); for want of a spine route it is counted, and `lost` follows. -/
def State.forward (s : State) (p : FabPkt) (lost : State → State) : State :=
  let r := s.fabRoute p
  if r.2 then r.1 else lost (r.1.bump R.ROUTE_CNT)

/-- A packet for this device. -/
def State.fabMine (s : State) (p : FabPkt) : Bool := p.dpod.toNat == s.ownPod && p.dvtx.toNat == s.ownVtx

/-- The answer to a packet: back to its source with its TAG (Table 9-4). -/
def State.fabAnswer (s : State) (p : FabPkt) (op : BitVec 4) (reason : Nat) (data : List Byte) : FabPkt :=
  let tag := s.sliceTag
  { p with op := op, vc := 1, sa := false, ackreq := false, cls := false, words := data.length / 64
           dvtx := p.svtx, svtx := BitVec.ofNat 12 s.ownVtx, dpod := p.spod, spod := BitVec.ofNat 12 s.ownPod, bseq := 0, via := 6
           sliceId := tag.1, bgen := tag.2, reason := BitVec.ofNat 4 reason, firstOff := 0, lastLen := 0, data := data }

/-- WNAK or RDERR with a reason of Table 9-6. -/
def State.fabRefuse (s : State) (p : FabPkt) (op : BitVec 4) (reason : Nat) : State :=
  (s.bump R.WNAK_CNT).forward (s.fabAnswer p op reason []) id

/-- The bytes that a WRITE brings, with their address (Table 9-4). -/
def fabSpan (p : FabPkt) : Nat × Nat :=
  let last := if p.lastLen = 0 then 64 else p.lastLen.toNat
  (p.addr.toNat / 64 * 64 + p.firstOff.toNat, 64 * (p.words - 1) + last - p.firstOff.toNat)

/-- The inbound window holds the whole of a WRITE (R270, R277). -/
def State.inWindow (s : State) (p : FabPkt) : Bool :=
  let a := (fabSpan p).1
  let b := s.get R.FAB_INWIN_BASE * 4096
  p.space == 1 && decide (b ≤ a) && decide (a + (fabSpan p).2 ≤ b + s.get R.FAB_INWIN_SIZE * 4096)

/-- Why a WRITE is refused, in the order of R266, if it is. -/
def State.writeRefusal (s : State) (spine : Bool) (p : FabPkt) : Option Nat :=
  let outside := spine || p.spod.toNat != s.ownPod
  let own := match s.fbind with
    | some b => p.sliceId == b.sliceId && p.bgen == b.bgen && inSlice b p.svtx.toNat
    | none => false
  if outside && !s.inWindow p then some 1
  else if !outside && !own then some 1
  else if p.space = 0 ∧ p.dnode.toNat < 0x100 ∧ (s.tile (s.siteOf p.dnode.toNat)).fenced then some 2
  else if 2 ≤ p.space.toNat ∨ (p.space = 0 ∧ 0x100 ≤ p.dnode.toNat) ∨
      !lineFits p.space.toNat (fabSpan p).1 (fabSpan p).2 then some 4
  else none

/-- The lattice WRITE that a fabric WRITE becomes, with its signal, from the one agent node of its destination (R265). -/
def State.fabToLat (_s : State) (p : FabPkt) : LatPkt :=
  let dest := if p.space = 0 then p.dnode.toNat else 0x100 + stackOf p.addr.toNat
  { mc := false, sa := p.sa, err := false, dest := BitVec.ofNat 11 dest, src := BitVec.ofNat 11 (0x160 + (Config.agentNode dest).toNat)
    addr := p.addr, words := p.words, owner := p.owner, sigH := p.sigH, sigN := p.sigN, firstOff := p.firstOff, lastLen := p.lastLen
    elFirst := 0, data := p.data, parts := [] }

/-- In DUAL, the packet that the odd copy receives: to the tile's number xor 1, its signal for the odd counterpart of the object, or without a signal where the object has none (R447; DEDUCED, log entry 91). -/
def State.oddCopy (s : State) (p : LatPkt) : LatPkt :=
  let odd := (s.ws.objs.find? fun o => o.ix + (s.obj o.ix).gen * 2 ^ 15 == p.sigH.toNat).bind fun o => o.odd
  { p with
    dest := BitVec.ofNat 11 (Nat.xor p.dest.toNat 1), sa := p.sa && odd.isSome
    sigH := match odd with | some j => BitVec.ofNat 23 (j + (s.obj j).gen * 2 ^ 15) | none => p.sigH }

/-- A fabric WRITE is released (R264 to R266, R270). Its transfer is named by its source and TAG, up to the packet that asks for WACK (R245, R267). -/
def execFabricWrite (spine : Bool) (p : FabPkt) (s : State) : Res State :=
  .next (
    if !s.fabMine p then s.forward p fun s => s.fabRefuse p 4 3
    else
      match s.writeRefusal spine p with
      | some r =>
        (if r = 1 ∧ !spine ∧ p.spod.toNat = s.ownPod then s.bumpEvt R.FAB_STALE_CNT R.FAB_EVT_STALE else s).fabRefuse p 4 r
      | none =>
        let k := (0x2000 + p.tag.toNat, p.svtx.toNat + 2 ^ 12 * p.spod.toNat, 0)
        let s := if p.ackreq && !p.sa then { s with lost := s.lost.filter fun e => e != k } else s
        let s := s.inject 0 (s.fabToLat p) (some (if p.ackreq && !p.sa then (0, 0, 0) else k))
        let s := if s.dual && p.space == 0 && p.dnode.toNat < 256 && p.dnode.toNat % 2 == 0 then s.inject 0 (s.oddCopy (s.fabToLat p)) (some (0, 0, 0)) else s
        if p.ackreq then s.forward (s.fabAnswer p 3 0 []) id else s)

/-- A fabric READ of a READY stack, served from REF by the weight store (R268). -/
def State.fabReadNow (s : State) (p : FabPkt) : State :=
  let r := s.dmaStackRead (srcAcc 4 false 0xFFFFFFFF .clean) (p.addr.toNat / 64 * 64) (64 * p.words)
  match r.2 with
  | .bytes bs => r.1.forward (r.1.fabAnswer p 5 0 bs) id
  | _ => r.1.fabRefuse p 6 0

/-- A fabric READ: served, or refused (R268); while its stack is not READY it is held there (R190, R192). -/
def execFabricRead (spine : Bool) (p : FabPkt) (s : State) : Res State :=
  .next (
    if !s.fabMine p then s.forward p fun s => s.fabRefuse p 6 3
    else
      let a := p.addr.toNat / 64 * 64
      if p.space ≠ 1 ∨ stackBad a ∨ stackOff a < 64 * 2 ^ 20 ∨ 112 * 2 ^ 20 < stackOff a + 64 * p.words then s.fabRefuse p 6 5
      else if s.stackWaits a then s.stackHold (stackOf a) p.words (.fab spine p)
      else s.fabReadNow p)

/-- The stop of the optical engine that carries a direction, the first of the spine's two for the spine (R253, Table 7-3; DEDUCED, log entry 87). -/
def engineNode (d : Nat) : Nat := 0x160 + 2 * d

/-- A SIG packet is applied as a SIGNAL or RESET from the agent's stop (R231, R269, R270). -/
def execFabricSig (_spine : Bool) (p : FabPkt) (s : State) : Res State :=
  .next (
    if !s.fabMine p then s.forward p id
    else s.sendSig (engineNode p.via) p.sigH (if p.addr.toNat % 4 = 3 then 3 else 0) p.sigN none)

/-- WACK: the pending slot is free and its descriptor complete (R267); one for another device is forwarded (R264). -/
def execWack (p : FabPkt) (s : State) : Res State :=
  .next (if s.fabMine p then s.wackHere p else s.forward p id)

/-- WNAK: the channel enters ERROR with code LINK for the refused descriptor (R267); one for another device is forwarded (R264). -/
def execWnak (p : FabPkt) (s : State) : Res State :=
  .next (if s.fabMine p then s.wnakHere p else s.forward p id)

/-! ### Time (R273 to R276) -/

/-- The direction of a device's parent: the first hop toward its slice root; none at the root and unbound (R274). -/
def State.parentDir (s : State) : Option Nat :=
  match s.bind with
  | some b => s.routeIn (some b) s.ownVtx (orbitVtx b 0)
  | none => none

/-- A bound device starts to align, the root being LOCKED; an unbound one runs FREE (R274, R275). -/
def State.alignBegin (s : State) : State :=
  let s := { s with tm := { s.tm with offs := [], near := 0, locked1 := false, slew := 0, lastBeacon := s.now, lastIv := none } }
  let root := s.isIngress
  ((s.put R.TC_STAT_STATE (if s.bind.isNone then 0 else if root then 2 else 1)).put R.TC_STAT_PARENT
    (match s.parentDir with | some d => d | none => if root then 7 else 0)).put R.TC_STAT_DEPTH 0

/-- The device leaves LOCKED or aligning for HOLDOVER (R275). -/
def State.holdover (s : State) : State :=
  if s.get R.TC_STAT_STATE = 3 then s
  else ((s.put R.TC_STAT_STATE 3).set1 R.FAB_EVT_HOLDOVER).fault 0x13 0x1FF (detail := 0)

/-- No parent beacon for 16 intervals (R275). -/
def execHoldover (s : State) : Res State :=
  .next (if s.parentDir.isSome ∧ s.tm.lastBeacon + 16 * 512 ≤ s.now then s.holdover else s)

/-- A beacon leaves an ACTIVE torus link every 512 ticks (R273); the fabric uses a new binding from it on (R311). -/
def execBeaconTransmit (l : LinkIx) (s : State) : Res State :=
  .next (
    if l.val < 48 ∧ s.get (R.LNK_STAT_STATE l) = lkACTIVE ∧ (s.lnk l).beaconAt + 512 ≤ s.now then
      let s := { s with fbind := s.bind }
      let tag := s.sliceTag
      (s.onLnk l fun k => { k with beaconAt := s.now }).ctmSend l (.beacon
        { time := BitVec.ofNat 64 s.tm.time, step := BitVec.ofNat 48 (s.get R.STEP_NOW_N), markN := BitVec.ofNat 48 s.tm.lastMark.1
          markT := BitVec.ofNat 64 s.tm.lastMark.2, sliceId := tag.1, bgen := tag.2
          depth := BitVec.ofNat 7 (s.get R.TC_STAT_DEPTH), locked := s.get R.TC_STAT_STATE == 2 })
    else s)

/-- The sixteen offsets averaged: a step before the first lock or beyond 1,024 ticks, else a slew (R274). -/
def State.alignAct (s : State) (avg : Int) : State :=
  let s := s.put R.TC_STAT_OFFSET (unsx 16 (clampInt (-32768) 32767 avg))
  if !s.tm.locked1 ∨ 8192 < avg.natAbs then
    { s with tm := { s.tm with time := (((s.tm.time : Int) + avg / 8) % 2 ^ 64).toNat, slew := 0 } }.bump R.TC_STEP_CNT
  else { s with tm := { s.tm with slew := avg } }

/-- One offset from the parent's beacon (R274): a parent that is not LOCKED puts the device in HOLDOVER, where its rate is kept (R275); a LOCKED one lets it align, LOCKED itself while 16 successive offsets lie within 4 ns. -/
def State.alignOffset (s : State) (off : Int) (b : Beacon) : State :=
  let within := decide (off.natAbs ≤ 30)
  let near := if within && b.locked then s.tm.near + 1 else 0
  let offs := if b.locked then s.tm.offs ++ [off] else []
  let s := { s with tm := { s.tm with near := near, offs := if 16 ≤ offs.length then [] else offs, lastBeacon := s.now
                                      lastIv := some (b.time.toNat / 512) } }
  let s := s.put R.TC_STAT_DEPTH (b.depth.toNat + 1)
  if !b.locked then s.holdover
  else
    let s := if 16 ≤ offs.length then s.alignAct (offs.sum / 16) else s
    if 16 ≤ near then { s.put R.TC_STAT_STATE 2 with tm := { s.tm with locked1 := true } }
    else if s.get R.TC_STAT_STATE = 3 ∨ (s.get R.TC_STAT_STATE = 2 ∧ !within) then s.put R.TC_STAT_STATE 1
    else s

/-- A beacon of the parent, the first of its interval, on a link of the parent's direction (R274). -/
def State.beaconUsed (s : State) (l : Nat) (b : Beacon) : Bool :=
  match s.bind with
  | some x => s.parentDir == some (linkDir l) && b.sliceId == x.sliceId && b.bgen == x.bgen && s.tm.lastIv != some (b.time.toNat / 512)
  | none => false

/-- The offset a beacon shows, in 1/8 tick (R274). -/
def State.beaconOffset (s : State) (l : Nat) (b : Beacon) : Int :=
  ((b.time.toNat : Int) - s.tm.time) * 8 + s.get (R.LNK_DELAY_DELAY l)

/-- A step mark written on the slice root (R276): clamped to follow the last mark and to lead by LEAD_MIN, issued unless 8 are pending or this is no root. -/
def State.stepMark (s : State) (src v : Nat) : State :=
  let n := bits v 0 48
  let t := bits v 64 64
  if !s.isIngress ∨ 8 ≤ s.tm.marks.length then s.clampLog 0x5028 src .discard 0 128 v 0
  else
    let n' := if n ≤ s.tm.lastMark.1 then s.tm.lastMark.1 + 1 else n
    let lead := s.tm.time + usTicks (s.get R.TC_CTL_LEAD_MIN)
    let t' := if t ≤ s.tm.lastMark.2 ∨ t < lead then max (s.tm.lastMark.2 + 1) lead else t
    let s := if n' = n then s else s.clampLog 0x5028 src .clamp 0 48 n n'
    let s := if t' = t then s else s.clampLog 0x5028 src .clamp 64 64 t t'
    { s with tm := { s.tm with marks := s.tm.marks ++ [(n', t')], lastMark := (n', t') } }

/-! ### Held accesses (R183, R190, R192) -/

/-- A held access of a stack that has become READY. -/
def State.heldDo (s : State) (n : Nat) : Held → State
  | .acc x => State.stackAnswer (s.stackDo x) x
  | .write p tr e => s.latStackWrite n p tr e
  | .read p e => s.latStackRead p e
  | .fab _ p => s.fabReadNow p

/-- Held accesses performed in arrival order (R190, R192). -/
def State.stackRelease (s : State) (n : Nat) : State :=
  let held := (s.sec n).held
  (s.onSec n fun c => { c with held := [], srAt := none }).each held fun s h => s.heldDo n h

/-- Zero initialisation ends: every word reads as zero with valid check bytes, a patrol pass begins, the stack is READY and held accesses are performed (R183, R186, R192). -/
def State.stackInit (s : State) (n : Nat) : State :=
  if s.get (R.MC_STAT_STATE n) ≠ 2 then s
  else
    (({ s with stk := s.stk.filter fun e => e.1 / 2 ^ 33 != n }.onSec n fun c =>
      { c with bad := [], soft := [], ues := [], scrub := 0, pass := s.now }).put (R.MC_STAT_STATE n) mcREADY).stackRelease n

end Sys2Proof.Machine
end

