-- ==== Sys2Proof/Machine/Device.lean ====
section
/-! DEFINITION. The device as a whole: its state and events, writes to the configuration area, resets and the boot ROM (R287, R357, R377, R400, R456 to R461, R474). -/

namespace Sys2Proof.Machine

open Sys2Proof

/-- A write of the configuration area, or a batch, waits for its hold-up check (R377); one of the same record that already waits covers it. -/
def State.hold (s : State) (i : HuItem) : State :=
  if s.hu.any (fun e => e.1 == i) then s else { s with hu := s.hu ++ [(i, s.now, s.now)] }

/-- A PLDM event: sent, or held while one is not acknowledged, older ones than the last 64 being discarded (R474). -/
def State.pldmEvent (s : State) (sensor : Nat) (v : Int) : State :=
  if s.secu.receiver.isNone then s
  else if s.secu.unacked then
    let l := s.secu.events ++ [(sensor, v)]
    let s := { s with secu := { s.secu with events := if 64 < l.length then l.drop 1 else l } }
    if 64 < l.length then s.bump R.EVT_DROP_CNT else s
  else { s with secu := { s.secu with unacked := true } }.emit (.event sensor v)

/-- TOP.STATE.STATE becomes `v` (Table 10-14 bit 2, R474). -/
def State.setDevState (s : State) (v : Nat) : State :=
  if s.get R.STATE_STATE = v then s else ((s.put R.STATE_STATE v).hevt 2).pldmEvent 1 v

/-- The device power state becomes `p`, as TOP.STATE and PWR.STAT show it (R397, R474). -/
def State.setPstate (s : State) (p : Nat) : State :=
  if s.get R.STATE_PSTATE = p then s else ((s.put R.STATE_PSTATE p).put R.PWR_STAT_PSTATE p).pldmEvent 6 p

/-- FAULT as TOP shows it: the first cause, FAULT_N, the device record (R452, R453). -/
def State.showFault (s : State) (cause site : Nat) : State :=
  if s.get R.STATE_STATE = devFAULT then s
  else
    let s := ((s.put R.FLT_CAUSE_CAUSE cause).put R.FLT_CAUSE_SITE site).put R.FLT_CAUSE_VALID 1
    let s := (s.setDevState devFAULT).pldmEvent 0xE cause
    { s with board := { s.board with faultN := true } }.hold .devRec

/-! ### The configuration area (R357, R431, R445) -/

/-- A register of the slot table: the slots, plane codes and gains, spare entries, PSWAP and wear counters (R357, R437). -/
def tableOff (off : Nat) : Bool :=
  (decide (0x800010 ≤ off) && decide (off < 0x800030)) || (decide (0x900000 ≤ off) && decide (off < 0xA00000)) ||
    (decide (0x2000000 ≤ off) &&
      ((off - 0x2000000) % 0x10000 == 0x2028 ||
        (decide (0x8000 ≤ (off - 0x2000000) % 0x10000) && decide ((off - 0x2000000) % 0x10000 < 0xA000) && decide (off % 0x80 < 0x10) &&
          off % 0x80 != 4)))

/-- The fields of the register file that the slot table records. -/
def State.tableNow (s : State) : Sparse Nat := s.regs.filter fun e => tableOff (e.1 / 256)

/-- The slot table restored (R357). -/
def State.tableBack (s : State) : State :=
  { s with regs := s.cfg.table.foldl (fun m e => sset 0 m e.1 e.2) (s.regs.filter fun e => !tableOff (e.1 / 256)) }

/-- The calibration set of a sector that its use pointer names (R418). -/
def State.calSet (s : State) (n : Nat) : CalSet := sget CalSet.init s.cfg.cal (2 * n + sget 0 s.cfg.use n)

/-! ### Firmware images (R457, R458) -/

/-- Header and body of an image slot. -/
def State.image (s : State) (i : Nat) : List Byte × List Byte :=
  match sget none s.cfg.images i with
  | some m => (m.head, m.body)
  | none => Config.shippedImage i

/-- Bytes `o` to `o + n - 1` of a header as a number. -/
def hdr (h : List Byte) (o n : Nat) : Nat := leNat ((h.drop o).take n)

/-- SVN of an image. -/
def imgSvn (m : List Byte × List Byte) : Nat := hdr m.1 4 4

/-- An image passes every test of R458 other than TRIES. -/
def imgOk (b : BootRec) (m : List Byte × List Byte) : Bool :=
  let h := m.1
  let k := hdr h 2 1
  decide (h.length = 512) && hdr h 0 2 == 1 && decide (k < 2) && sha384 ((h.drop 0x40).take 97) == Config.romKeyDigest k &&
    !b.revoked.testBit k && ecdsaVerify ((h.drop 0x40).take 97) (sha384 (h.take 0x1A0)) ((h.drop 0x1A0).take 96) &&
    decide (b.counter ≤ imgSvn m) && decide (1 ≤ hdr h 0xC 4) && decide (hdr h 0xC 4 ≤ 8388096) && decide (hdr h 0xC 4 ≤ m.2.length) &&
    sha384 (m.2.take (hdr h 0xC 4)) == (h.drop 0x10).take 48

/-- TRIES of an image slot. -/
def BootRec.tries (b : BootRec) (i : Nat) : Nat := if i = 0 then b.triesA else b.triesB

/-- The boot record with TRIES of slot `i` at `n`. -/
def BootRec.setTries (b : BootRec) (i n : Nat) : BootRec := if i = 0 then { b with triesA := n } else { b with triesB := n }

/-- The order in which the boot ROM tries the images (R458). -/
def BootRec.order (b : BootRec) : List Nat := if 3 ≤ b.tries b.pref then [1 - b.pref, b.pref] else [b.pref, 1 - b.pref]

/-! ### Resets (R287) and the boot ROM (R456) -/

/-- What a reset keeps: arrays, configuration area, pins and straps, links of the host ports, powered seconds, the model's own records (R287, R397, R432). -/
def State.resetCore (s : State) : State :=
  let z := { State.reset with
    pending := s.pending, now := s.now, cells := s.cells, board := { s.board with faultN := false, progEn := false }, cfg := s.cfg
    fe := { Engine.init with hist := s.cfg.hist, frac := s.fe.frac }, free := s.free, out := s.out
    ports := [0, 1].foldl (fun m p => sset PortSt.init m p { PortSt.init with up := (s.port p).up }) [] }
  let z := (z.put R.POWERED_S_S (s.get R.POWERED_S_S)).put R.STATE_MODE s.board.x8.toNat
  z.each [0, 1] fun z p =>
    ((z.put (R.HLINK_RATE p) (s.get (R.HLINK_RATE p))).put (R.HLINK_WIDTH p) (s.get (R.HLINK_WIDTH p))).put (R.HLINK_FLIT p)
      (s.get (R.HLINK_FLIT p))

/-- Steps 2 to 4 (R400, R456, R458, R461): the boot ROM checks itself and rebuilds the seed, locks debug, selects an image, which starts on control core 0; or the step fails. -/
def State.bootRom (s : State) : State :=
  if !Config.romGood then s.showFault 0x0B 0x1FF
  else
    let s := ((s.seedDrbg.put R.SECU_STAT_DEBUG 0).put R.SECU_STAT_ID_OK 1).put R.SECU_STAT_RNG_OK 1
    let s := s.put R.SECU_STAT_KEYS (((List.range 4).map fun i => (sget none s.cfg.keys i).isSome.toNat * 2 ^ i).sum)
    let s := (s.put R.SVN_COUNTER s.cfg.boot.counter).put R.STATE_STEP 2
    match s.cfg.boot.order.find? fun i => imgOk s.cfg.boot (s.image i) with
    | none => s.showFault 0x0B 0x1FF
    | some i =>
      let s := ((s.put R.SECU_STAT_IMAGE i).put R.SECU_STAT_FALLBACK (i != s.cfg.boot.pref).toNat).put R.STATE_STEP 4
      { s.setDevState devSTART with pw := { s.pw with stepAt := s.now } }

/-- A device reset: start-up from step 2 with supplies held (R287). -/
def State.deviceReset (s : State) : State := if s.board.por then s.resetCore.bootRom else s

/-- The cells of a plane whose programming is cut short are left at free levels: of all columns, or of the spare column of a repair (R417, R489). -/
def State.wreck (s : State) (t : Site) (a : ArrIx) (p : ProgRun) : State :=
  let cols := match p.only with | some c => [512 + c] | none => List.range 528
  { s.draw with cells := cols.foldl (fun m col =>
      (List.range 132).foldl (fun m row => let k := cellKey t a p.plane row col; sset 128 m k (Config.wreckedCell s.free k)) m) s.cells }

/-- Every programming in progress is cut short. -/
def State.wreckAll (s : State) : State :=
  s.each (List.finRange 288) fun s t => s.each (List.finRange 64) fun s a =>
    match ((s.tile t).ctl a.val).prog with | some p => s.wreck t a p | none => s

/-- Supplies are lost or withdrawn, all but VDD_AON: nothing runs until a supply ramp, and a plane being programmed is left undefined (R191, R397, R417, R489). -/
def State.powerDown (s : State) (tripped : Bool) : State :=
  let z := s.wreckAll.resetCore
  { z.put R.PWR_STAT_TRIPPED tripped.toNat with
    board := { z.board with pwrReq := none, railsPg := none, por := false, pgFailed := true }
    ports := [] }

/-- A thermal trip (R417). -/
def State.trip (s : State) : State := s.powerDown true

/-! ### Power states of tiles (R104, R397, R398) -/

/-- A tile is idle as R398 asks. -/
def State.tileIdle (s : State) (t : Site) : Bool :=
  let x := s.tile t
  x.vc == .halt && [0, 1, 2, 3].all (fun q => (x.queue q).ents.isEmpty && (x.queue q).head == .free) &&
    (List.range 64).all (fun a => !(x.ctl a).st.busy) && (List.range 32).all (fun k => !(x.blk k).opn)

/-- A tile enters P2: every bank enters retention (R104, R397). -/
def State.tileToP2 (s : State) (t : Site) : State :=
  s.onTile t fun x =>
    (List.range 8).foldl (fun x b => x.onBank b fun k => if k.pst == .on || k.pst == .waking then { k with pst := .entering } else k)
      { x with pstate := 2, parked := none }

/-- A tile leaves P2: every bank whose SPRET bit is 0 wakes in 400 ns (R104). -/
def State.tileFromP2 (s : State) (t : Site) : State :=
  if (s.tile t).pstate ≠ 2 then s
  else
    s.onTile t fun x =>
      (List.range 8).foldl (fun x b =>
        if (s.get (R.SPRET_RET t.val)).testBit b then x
        else x.onBank b fun k => if k.pst == .on then k else { k with pst := .waking, wakeAt := s.now + 376, again := false })
        { x with pstate := 0, vcResume := false, vc := if x.vcResume then .run else x.vc }

/-- Every tile clock stops (R396, R417). -/
def State.stopClocks (s : State) : State := s.each (List.finRange 288) fun s t => s.onTile t fun x => { x with clkOff := true }

/-- THERM_N is asserted: a warn condition stands, a stop has begun, or a trip has occurred (R476). -/
def State.thermN (s : State) : Bool :=
  s.get R.THERM_STAT_JWARN == 1 || s.get R.THERM_STAT_SWARN == 1 || s.get R.THERM_STAT_RWARN == 1 || s.pw.stopAt.isSome ||
    s.get R.PWR_STAT_TRIPPED == 1

end Sys2Proof.Machine
end

