-- ==== Sys2Proof/Machine/Vector.lean ====
section
/-! DEFINITION. The vector, mask and vector memory instructions of BVI (R122 to R134, R137). -/

namespace Sys2Proof.Machine

open Sys2Proof

/-- A reserved format code, or width field 7 for BSI, raises ILLEGAL (R124, Table 4-8). -/
def badFmt (fmt : BitVec 4) (nm : BitVec 3) : Bool := decide (10 ≤ fmt.toNat) || (fmt == 8 && nm == 7)

/-- The BSI width an NMA or NMB field names (R124). -/
def widthOf (nm : BitVec 3) : Nat := nm.toNat + 2

/-- Elements of the instruction's format. -/
def FmtV.count (f : FmtV) : Nat := elemCount f.fmt.toNat (widthOf f.nma)

/-- Whether element `i` is unmasked (R128). -/
def FmtV.on (f : FmtV) (x : Tile) (i : Nat) : Bool := (x.m f.msk.toNat).getLsbD i

/-- A scalar read as FP32, or as INT32 when FMT is INT8 (R129). -/
def scalarVal (fmt : BitVec 4) (v : Word64) : FVal :=
  if fmt = 5 then FVal.ofInt (v.truncate 32).toInt else f32dec (v.truncate 32)

/-- Operand elements of register `r` widened (R126 step 1). -/
def FmtV.elems (f : FmtV) (x : Tile) (r : BitVec 5) : List FVal := widen (x.v r) (x.x r) f.fmt.toNat (widthOf f.nma)

/-- Operand VB: the register, or s[VB] broadcast when BS is 1 (R129). -/
def FmtV.elemsB (f : FmtV) (x : Tile) : List FVal :=
  if f.bs then List.replicate (FmtV.count f) (scalarVal f.fmt (x.s f.vb)) else FmtV.elems f x f.vb

/-- TRN codes of 10 that an instruction meets in the unmasked elements of a register it reads (R53). -/
def FmtV.bad (f : FmtV) (x : Tile) (r : BitVec 5) : Nat :=
  if f.fmt = 9 then ((List.range 512).filter fun i => FmtV.on f x i && elemCode (x.v r) 9 2 i == 2).length else 0

/-- Element `i` of a list of values. -/
def valAt (l : List FVal) (i : Nat) : FVal := l.getD i FVal.zero

/-- Step 2 of R126: one rounding under RNE to FP32; INT8 arithmetic is exact in integers. The range is judged by step 3. -/
def step2 (int8 : Bool) (r : FVal × Flags) : FVal × Flags :=
  if int8 then r
  else ((roundSig 24 (some (-149)) r.1).1, r.2 ||| ((fenc 0 0 true r.1).2.1 &&& (flagUF ||| flagNX)))

/-- The result of a vector instruction written to v[VD] in format `fmt` of width `n` (R126 step 3, R127), its flags raised, CVT_OVF and QREC_FIX counted (R57, R53). -/
def vecFinish (t : Site) (f : FmtV) (fmt n bad : Nat) (res : List (Option (FVal × Flags))) (s : State) : State :=
  let x := s.tile t
  let o := vwrite (x.v f.vd) (x.x f.vd) fmt n f.rnd.toNat f.ov f.mz (res.map fun r => r.map (·.1))
  let fl := flagAll (res.map fun r => match r with | some p => p.2 | none => 0)
  ((((s.raiseFlags t (fl ||| o.fl)).onTile t fun x => (x.setV f.vd o.v).setX f.vd o.x).bump (R.CVT_OVF t.val) o.ovf).bump
    (R.QREC_FIX t.val) bad).vcNext t

/-- The elements of a vector operation: `op i a b c` for each unmasked element (R126, R128). -/
def vecRes (f : FmtV) (x : Tile) (op : Nat → FVal → FVal → FVal → FVal × Flags) : List (Option (FVal × Flags)) :=
  let as := FmtV.elems f x f.va
  let bs := FmtV.elemsB f x
  let cs := FmtV.elems f x f.vc
  (List.range (FmtV.count f)).map fun i =>
    if FmtV.on f x i then some (step2 (f.fmt == 5) (op i (valAt as i) (valAt bs i) (valAt cs i))) else none

/-- A vector arithmetic instruction; `regs` are the vector registers it reads as elements. -/
def vecOp (i : Instr) (t : Site) (f : FmtV) (regs : FmtV → List (BitVec 5)) (op : Tile → Nat → FVal → FVal → FVal → FVal × Flags)
    (s : State) : State :=
  s.vcIssue t i fun s =>
    if badFmt f.fmt f.nma then s.vcRaise t .illegal
    else
      let x := s.tile t
      vecFinish t f f.fmt.toNat (widthOf f.nma) (((regs f).map (FmtV.bad f x)).foldl (· + ·) 0) (vecRes f x (op x)) s

/-- VA alone. -/
def regsA (f : FmtV) : List (BitVec 5) := [f.va]
/-- VA and VB, VB only when it is a register. -/
def regsAB (f : FmtV) : List (BitVec 5) := if f.bs then [f.va] else [f.va, f.vb]
/-- VA, VB and VC. -/
def regsABC (f : FmtV) : List (BitVec 5) := regsAB f ++ [f.vc]

/-- A compare: bit i of m[VD] is the result; masked elements and bits past the format's elements are 0 (R130). `lt` compares signal a NaN, the others only a signalling one (R126). -/
def vecCmp (i : Instr) (t : Site) (f : FmtV) (quiet : Bool) (nanRes : Bool) (c : FVal → FVal → Bool) (s : State) : State :=
  s.vcIssue t i fun s =>
    if badFmt f.fmt f.nma then s.vcRaise t .illegal
    else
      let x := s.tile t
      let as := FmtV.elems f x f.va
      let bs := FmtV.elemsB f x
      let rs : List (Bool × Flags) := (List.range (FmtV.count f)).map fun i =>
        let a := valAt as i
        let b := valAt bs i
        if FmtV.on f x i then
          if a.isNaN || b.isNaN then (nanRes, flagIf (!quiet || a.isSig || b.isSig) flagNV) else (c a b, 0)
        else (false, 0)
      let m : BitVec 512 := BitVec.ofNat 512 (rs.foldr (fun r acc => acc * 2 + r.1.toNat) 0)
      (((s.raiseFlags t (flagAll (rs.map (·.2)))).onTile t fun x => x.setM f.vd.toNat m).bump (R.QREC_FIX t.val)
        (((regsAB f).map (FmtV.bad f x)).foldl (· + ·) 0)).vcNext t

/-- A bitwise instruction; FMT sets the mask granularity (R126); unused high bits read as zero, the X-tag bytes that FMT does not use too (R122). The X-tag bytes that FMT uses keep VD's old values; the spec does not say whose they are (DESIGN CHOICE, log entry 86). -/
def vecBit (i : Instr) (t : Site) (f : FmtV) (op : Nat → Nat → Nat) (s : State) : State :=
  s.vcIssue t i fun s =>
    if badFmt f.fmt f.nma then s.vcRaise t .illegal
    else
      let x := s.tile t
      let fm := f.fmt.toNat
      let n := widthOf f.nma
      let z := elemBits fm n
      let sc := (x.s f.vb).truncate 32
      let b (i : Nat) : Nat :=
        if f.bs then (if z = 32 then sc.toNat else Config.bitScalar fm sc % 2 ^ z) else elemCode (x.v f.vb) fm n i
      let cs := (List.range (FmtV.count f)).map fun i =>
        if FmtV.on f x i then op (elemCode (x.v f.va) fm n i) (b i)
        else if f.mz then 0 else elemCode (x.v f.vd) fm n i
      (s.onTile t fun x => (x.setV f.vd (pack z cs)).setX f.vd
        (BitVec.ofNat 64 ((x.x f.vd).toNat % 2 ^ (8 * blockCount fm n)))).vcNext t

/-! ### Transcendental instructions (R131) -/

/-- Their functions, numbered for the free values. -/
inductive VFun where
  | exp | exp2 | log2 | rcp | rsqrt | sqrt | tanh | sigm | gelu | silu
deriving DecidableEq, Repr

/-- Number of a function. -/
def VFun.code : VFun → Nat
  | .exp => 0 | .exp2 => 1 | .log2 => 2 | .rcp => 3 | .rsqrt => 4 | .sqrt => 5 | .tanh => 6 | .sigm => 7
  | .gelu => 8 | .silu => 9

/-- A free FP32 result with its flags. -/
def vfree (g : VFun) (a : FVal) : FVal × Flags :=
  let c := (f32enc a).1
  (f32dec (Config.vfun g.code c), Config.vfunFlags g.code c)

/-- A result within one unit in the last place of an exact value whose 24-bit floor is `r` (R131): which one is free. -/
def within1 (g : VFun) (a : FVal) (neg : Bool) (r : Nat × Int × Bool) : FVal × Flags :=
  let k := Config.ulpPick g.code (f32enc a).1
  let m := if r.2.2 then r.1 + k % 3 - 1 else r.1 + k % 2
  (.fin neg m r.2.1, flagIf (!r.2.2) flagNX)

/-- A result within two units in the last place of a value whose 24-bit floor is `r` (R131): which one is free. -/
def within2 (g : VFun) (a : FVal) (neg : Bool) (r : Nat × Int × Bool) : FVal × Flags :=
  let c := (f32enc a).1
  let k := Config.ulpPick g.code c
  (.fin neg (if r.2.2 then r.1 + k % 5 - 2 else r.1 + k % 4 - 1) r.2.1, Config.vfunFlags g.code c)

/-- One, in units of 2^-128. -/
def fx1 : Nat := 2 ^ 128

/-- e^z for z in [0, 1), both in units of 2^-128, by its series. -/
def fxExp (z : Nat) : Nat := (List.range 40).foldl (fun acc k => fx1 + z * acc / fx1 / (40 - k)) fx1

/-- 2^y in units of 2^-128: `r` and `n` with the value r * 2^n; beyond 2^10 in magnitude the exponent is far outside every format. -/
def fxExp2 (y : Int) : Nat × Int :=
  if (2 ^ 138 : Int) ≤ y then (fx1, 1024) else if y ≤ -(2 ^ 138 : Int) then (fx1, -1024)
  else (fxExp ((y % (2 ^ 128 : Int)).toNat * 235865763225513294137944142764154484399 / fx1), y / (2 ^ 128 : Int))

/-- A rational m / d * 2^e in units of 2^-128, rounded down; saturated beyond 2^20. -/
def fxOf (m d : Nat) (e : Int) : Nat :=
  if 0 ≤ e + 128 then (if (Nat.log2 m : Int) + e - Nat.log2 d < 20 then m * 2 ^ (e + 128).toNat / d else 2 ^ 148)
  else m / (d * 2 ^ (-(e + 128)).toNat)

/-- e^x for x in units of 2^-128, in the form of fxExp2. -/
def fxExpE (x : Int) : Nat × Int := fxExp2 (x * 490923683258796565746369346286093237521 / (2 ^ 128 : Int))

/-- The natural logarithm of m / 2^k for m / 2^k in [1, 2), in units of 2^-128: twice the area tangent of (m - 2^k) / (m + 2^k). -/
def fxLog (m k : Nat) : Nat :=
  let z := (m - 2 ^ k) * fx1 / (m + 2 ^ k)
  let q := z * z / fx1
  2 * (z * (List.range 42).foldl (fun acc j => q * acc / fx1 + fx1 / (2 * (41 - j) + 1)) 0 / fx1)

/-- The logistic function 1 / (1 + e^-x) of x in units of 2^-128, times `num / den * 2^e`, as a 24-bit floor. -/
def sigmTimes (x : Int) (num den : Nat) (e : Int) : Nat × Int × Bool :=
  let t := fxExpE (-(x.natAbs : Int))
  let u := t.1 / 2 ^ (-t.2).toNat
  if 0 ≤ x then floorQuot (num * fx1) (den * (fx1 + u)) e else floorQuot (num * t.1) (den * (fx1 + u)) (e + t.2)

/-- tanh of m * 2^e as a 24-bit floor: by the series of sinh and cosh below 1, through e^-2x from there on. -/
def tanhOf (m : Nat) (e : Int) : Nat × Int × Bool :=
  let x := fxOf m 1 e
  if x < fx1 then
    let q := x * x / fx1
    let sh := (List.range 20).foldl (fun acc j => fx1 + q * acc / fx1 / ((2 * (20 - j)) * (2 * (20 - j) + 1))) fx1
    let ch := (List.range 20).foldl (fun acc j => fx1 + q * acc / fx1 / ((2 * (20 - j)) * (2 * (20 - j) - 1))) fx1
    floorQuot (m * sh) ch e
  else
    let t := fxExpE (-(2 * x : Int))
    let u := t.1 / 2 ^ (-t.2).toNat
    floorQuot (fx1 - u) (fx1 + u) 0

/-- The functions that are accurate to two units in the last place, of the finite operand (-1)^neg * m * 2^e, m not 0 (R131, R137). -/
def within2Of (g : VFun) (a : FVal) (neg : Bool) (m : Nat) (e : Int) : FVal × Flags :=
  let x : Int := sgnInt neg (fxOf m 1 e)
  match g with
  | .exp => let r := fxExpE x; within2 g a false (floorQuot r.1 fx1 r.2)
  | .exp2 => let r := fxExp2 x; within2 g a false (floorQuot r.1 fx1 r.2)
  | .log2 =>
    let k := Nat.log2 m
    let v : Int := ((k : Int) + e) * 2 ^ 128 + fxLog m k * 490923683258796565746369346286093237521 / fx1
    if v = 0 then (FVal.zero, 0) else within2 g a (decide (v < 0)) (floorQuot v.natAbs fx1 0)
  | .tanh => within2 g a neg (tanhOf m e)
  | .sigm => within2 g a false (sigmTimes x 1 1 0)
  | .silu => within2 g a neg (sigmTimes x m 1 e)
  | .gelu =>
    let u := fxOf (1595770 * m) 1000000 e + fxOf (1595770 * 44715 * m * m * m) 1000000000000 (3 * e)
    within2 g a neg (sigmTimes (sgnInt neg u) m 1 e)
  | _ => vfree g a

/-- A transcendental function (R131): the IEEE 754 results for special operands; VRCP, VSQRT and VRSQRT within one unit in the last place, the others within two. VGELU and VSILU of minus infinity, for which IEEE 754 defines no function, are free. -/
def vfun (g : VFun) (a : FVal) : FVal × Flags :=
  match a with
  | .nan sg => (.nan false, flagIf sg flagNV)
  | .inf neg =>
    match g with
    | .exp | .exp2 => (if neg then FVal.zero else .inf false, 0)
    | .log2 => if neg then (.nan false, flagNV) else (.inf false, 0)
    | .rcp => (.fin neg 0 0, 0)
    | .rsqrt => if neg then (.nan false, flagNV) else (FVal.zero, 0)
    | .sqrt => if neg then (.nan false, flagNV) else (.inf false, 0)
    | .tanh => (.fin neg 1 0, 0)
    | .sigm => (if neg then FVal.zero else .fin false 1 0, 0)
    | .gelu | .silu => if neg then vfree g a else (.inf false, 0)
  | .fin neg m e =>
    if m = 0 then
      match g with
      | .exp | .exp2 => (.fin false 1 0, 0)
      | .log2 => (.inf true, 0)
      | .rcp | .rsqrt => (.inf neg, 0)
      | .sqrt | .tanh => (.fin neg 0 0, 0)
      | .sigm => (.fin false 1 (-1), 0)
      | .gelu | .silu => (.fin neg 0 0, 0)
    else
      match g with
      | .rcp => within1 g a neg (floorQuot 1 m (-e))
      | .sqrt =>
        if neg then (.nan false, flagNV)
        else within1 g a false (if e % 2 = 0 then floorSqrt m 1 (e / 2) else floorSqrt (2 * m) 1 ((e - 1) / 2))
      | .rsqrt =>
        if neg then (.nan false, flagNV)
        else within1 g a false (if e % 2 = 0 then floorSqrt 1 m (-(e / 2)) else floorSqrt 1 (2 * m) (-((e - 1) / 2)))
      | .log2 => if neg then (.nan false, flagNV) else within2Of g a neg m e
      | _ => within2Of g a neg m e

/-- A transcendental instruction. -/
def vecFun (i : Instr) (t : Site) (f : FmtV) (g : VFun) (s : State) : State := 
  vecOp i t f regsA (fun _ _ a _ _ =>
    if f.fmt = 5 then
      let r := vfun g a
      (((roundSig 24 (some (-149)) r.1).1, r.2))
    else vfun g a) s

/-! ### Reductions (R132) -/

/-- One level of the pairwise tree: element 2j with 2j + 1; a masked element is absent. -/
def pairUp (op : FVal → FVal → FVal × Flags) (l : List (Option FVal)) : List (Option FVal) × Flags :=
  match l with
  | some a :: some b :: r =>
    let c := op a b
    let rest := pairUp op r
    (some c.1 :: rest.1, c.2 ||| rest.2)
  | some a :: none :: r => let rest := pairUp op r; (some a :: rest.1, rest.2)
  | none :: b :: r => let rest := pairUp op r; (b :: rest.1, rest.2)
  | [a] => ([a], 0)
  | [] => ([], 0)

/-- The tree over at most 2^`k` elements. -/
def treeFold (op : FVal → FVal → FVal × Flags) (k : Nat) (l : List (Option FVal)) : Option FVal × Flags :=
  match k with
  | 0 => (l.headD none, 0)
  | k + 1 => let r := pairUp op l; let q := treeFold op k r.1; (q.1, r.2 ||| q.2)

/-- An addition rounded to FP32 under RNE, an overflow becoming infinite; exact for INT8. -/
def add32 (int8 : Bool) (a b : FVal) : FVal × Flags :=
  let r := fadd a b
  if int8 then r else let c := f32enc r.1; (f32dec c.1, r.2 ||| c.2)

/-- A product rounded in the same way. -/
def mul32 (int8 : Bool) (a b : FVal) : FVal × Flags :=
  let r := fmul a b
  if int8 then r else let c := f32enc r.1; (f32dec c.1, r.2 ||| c.2)

/-- The integer a value holds. -/
def FVal.toInt : FVal → Int
  | .fin neg m e => sgnInt neg (rndAt 1 neg m e 0).1
  | _ => 0

/-- The word a reduction writes: FP32 in bits [31:0], INT32 sign-extended (R132). -/
def redWord (int8 : Bool) (v : FVal) : Word64 :=
  if int8 then BitVec.ofInt 64 v.toInt else ((f32enc v).1).zeroExtend 64

/-- A reduction of f(a) over the unmasked elements of VA into s[VD]; `empty` when there is none (R132). -/
def vecRed (i : Instr) (t : Site) (f : FmtV) (pre : Bool → FVal → FVal × Flags) (op : Bool → FVal → FVal → FVal × Flags)
    (empty : Bool → Word64) (s : State) : State :=
  s.vcIssue t i fun s =>
    if badFmt f.fmt f.nma then s.vcRaise t .illegal
    else
      let x := s.tile t
      let i8 := f.fmt == 5
      let as := FmtV.elems f x f.va
      let pr := (List.range (FmtV.count f)).map fun i =>
        if FmtV.on f x i then some (pre i8 (valAt as i)) else none
      let r := treeFold (op i8) 9 (pr.map fun o => o.map (·.1))
      let fl := flagAll (pr.map fun o => match o with | some p => p.2 | none => 0)
      let w := match r.1 with | some v => redWord i8 v | none => empty i8
      (((s.raiseFlags t (fl ||| r.2)).onTile t fun x => x.setS f.vd w).bump (R.QREC_FIX t.val) (FmtV.bad f x f.va)).vcNext t

/-- The result of a maximum over no element: minus infinity, INT8 -128 (R132). -/
def emptyMax (int8 : Bool) : Word64 := if int8 then BitVec.ofInt 64 (-128) else 0xFF800000

/-! ### Mask instructions (R137) -/

/-- An instruction on mask registers; a format V instruction whose FMT is BSI with width field 7 raises ILLEGAL (R124). -/
def maskOp (i : Instr) (t : Site) (f : FmtV) (g : Tile → BitVec 512) (s : State) : State :=
  s.vcIssue t i fun s =>
    if f.fmt = 8 ∧ f.nma = 7 then s.vcRaise t .illegal
    else (s.onTile t fun x => x.setM f.vd.toNat (g x)).vcNext t

/-! ### Vector memory (R133, R134) -/

/-- The address s[SA] + IMM24 (R124). -/
def FmtM.addr (f : FmtM) (x : Tile) : Word64 := x.s f.sa + f.imm.signExtend 64

/-- Bytes of an X-tag that VLDX and VSTX move: the block count of FMT (R133). -/
def FmtM.blocks (f : FmtM) : Nat := blockCount f.fmt.toNat (widthOf f.nma)

/-- ILLEGAL for VLDX and VSTX: not a block format, or width field 7 (R133, R124). -/
def FmtM.badX (f : FmtM) : Bool := !isBlockFmt f.fmt.toNat || badFmt f.fmt f.nma

/-- ILLEGAL for VGATHER and VSCATTER: a block format or a reserved one (R134). -/
def FmtM.badG (f : FmtM) : Bool := decide (5 < f.fmt.toNat)

/-- Bytes of a gathered or scattered element. -/
def FmtM.size (f : FmtM) : Nat := elemBits f.fmt.toNat 2 / 8

/-- The unmasked lanes of 0-31 with their addresses (R134, R128). -/
def FmtM.lanes (f : FmtM) (x : Tile) : List (Nat × Nat) :=
  ((List.range 32).filter fun i => (x.m f.msk.toNat).getLsbD i).map fun i =>
    (i, (FmtM.addr f x + BitVec.ofNat 64 (elemCode (x.v f.vb) 0 0 i * FmtM.size f)).toNat)

/-- Lanes read in ascending order; none when one is dropped. -/
def gatherLanes (t : Site) (n : Nat) (l : List (Nat × Nat)) (s : State) : State × Option (List (Nat × Nat)) :=
  match l with
  | [] => (s, some [])
  | (i, a) :: r =>
    let o := s.spLoad t 1 a n
    match o.2 with
    | none => (o.1, none)
    | some bs =>
      let q := gatherLanes t n r o.1
      (q.1, q.2.map fun rest => (i, leNat bs) :: rest)

/-- Lanes written in ascending order through write port 1; false when one is dropped. -/
def scatterLanes (t : Site) (n : Nat) (l : List (Nat × Nat)) (v : Nat → Nat) (s : State) : State × Bool :=
  match l with
  | [] => (s, true)
  | (i, a) :: r =>
    let o := s.spStore t 1 1 a (leBytes n (v i))
    if o.2 then scatterLanes t n r v o.1 else (o.1, false)

/-- VADD: a + b (R126, R137). -/
def execVadd (t : Site) (f : FmtV) (s : State) : Res State :=
  .next (vecOp (.vadd t f) t f regsAB (fun _ _ a b _ => fadd a b) s)

/-- VSUB: a - b (R137). -/
def execVsub (t : Site) (f : FmtV) (s : State) : Res State :=
  .next (vecOp (.vsub t f) t f regsAB (fun _ _ a b _ => fadd a b.neg) s)

/-- VMUL: a * b (R137). -/
def execVmul (t : Site) (f : FmtV) (s : State) : Res State :=
  .next (vecOp (.vmul t f) t f regsAB (fun _ _ a b _ => fmul a b) s)

/-- VFMA: a * b + c, one rounding (R126, R137). -/
def execVfma (t : Site) (f : FmtV) (s : State) : Res State :=
  .next (vecOp (.vfma t f) t f regsABC (fun _ _ a b c => ffma a b c) s)

/-- VFMS: a * b - c, one rounding (R137). -/
def execVfms (t : Site) (f : FmtV) (s : State) : Res State :=
  .next (vecOp (.vfms t f) t f regsABC (fun _ _ a b c => ffma a b c.neg) s)

/-- VMIN; a NaN operand yields the other (R137). -/
def execVmin (t : Site) (f : FmtV) (s : State) : Res State :=
  .next (vecOp (.vmin t f) t f regsAB (fun _ _ a b _ => fmin a b) s)

/-- VMAX; as VMIN (R137). -/
def execVmax (t : Site) (f : FmtV) (s : State) : Res State :=
  .next (vecOp (.vmax t f) t f regsAB (fun _ _ a b _ => fmax a b) s)

/-- VABS (R137). -/
def execVabs (t : Site) (f : FmtV) (s : State) : Res State :=
  .next (vecOp (.vabs t f) t f regsA (fun _ _ a _ _ => (a.abs, 0)) s)

/-- VNEG (R137). -/
def execVneg (t : Site) (f : FmtV) (s : State) : Res State :=
  .next (vecOp (.vneg t f) t f regsA (fun _ _ a _ _ => (a.neg, 0)) s)

/-- VSEL: m[VC] bit i selects a or b (R137). -/
def execVsel (t : Site) (f : FmtV) (s : State) : Res State :=
  .next (vecOp (.vsel t f) t f regsAB (fun x i a b _ => (if (x.m f.vc.toNat).getLsbD i then a else b, 0)) s)

/-- VMOV: the codes of VA unchanged, its X-tag copied (R137); masked elements as R128. -/
def execVmov (t : Site) (f : FmtV) (s : State) : Res State :=
  .next (s.vcIssue t (.vmov t f) fun s =>
    if badFmt f.fmt f.nma then s.vcRaise t .illegal
    else
      let x := s.tile t
      let fm := f.fmt.toNat
      let n := widthOf f.nma
      let cs := (List.range (FmtV.count f)).map fun i =>
        if FmtV.on f x i then elemCode (x.v f.va) fm n i else if f.mz then 0 else elemCode (x.v f.vd) fm n i
      (s.onTile t fun x => (x.setV f.vd (pack (elemBits fm n) cs)).setX f.vd
        (BitVec.ofNat 64 ((x.x f.va).toNat % 2 ^ (8 * blockCount fm n)))).vcNext t)

/-- VBCST: s[VA] as FP32, INT32 for INT8, converted to every element (R137). -/
def execVbcst (t : Site) (f : FmtV) (s : State) : Res State :=
  .next (vecOp (.vbcst t f) t f (fun _ => []) (fun x _ _ _ _ => (scalarVal f.fmt (x.s f.va), 0)) s)

/-- VCMPEQ (R130). -/
def execVcmpeq (t : Site) (f : FmtV) (s : State) : Res State :=
  .next (vecCmp (.vcmpeq t f) t f true false (fun a b => !flt a b && !flt b a) s)

/-- VCMPNE; a NaN operand gives 1 (R130). -/
def execVcmpne (t : Site) (f : FmtV) (s : State) : Res State :=
  .next (vecCmp (.vcmpne t f) t f true true (fun a b => flt a b || flt b a) s)

/-- VCMPLT (R130). -/
def execVcmplt (t : Site) (f : FmtV) (s : State) : Res State :=
  .next (vecCmp (.vcmplt t f) t f false false (flt) s)

/-- VCMPLE (R130). -/
def execVcmple (t : Site) (f : FmtV) (s : State) : Res State :=
  .next (vecCmp (.vcmple t f) t f false false (fun a b => !flt b a) s)

/-- VAND of registers (R126, R137). -/
def execVand (t : Site) (f : FmtV) (s : State) : Res State :=
  .next (vecBit (.vand t f) t f Nat.land s)

/-- VOR of registers (R126, R137). -/
def execVor (t : Site) (f : FmtV) (s : State) : Res State :=
  .next (vecBit (.vor t f) t f Nat.lor s)

/-- VXOR of registers (R126, R137). -/
def execVxor (t : Site) (f : FmtV) (s : State) : Res State :=
  .next (vecBit (.vxor t f) t f Nat.xor s)

/-- VCVT: v[VD] in FMT2 := v[VA] in FMT (R57, R58, R127); element i of the smaller count. -/
def execVcvt (t : Site) (f : FmtV) (s : State) : Res State :=
  .next (s.vcIssue t (.vcvt t f) fun s =>
    if badFmt f.fmt f.nma || badFmt f.fmt2 f.nmb then s.vcRaise t .illegal
    else
      let x := s.tile t
      let as := FmtV.elems f x f.va
      let res := (List.range (FmtV.count f)).map fun i =>
        if FmtV.on f x i then some (valAt as i, (0 : Flags)) else none
      vecFinish t f f.fmt2.toNat (widthOf f.nmb) (FmtV.bad f x f.va) res s)

/-- VEXP (R131, R137). -/
def execVexp (t : Site) (f : FmtV) (s : State) : Res State :=
  .next (vecFun (.vexp t f) t f .exp s)

/-- VEXP2 (R131, R137). -/
def execVexp2 (t : Site) (f : FmtV) (s : State) : Res State :=
  .next (vecFun (.vexp2 t f) t f .exp2 s)

/-- VLOG2 (R131, R137). -/
def execVlog2 (t : Site) (f : FmtV) (s : State) : Res State :=
  .next (vecFun (.vlog2 t f) t f .log2 s)

/-- VRCP (R131, R137). -/
def execVrcp (t : Site) (f : FmtV) (s : State) : Res State :=
  .next (vecFun (.vrcp t f) t f .rcp s)

/-- VRSQRT (R131, R137). -/
def execVrsqrt (t : Site) (f : FmtV) (s : State) : Res State :=
  .next (vecFun (.vrsqrt t f) t f .rsqrt s)

/-- VSQRT (R131, R137). -/
def execVsqrt (t : Site) (f : FmtV) (s : State) : Res State :=
  .next (vecFun (.vsqrt t f) t f .sqrt s)

/-- VTANH (R131, R137). -/
def execVtanh (t : Site) (f : FmtV) (s : State) : Res State :=
  .next (vecFun (.vtanh t f) t f .tanh s)

/-- VSIGM (R131, R137). -/
def execVsigm (t : Site) (f : FmtV) (s : State) : Res State :=
  .next (vecFun (.vsigm t f) t f .sigm s)

/-- VGELU (R131, R137). -/
def execVgelu (t : Site) (f : FmtV) (s : State) : Res State :=
  .next (vecFun (.vgelu t f) t f .gelu s)

/-- VSILU (R131, R137). -/
def execVsilu (t : Site) (f : FmtV) (s : State) : Res State :=
  .next (vecFun (.vsilu t f) t f .silu s)

/-- VRSUM: sum along the pairwise tree (R132). -/
def execVrsum (t : Site) (f : FmtV) (s : State) : Res State :=
  .next (vecRed (.vrsum t f) t f (fun _ a => (a, 0)) add32 (fun _ => 0) s)

/-- VRMAX (R132). -/
def execVrmax (t : Site) (f : FmtV) (s : State) : Res State :=
  .next (vecRed (.vrmax t f) t f (fun _ a => (a, 0)) (fun _ => fmax) emptyMax s)

/-- VRMIN (R132); over no element a free value. -/
def execVrmin (t : Site) (f : FmtV) (s : State) : Res State :=
  .next (vecRed (.vrmin t f) t f (fun _ a => (a, 0)) (fun _ => fmin) Config.emptyMin s)

/-- VRAMAX: largest magnitude (R132). -/
def execVramax (t : Site) (f : FmtV) (s : State) : Res State :=
  .next (vecRed (.vramax t f) t f (fun _ a => (a.abs, 0)) (fun _ => fmax) emptyMax s)

/-- VRSUMSQ: sum of squares, each square rounded once (R132). -/
def execVrsumsq (t : Site) (f : FmtV) (s : State) : Res State :=
  .next (vecRed (.vrsumsq t f) t f (fun i a => mul32 i a a) add32 (fun _ => 0) s)

/-- VLD: 128 bytes at an address aligned to 128; the X-tag stays (R133). -/
def execVld (t : Site) (f : FmtM) (s : State) : Res State :=
  .next (s.vcIssue t (.vld t f) fun s =>
    if badFmt f.fmt f.nma && f.fmt == 8 then s.vcRaise t .illegal
    else
      let a := (FmtM.addr f (s.tile t)).toNat
      match addrCheck a 128 with
      | some c => s.vcRaise t c
      | none => s.vcLoad t a 128 fun bs s => (s.onTile t fun x => x.setV f.vd (BitVec.ofNat 1024 (leNat bs))).vcNext t)

/-- VST: 128 bytes at an address aligned to 128, through write port 0 (R133, R98). -/
def execVst (t : Site) (f : FmtM) (s : State) : Res State :=
  .next (s.vcIssue t (.vst t f) fun s =>
    if badFmt f.fmt f.nma && f.fmt == 8 then s.vcRaise t .illegal
    else
      let x := s.tile t
      let a := (FmtM.addr f x).toNat
      match addrCheck a 128 with
      | some c => s.vcRaise t c
      | none => s.vcStore t 0 a (leBytes 128 (x.v f.vd).toNat))

/-- VLDX: the X-tag from B bytes at any address, the bytes beyond B zero (R133). -/
def execVldx (t : Site) (f : FmtM) (s : State) : Res State :=
  .next (s.vcIssue t (.vldx t f) fun s =>
    if FmtM.badX f then s.vcRaise t .illegal
    else
      let a := (FmtM.addr f (s.tile t)).toNat
      if 2 ^ 21 < a + FmtM.blocks f then s.vcRaise t .addr
      else s.vcLoad t a (FmtM.blocks f) fun bs s =>
        (s.onTile t fun x => x.setX f.vd (BitVec.ofNat 64 (leNat bs))).vcNext t)

/-- VSTX: B bytes of the X-tag at any address, through write port 0 (R133). -/
def execVstx (t : Site) (f : FmtM) (s : State) : Res State :=
  .next (s.vcIssue t (.vstx t f) fun s =>
    if FmtM.badX f then s.vcRaise t .illegal
    else
      let x := s.tile t
      let a := (FmtM.addr f x).toNat
      if 2 ^ 21 < a + FmtM.blocks f then s.vcRaise t .addr
      else s.vcStore t 0 a (leBytes (FmtM.blocks f) (x.x f.vd).toNat))

/-- VGATHER (R134): lanes 0-31 by index; masked lanes as R128; elements 32 and above unchanged. -/
def execVgather (t : Site) (f : FmtM) (s : State) : Res State :=
  .next (s.vcIssue t (.vgather t f) fun s =>
    if FmtM.badG f then s.vcRaise t .illegal
    else
      let x := s.tile t
      let l := FmtM.lanes f x
      if l.any (fun p => decide (2 ^ 21 < p.2 + FmtM.size f)) then s.vcRaise t .addr
      else
        match s.vcAsleep t (l.flatMap fun p => spWords p.2 (FmtM.size f)) with
        | some b => s.vcBankStall t b
        | none =>
          let r := gatherLanes t (FmtM.size f) l s
          match r.2 with
          | none => r.1.vcRaise t .spOwner
          | some got =>
            let fm := f.fmt.toNat
            let cs := (List.range (elemCount fm 2)).map fun i =>
              match got.find? (fun p => p.1 == i) with
              | some p => p.2
              | none => if decide (i < 32) && f.mz then 0 else elemCode (x.v f.vd) fm 2 i
            (r.1.onTile t fun x => (x.setV f.vd (pack (elemBits fm 2) cs)).setX f.vd 0).vcNext t)

/-- VSCATTER (R134): lanes 0-31 in ascending order through write port 1, so the higher lane stands and R98 decides a collision with a store. -/
def execVscatter (t : Site) (f : FmtM) (s : State) : Res State :=
  .next (s.vcIssue t (.vscatter t f) fun s =>
    if FmtM.badG f then s.vcRaise t .illegal
    else
      let x := s.tile t
      let l := FmtM.lanes f x
      if l.any (fun p => decide (2 ^ 21 < p.2 + FmtM.size f)) then s.vcRaise t .addr
      else
        match s.vcAsleep t (l.flatMap fun p => spWords p.2 (FmtM.size f)) with
        | some b => s.vcBankStall t b
        | none =>
          let r := scatterLanes t (FmtM.size f) l (elemCode (x.v f.vd) f.fmt.toNat 2) s
          if r.2 then r.1.vcNext t else r.1.vcRaise t .spOwner)

/-- MAND of mask registers (R137). -/
def execMand (t : Site) (f : FmtV) (s : State) : Res State :=
  .next (maskOp (.mand t f) t f (fun x => x.m f.va.toNat &&& x.m f.vb.toNat) s)

/-- MOR of mask registers (R137). -/
def execMor (t : Site) (f : FmtV) (s : State) : Res State :=
  .next (maskOp (.mor t f) t f (fun x => x.m f.va.toNat ||| x.m f.vb.toNat) s)

/-- MXOR of mask registers (R137). -/
def execMxor (t : Site) (f : FmtV) (s : State) : Res State :=
  .next (maskOp (.mxor t f) t f (fun x => x.m f.va.toNat ^^^ x.m f.vb.toNat) s)

/-- MNOT of mask registers (R137). -/
def execMnot (t : Site) (f : FmtV) (s : State) : Res State :=
  .next (maskOp (.mnot t f) t f (fun x => ~~~ (x.m f.va.toNat)) s)

/-- MSET: m[VD] bits [64k+63:64k] := s[VA], k = s[VB] mod 8 (R137). -/
def execMset (t : Site) (f : FmtV) (s : State) : Res State :=
  .next (maskOp (.mset t f) t f (fun x =>
    let k := (x.s f.vb).toNat % 8
    let old := x.m f.vd.toNat
    (old &&& ~~~ ((0xFFFFFFFFFFFFFFFF : BitVec 512) <<< (64 * k))) ||| ((x.s f.va).zeroExtend 512 <<< (64 * k))) s)

/-- MGET: s[VD] := m[VA] bits [64k+63:64k], k = s[VB] mod 8 (R137). -/
def execMget (t : Site) (f : FmtV) (s : State) : Res State :=
  .next (s.vcIssue t (.mget t f) fun s =>
    if f.fmt = 8 ∧ f.nma = 7 then s.vcRaise t .illegal
    else (s.onTile t fun x => x.setS f.vd (((x.m f.va.toNat) >>> (64 * ((x.s f.vb).toNat % 8))).truncate 64)).vcNext t)

end Sys2Proof.Machine
end

