-- ==== Sys2Proof/Machine/ServeOps.lean ====
section
/-! DEFINITION. Operations of the serving engine: pages, prefix handles, ends of requests, grammars, token selection, launches (R181, R182, R319 to R348). -/

namespace Sys2Proof.Machine

open Sys2Proof

/-! ### Pages (R179 to R182, R337) -/

/-- Positions that one KV page of a layer holds (R181): format codes 3 and 4 are FP8, any other has two bytes. -/
def Layer.perPage (l : Layer) : Nat := 8192 / (l.d * (if l.fmt = 3 ∨ l.fmt = 4 then 1 else 2))

/-- KV heads of this device: sector, layer, head and the positions that a page holds, for layers that have KV (R181, R364). -/
def State.ownHeads (s : State) : List (Nat × Nat × Nat × Nat) :=
  s.serve.kvHeads.filterMap fun h =>
    match s.serve.layers.find? fun l => l.ix == h.2.1 with
    | some l => if l.fmt = 0xF ∨ l.perPage = 0 then none else some (h.1, h.2.1, h.2.2, l.perPage)
    | none => none

/-- Pages of one KV head for `n` positions (R181). -/
def headPages (perPage n : Nat) : Nat := (n + perPage - 1) / perPage

/-- Sectors of the slice are numbered through its devices: sector `n` of the device with orbit index `k` (R182). -/
def sectorKey (k n : Nat) : Nat := 32 * k + n

/-- KV pages for `n` positions in every sector of the slice: each KV head in its sector, of other devices as they report them (R182, R364). -/
def State.kvPages (s : State) (n : Nat) : Sparse Nat :=
  let own := s.ownHeads.foldl (fun m h => supd 0 m h.1 (· + headPages h.2.2.2 n)) []
  s.serve.peers.foldl (fun m e =>
    match e.2 with
    | some r => r.heads.foldl (fun m h => if h.2 = 0 then m else supd 0 m (sectorKey e.1 (h.1 % 32)) (· + headPages h.2 n)) m
    | none => m) own

/-- KV pages of a sector of the slice: 64 for each MiB of its KV region, on another device as it reports them (R179, R182). -/
def State.sectorPages (s : State) (n : Nat) : Nat :=
  if n < 32 then 64 * s.get (R.MREG_SIZE_MIB n 7)
  else match sget none s.serve.peers (n / 32) with | some r => r.pages.getD (n % 32) 0 | none => 0

/-- Free KV pages of a sector of the slice, less those of requests and prefix handles (R182). -/
def State.pagesFree (s : State) (n : Nat) : Nat :=
  s.sectorPages n - ((s.serve.reqs.map fun e => sget 0 e.2.pages n).sum + (s.serve.pfxs.map fun e => sget 0 e.2.pages n).sum)

/-- Token history pages taken one at a time from the stack with most free pages, the lowest index on ties (R337). -/
def histPages (free : List Nat) (m : Sparse Nat) : Nat → Option (Sparse Nat)
  | 0 => some m
  | k + 1 =>
    let left (n : Nat) : Nat := free.getD n 0 - sget 0 m n
    let best := (List.range 32).foldl (fun b n => if left b < left n then n else b) 0
    if left best = 0 then none else histPages free (supd 0 m best (· + 1)) k

/-- The pages of a request with `own` positions of its own in a sequence of `total`, or none when they are lacking (R182, R337). -/
def State.reserve (s : State) (own total : Nat) : Option (Sparse Nat) :=
  let kv := s.kvPages own
  if kv.all fun e => decide (e.2 ≤ s.pagesFree e.1) then histPages ((List.range 32).map s.pagesFree) kv ((total + 4095) / 4096) else none

/-- Who holds the pages of a request: the handle that it makes, or itself (R181, R339). -/
def holderOf (i : Nat) (r : Req) : Nat := match r.creating with | some h => 2 ^ 32 + h | none => reqId i r

/-- A KV page entry (Table 6-4). -/
def pageEntry (page valid : Nat) : BitVec 64 := BitVec.ofNat 64 (page % 2 ^ 24 + valid % 2 ^ 16 * 2 ^ 32)

/-- The page entries of one head of `perPage` positions a page, in stack `n` after `skip` pages of other heads, for a holder of `len` positions of which `have_` are written (R181). -/
def headEntries (holder n skip perPage len have_ : Nat) : List (BitVec 64) :=
  (List.range (headPages perPage len)).map fun k =>
    pageEntry (Config.kvPage holder n (skip + k)) (min perPage (have_ - k * perPage))

/-- Pages in the sector of a head that earlier heads take, for `len` positions. -/
def skipPages (before : List (Nat × Nat × Nat × Nat)) (n len : Nat) : Nat :=
  ((before.filter fun h => h.1 == n).map fun h => headPages h.2.2.2 len).sum

/-- The page entries of a request for each KV head of this device: those of its prefix handle first, then its own (R181, Table 6-4). -/
def State.givePages (s : State) (i : Nat) : State :=
  let r := s.req i
  let pl := match r.pfx with | some h => (s.pfx h).toks.length | none => 0
  let own := (if r.creating.isSome then r.seq.length else r.gen0 + r.maxNew) - pl
  s.each (List.range s.ownHeads.length) fun s j =>
    match s.ownHeads[j]? with
    | none => s
    | some (n, layer, head, pp) =>
      let before := s.ownHeads.take j
      let pre := match r.pfx with | some h => headEntries (2 ^ 32 + h) n (skipPages before n pl) pp pl pl | none => []
      s.emit (.pages (BitVec.ofNat 32 (reqId i r)) n layer head
        (pre ++ headEntries (holderOf i r) n (skipPages before n own) pp own (r.next - pl)))

/-! ### Prefix handles (R338 to R341) -/

/-- The valid handle that `h` names (R338). -/
def State.findPfx (s : State) (h : Nat) : Option Nat :=
  let i := h % 2 ^ 16
  if (s.pfx i).valid ∧ (s.pfx i).gen = bits h 16 16 then some i else none

/-- The idle handles of a tenant, least recently used first, lowest index on ties (R340). -/
def insertBy {α : Type} (lt : α → α → Bool) (x : α) : List α → List α
  | [] => [x]
  | y :: r => if lt x y then x :: y :: r else y :: insertBy lt x r

/-- A stable sort. -/
def sortBy {α : Type} (lt : α → α → Bool) (l : List α) : List α := l.foldr (insertBy fun a b => !lt b a) []

/-- The idle handles of a tenant, least recently used first (R340). -/
def State.idlePfxs (s : State) (t : Nat) : List Nat :=
  (sortBy (fun (a b : Nat × Pfx) => decide (a.2.used < b.2.used))
    (s.serve.pfxs.filter fun e => e.2.valid && e.2.tenant == t && !s.pfxNamed e.1)).map fun e => e.1

/-- One eviction (R340). -/
def State.pfxEvict (s : State) (i : Nat) : State := (s.pfxDrop i).bumpEvt R.PFX_EVICT_CNT R.SERVE_EVT_PFX_EVICT

/-- Pinned positions of a tenant with those of creations in progress (R340). -/
def State.pinnedNow (s : State) (t : Nat) : Nat :=
  s.pinned t + ((s.serve.reqs.filter fun e => e.2.creating.isSome && e.2.tenant == t && e.2.st != .ending).map fun e => e.2.maxNew).sum

/-- Idle handles evicted until `room` more positions fit the tenant's quota (R340). -/
def State.evictFor (s : State) (t room : Nat) (l : List Nat) : State :=
  match l with
  | [] => s
  | i :: r => if s.pinnedNow t + room ≤ (s.tenant t).pfxq then s else (s.pfxEvict i).evictFor t room r

/-- The lowest free handle index (R339). -/
def State.freePfx (s : State) : Option Nat :=
  (List.range 65536).find? fun i => !(s.pfx i).valid && !(s.pfx i).held && !s.serve.reqs.any fun e => e.2.creating == some i

/-! ### Grammars (R343 to R345) -/

/-- Bytes of a stored image, read from its stack (R344). -/
def State.gramBytes (s : State) (g : Gram) : List Byte := s.stkBytes (g.stack * 2 ^ 33 + g.off) g.img.length

/-- The parts of an image that the mask stage reads for a request: its state record and edges, or the whole list (R343, R345). -/
def gramParts (g : Gram) (img : List Byte) (st : Nat) : List (Nat × Nat) :=
  let o := 16 + 8 * st
  let nat (o n : Nat) : Nat := leNat ((img.drop o).take n)
  if g.auto then [(o, 8), (16 + 8 * nat 2 2 + 16 * nat o 4, 16 * nat (o + 4) 2)] else [(0, img.length)]

/-- The control core reads an image for request `owner`: whether a word held an uncorrectable error (R184, Table 6-5). -/
def State.gramRead (s : State) (g : Gram) (st : Nat) (owner : BitVec 32) : State × Bool :=
  (gramParts g (s.gramBytes g) st).foldl (fun (q : State × Bool) e =>
    let r := q.1.stackReadSpan (srcAcc 7 false owner .clean) (g.stack * 2 ^ 33 + g.off + e.1) e.2
    (r.1, q.2 || r.2.2)) (s, false)

/-- A number of `n` bytes at `o`. -/
def numAt (l : List Byte) (o n : Nat) : Nat := leNat ((l.drop o).take n)

/-- An edge record (Table 11-6). -/
structure Edge where
  lo : Nat
  hi : Nat
  top : Nat
  act : Nat
  sym : Nat
  next : Nat
deriving DecidableEq, Repr

/-- Edge record `i` of an automaton image. -/
def edgeAt (img : List Byte) (i : Nat) : Edge :=
  let o := 16 + 8 * numAt img 2 2 + 16 * i
  ⟨numAt img o 4, numAt img (o + 4) 4, numAt img (o + 8) 2, numAt img (o + 10) 1, numAt img (o + 12) 2, numAt img (o + 14) 2⟩

/-- The edges of a state, in record order. -/
def edgesOf (img : List Byte) (st : Nat) : List Edge :=
  let o := 16 + 8 * st
  (List.range (numAt img (o + 4) 2)).map fun i => edgeAt img (numAt img o 4 + i)

/-- The edge that governs token `t`: the first that makes it eligible (R345). -/
def edgeFor (es : List Edge) (stack : List Nat) (t : Nat) : Option Edge :=
  es.find? fun e => decide (e.lo ≤ t) && decide (t ≤ e.hi) &&
    (e.top == 0xFFFF || (stack.isEmpty && e.top == 0xFFFE) || (match stack.head? with | some x => e.top == x | none => false)) &&
    !(e.act == 2 && stack.isEmpty)

/-- The rules of R344 for an image of `n` bytes. -/
def imageOk (auto : Bool) (vocab : Nat) (img : List Byte) : Bool :=
  let z (o n : Nat) : Bool := numAt img o n == 0
  if auto then
    let ns := numAt img 2 2
    let ne := numAt img 8 4
    numAt img 0 2 == 1 && decide (1 ≤ ns) && decide (ne ≤ 1048576) && img.length == 16 + 8 * ns + 16 * ne && z 6 2 && z 12 4 &&
      decide (numAt img 4 2 < ns) &&
      ((List.range ns).all fun i =>
        decide (numAt img (16 + 8 * i) 4 + numAt img (20 + 8 * i) 2 ≤ ne) && decide (numAt img (20 + 8 * i) 2 ≤ 4096) && z (22 + 8 * i) 2) &&
      (List.range ne).all fun i =>
        let e := edgeAt img i
        decide (e.lo ≤ e.hi) && decide (e.hi < vocab) && decide (e.next < ns) && decide (e.act ≤ 2) && z (16 + 8 * ns + 16 * i + 11) 1
  else
    let n := numAt img 4 4
    numAt img 0 2 == 2 && decide (1 ≤ n) && decide (n ≤ 4096) && img.length == 16 + 4 * n &&
      ((List.range n).all fun i => decide (numAt img (16 + 4 * i) 4 < vocab)) &&
      (List.range (n - 1)).all fun i => decide (numAt img (16 + 4 * i) 4 < numAt img (20 + 4 * i) 4)

/-- The GRM range for an image: the stacks in order, in each the lowest free 64-byte-aligned range that holds it (R344). -/
def State.gramRoom (s : State) (skip len : Nat) : Option (Nat × Nat) :=
  let here (n : Nat) : List Gram :=
    s.serve.grams.filterMap fun e => match e.2 with | some g => if g.stack = n ∧ e.1 ≠ skip then some g else none | none => none
  (List.range 32).findSome? fun n =>
    let base := s.get (R.MREG_BASE_MIB n 4) * 2 ^ 20
    let top := base + s.get (R.MREG_SIZE_MIB n 4) * 2 ^ 20
    let starts := sortBy (fun (a b : Nat) => decide (a < b)) (base :: (here n).map fun g => (g.off + g.img.length + 63) / 64 * 64)
    let ok (o : Nat) : Bool :=
      decide (o + len ≤ top) && (here n).all fun g => decide (o + len ≤ g.off) || decide (g.off + g.img.length ≤ o)
    (starts.find? ok).map fun o => (n, o)

/-! ### Token selection (R343, R346 to R348) -/

/-- A value rounded to FP32 under RNE. -/
def toF32 (v : FVal) : FVal := f32dec (f32enc v).1

/-- FP32 division under RNE. -/
def fdiv32 (a b : FVal) : FVal :=
  match a, b with
  | .fin n m e, .fin n' m' e' =>
    if m' = 0 then (if m = 0 then .nan false else .inf (n ^^ n'))
    else
      let k := 64 + Nat.log2 m'
      let q := m * 2 ^ k / m'
      toF32 (.fin (n ^^ n') (2 * q + (if m * 2 ^ k % m' = 0 then 0 else 1)) (e - e' - k - 1))
  | .fin n .., .inf n' => .fin (n ^^ n') 0 0
  | .inf n, .fin n' .. => .inf (n ^^ n')
  | _, _ => .nan false

/-- FP32 addition under RNE. -/
def add32r (a b : FVal) : FVal := toF32 (fadd a b).1

/-- FP32 multiplication under RNE. -/
def mul32r (a b : FVal) : FVal := toF32 (fmul a b).1

/-- The draw for a position, in [0, 1) (R348). -/
def drawAt (seed : BitVec 64) (pos : Nat) : FVal := .fin false (drawBits seed pos) (-24)

/-- FP16 bits as a value. -/
def f16dec (c : BitVec 16) : FVal := fdec (flay 2) c.toNat

/-- Sums of leading runs under RNE, in order. -/
def runSums (acc : FVal) : List FVal → List FVal
  | [] => []
  | x :: r => add32r acc x :: runSums (add32r acc x) r

/-- The shortest leading run whose sum reaches a bound, the whole list when none does (R347). -/
def leadRun {α : Type} (ge : FVal → Bool) (l : List α) (sums : List FVal) : List α :=
  match l, sums with
  | x :: r, v :: vs => if ge v then [x] else x :: leadRun ge r vs
  | l, _ => l

/-- The choice among eligible tokens, given in rising order with their logits (R347); `recent` is the penalty window. -/
def choose (l : List (Nat × FVal)) (r : Sampling) (recent : List Nat) (pos : Nat) : Nat :=
  let th := f16dec r.rpen
  let pen (p : Nat × FVal) : Nat × FVal :=
    if p.1 ∈ recent then (p.1, if flt FVal.zero p.2 then fdiv32 p.2 th else mul32r p.2 th) else p
  let srt := sortBy (fun (a b : Nat × FVal) => flt b.2 a.2) (l.map pen)
  let first := match srt with | p :: _ => p | [] => (0, FVal.zero)
  let tau := f16dec r.temp
  if r.temp.toNat % 2 ^ 15 = 0 then first.1
  else
    let c := srt.take (if r.topk = 0 then 1024 else r.topk)
    let e := c.map fun p => (p.1, (vfun .exp (fdiv32 (add32r p.2 first.2.neg) tau)).1)
    let mp := f16dec r.minp
    let e := if flt FVal.zero mp then e.filter fun p => !flt p.2 mp else e
    let total (x : List (Nat × FVal)) : FVal := (runSums FVal.zero (x.map fun p => p.2)).getLastD FVal.zero
    let tp := f16dec r.topp
    let e := if flt tp (.fin false 1 0) then
        leadRun (fun v => !flt v (mul32r tp (total e))) e (runSums FVal.zero (e.map fun p => p.2))
      else e
    let u := mul32r (drawAt r.seed pos) (total e)
    match (e.zip (runSums FVal.zero (e.map fun p => p.2))).find? fun p => flt u p.2 with
    | some p => p.1.1
    | none => match e.getLast? with | some p => p.1 | none => first.1

/-- The image a request's ID names, if it is loaded. -/
def State.gram (s : State) (id : Nat) : Option Gram := if id = 0 then none else sget none s.serve.grams id

/-- The image that gives a request its mask: its automaton unless it has overflowed, else its allowed list (R343). -/
def State.maskOf (s : State) (r : Req) : Option Gram :=
  match (if r.govf then none else s.gram r.grammar) with
  | some g => some g
  | none => s.gram r.alist

/-- The eligible tokens of a request: its automaton unless it has overflowed, else its allowed list, else every token (R343). -/
def State.eligible (s : State) (r : Req) : List Nat :=
  let all := List.range (s.get R.SHAPE_VOCAB)
  match (if r.govf then none else s.gram r.grammar), s.gram r.alist with
  | some g, _ => let es := edgesOf (s.gramBytes g) r.gstate; all.filter fun t => (edgeFor es r.gstack t).isSome
  | none, some g =>
    let img := s.gramBytes g
    let l := (List.range (numAt img 4 4)).map fun i => numAt img (16 + 4 * i) 4
    all.filter fun t => l.contains t
  | none, none => all

/-- The automaton of a request takes a token; a PUSH at depth 64 overflows (R345). -/
def State.gramStep (s : State) (r : Req) (t : Nat) : Req × Bool :=
  if r.govf then (r, false)
  else
    match s.gram r.grammar with
    | none => (r, false)
    | some g =>
      match edgeFor (edgesOf (s.gramBytes g) r.gstate) r.gstack t with
      | none => (r, false)
      | some e =>
        if e.act = 1 ∧ 64 ≤ r.gstack.length then ({ r with govf := true }, true)
        else ({ r with gstate := e.next
                       gstack := if e.act = 1 then e.sym :: r.gstack else if e.act = 2 then r.gstack.tail else r.gstack }, false)

/-- The automaton of a request at START with an empty stack (R343). -/
def State.gramStart (s : State) (r : Req) : Req :=
  { r with gstate := (match s.gram r.grammar with | some g => numAt (s.gramBytes g) 4 2 | none => 0), gstack := [], govf := false }

/-! ### Ends of requests (R321, R323, R328 to R330, R336) -/

/-- The generation after `g` (R321), and before it. -/
def genNext (g : Nat) : Nat := if 4095 ≤ g then 1 else g + 1
/-- The generation before `g`. -/
def genPrev (g : Nat) : Nat := if g ≤ 1 then 4095 else g - 1

/-- The request ID of an entry in ENDING. -/
def endedId (i : Nat) (r : Req) : Nat := i + genPrev r.gen * 2 ^ 20

/-- A token of entry `i` is held because its token ring is full (R299). -/
def State.tokHeld (s : State) (i : Nat) (r : Req) (c : Cmd) : Bool :=
  match (s.port c.port).tq r.tq with
  | some k => k.held.any fun e => bits e 0 32 == endedId i r
  | none => false

/-- Whether the completion of entry `i` can be posted: it finds room (R299), and every token of the request has been written (R300). -/
def State.endRoom (s : State) (i : Nat) (r : Req) : Bool :=
  match r.cmd with
  | none => true
  | some c =>
    r.orphan || (!s.tokHeld i r c && match (s.port c.port).sq c.sq with | some x => s.cqRoom c.port x.cq | none => true)

/-- The counters of an ending (R353). -/
def State.countEnd (s : State) (status : Nat) : State :=
  if status = stDEADLINE then s.bump R.DEADLINE_CNT
  else if status = stCANCEL_LATE then s.bump R.CANCEL_LATE_CNT
  else if status = stBUDGET then s.bumpEvt R.BUDGET_TO_CNT R.SERVE_EVT_BUDGET_TO
  else if status = stGDEAD then s.bump R.GRAMMAR_DEAD_CNT
  else s

/-- The arrays of the mapped sites, with their site. -/
def State.mappedArrays (s : State) : List (Site × ArrIx) :=
  (List.range 256).flatMap fun l => (List.finRange 64).map fun a => (s.siteOf l, a)

/-- A plane's weight code and gain recorded (R16, R27, R373). -/
def State.setPlane (s : State) (t : Site) (a : ArrIx) (p : Bool) (code gain : Nat) : State :=
  (s.put (if p then R.ARRCFG_PCODE1 t.val a.val else R.ARRCFG_PCODE0 t.val a.val) code).put
    (if p then R.ARRCFG_GAIN1 t.val a.val else R.ARRCFG_GAIN0 t.val a.val) gain

/-- The planes of a slot become EMPTY and unlocked (Table 12-1), but for those that a refresh in progress is programming for the other slot (R384). -/
def State.emptyPlanes (s : State) (slot : Nat) : State :=
  let busy := (s.ws.jobs.filter fun j => j.what == .refresh).map fun j => s.siteOf j.tile
  s.each (s.mappedArrays.filter fun x => !busy.contains x.1) fun s x =>
    let p := s.physPlane x.1 x.2 (slot == 1)
    (s.setPlane x.1 x.2 p 3 (s.pgain x.1 x.2 p)).put (plockF x.1 x.2 p) 0

/-- A slot becomes FREE: planes EMPTY, REF and EXP invalid, every prefix handle of its version released (R371, R381); the slot table is recorded (R357). -/
def State.slotFree (s : State) (slot : Nat) : State :=
  let s := (s.emptyPlanes slot).put (R.SLOT_STATE slot) slFREE
  let s := (s.put (R.SLOT_REF_VALID slot) 0).put (R.SLOT_EXP_VALID slot) 0
  let s := s.each ((s.serve.pfxs.filter fun e => e.2.valid && e.2.slot == slot).map fun e => e.1) fun s i => s.pfxDrop i
  { s with ws := { s.ws with mans := sset none s.ws.mans slot none } }.hold .table

/-- A DRAINING slot whose last request has left ENDING becomes FREE (R381). -/
def State.drainCheck (s : State) (slot : Nat) : State :=
  if s.slotSt slot = slDRAINING ∧ s.boundTo slot = 0 then
    { s.slotFree slot with ws := { (s.slotFree slot).ws with drainAt := none } }
  else s

/-- The entry of an ended request leaves ENDING once no row of it is on the orbit and its completion is stored or written (R299, R323). -/
def State.leaveEnding (s : State) (i : Nat) : State :=
  let r := s.req i
  if r.st = .ending ∧ r.inflight = false ∧ r.waitEnd = none then (s.freeReq i).drainCheck r.slot else s

/-- The completion of an entry in ENDING, if it waits and finds room (R299, R336). -/
def State.postEnd (s : State) (i : Nat) : State :=
  let r := s.req i
  match r.st, r.waitEnd with
  | .ending, some (status, reason) =>
    if !s.endRoom i r then s
    else
      let s := match r.cmd with
        | some c =>
          if r.orphan then s
          else s.complete c { status := status, reason := reason, reqid := endedId i r, result := r.seq.length
                              flags := r.rebuilt.toNat + 2 * r.govf.toNat, tokens := r.delivered, clamped := r.clamped, late := r.early, head := r.hd }
        | none => s
      (s.onReq i fun r => { r with waitEnd := none }).leaveEnding i
  | _, _ => s

/-- Every completion that waits and finds room (R299). -/
def State.postEnds (s : State) : State := s.each (s.serve.reqs.map fun e => e.1) fun s i => s.postEnd i

/-- A live request ends: its generation advances, cancels that waited complete, its completion is posted (R321, R323, R329, R336). -/
def State.endReq (s : State) (i status reason : Nat) : State :=
  let r := s.req i
  if !r.live then s
  else
    let s := (s.countEnd status).onReq i fun r => { r with gen := genNext r.gen, st := .ending, cancels := [], waitEnd := some (status, reason) }
    let s := match r.pfx with | some p => s.pfxUnpin p | none => s
    (s.postEnd i).endCancels r.cancels status

/-! ### Stopping (R320, R289) -/

/-- A stop of serving for a request in ADMIT: its fetch runs to its end, or is discarded if it has not started (R320). -/
def State.stopAdmit (s : State) (i : Nat) : State :=
  match (s.req i).cmd with
  | none => s
  | some c =>
    let isIt (h : Chain) : Bool := h.fromWho == .fetch c
    if s.chans.any fun e => e.2.chain.any isIt then s.onReq i fun r => { r with waitEnd := some (stINVALID, 4) }
    else
      { s with chans := s.chans.foldl (fun (m : Sparse Chan) (e : Nat × Chan) => sset Chan.init m e.1 { e.2 with pend := e.2.pend.filter fun h => !isIt h }) s.chans
        }.rejectReq i stINVALID 4

/-- Every admitted request ends with a status (R320, R416). -/
def State.endAll (s : State) (status reason : Nat) : State := s.each (s.liveReqs.map fun e => e.1) fun s i => s.endReq i status reason

/-- The slice has stopped serving: admitted requests end FAULT, handles are released, requests in ADMIT are not admitted (R320). -/
def State.stopServing (s : State) : State :=
  let s := s.endAll stFAULT 0
  let s := s.each ((s.serve.reqs.filter fun e => e.2.st == .inAdmission).map fun e => e.1) fun s i => s.stopAdmit i
  s.each ((s.serve.pfxs.filter fun e => e.2.valid).map fun e => e.1) fun s i => s.pfxDrop i

/-- A device of the slice is in FAULT or has left it: this one, or another by its report (R320). -/
def State.sliceBroken (s : State) : Bool :=
  match s.bind with
  | none => true
  | some b =>
    !s.isIngress || s.get R.STATE_STATE == devFAULT || (List.range (sliceSize b)).any fun k =>
      k != 0 && match sget none s.serve.peers k with
        | some r => r.fault || r.sliceId != b.sliceId || r.bgen != b.bgen
        | none => false

/-- Whether the slice serves, judged again; a serving slice stops when a device enters FAULT or leaves it, and not for a pause of another kind (R319, R320). -/
def State.serveJudge (s : State) : State :=
  let stops := s.serve.was && s.sliceBroken
  let s := if stops then s.stopServing else s
  { s with serve := { s.serve with was := s.serving || (s.serve.was && !stops) } }

/-- Every request of a port is cancelled, its completions and tokens discarded, those that wait among them (R289). -/
def State.portCancel (s : State) (p : Nat) : State :=
  s.each ((s.serve.reqs.filter fun e => e.2.st != .free &&
      (match e.2.cmd with | some c => c.port.val == p | none => false)).map fun e => e.1) fun s i =>
    let s := s.onReq i fun r => { r with orphan := true }
    if (s.req i).st = .ending then s.postEnd i
    else if (s.req i).inflight ∨ (s.req i).st = .inAdmission then s
    else s.endReq i stCANCELLED 0

/-- At least one request is admitted. -/
def State.admittedAny (s : State) : Bool := !s.liveReqs.isEmpty

/-- Work that has failed ends its request, by Enara firmware on the ingress device (R95, R184, R246, R328); elsewhere the ingress device is told. -/
def State.endFailed (s : State) : State :=
  let l := s.fails
  let s := { s with fails := [] }
  s.each l fun s f =>
    if s.isIngress then (match s.findReq f.1.toNat with | some i => s.endReq i f.2.1 f.2.2 | none => s)
    else s.emit (.toIngress "rowFault" [f.1.toNat, f.2.1, f.2.2])

/-! ### Launches (R325, R326, R331 to R333) -/

/-- The state a request runs in, WAIT_BUDGET and HELD apart (Table 11-1). -/
def Req.base (r : Req) : ReqState := match r.st with | .waitBudget | .held => r.left | st => st

/-- A request enters WAIT_BUDGET or HELD, its budget-wait clock running (R333). -/
def State.toWait (s : State) (i : Nat) (st : ReqState) : State :=
  s.onReq i fun r => { r with st := st, left := r.base, bwaitAt := if r.bwaitAt.isNone then some s.now else r.bwaitAt }

/-- A request whose token ring's store is full receives no step (R299). -/
def State.tokenRoom (s : State) (r : Req) : Bool :=
  r.orphan || r.creating.isSome || (match r.cmd with | some c => s.tqRoom c.port r.tq | none => true)

/-- One request considered for a launch with `free` rows left (R325, R326, R332, R333). -/
def State.place (s : State) (m tag i free : Nat) : State × Nat :=
  let r := s.req i
  if free = 0 then (s, 0)
  else if !s.tokenRoom r then (s.toWait i .held, free)
  else
    let t := s.tenant r.tenant
    let dec := r.base == .decode
    let cost := if dec then 16 else t.pfw
    if t.level < cost then (s.toWait i .waitBudget, free)
    else
      let want := if dec then 1 else min (s.get R.SHAPE_PF_ROWS) (r.seq.length - r.next)
      let n := min (min want free) (if cost = 0 then want else t.level / cost)
      let fin := r.creating.isNone && (dec || decide (r.seq.length ≤ r.next + n))
      let s := s.onTenant r.tenant fun t => { t with level := t.level - n * cost }
      let s := s.onReq i fun r => { r with st := r.base, inflight := true, launched := some s.now, tag := some tag, bwait := 0, bwaitAt := none }
      (s.onMb m fun b => { b with rows := b.rows ++ [⟨BitVec.ofNat 32 (reqId i r), n, fin⟩] }, free - n)

/-- The requests considered at a launch, in the order of R326. -/
def State.candidates (s : State) (tag : Nat) : List Nat :=
  let key (r : Req) : Nat := match r.launched with | some t => t + 1 | none => 0
  (sortBy (fun (a b : Nat × Req) => decide (b.2.prio < a.2.prio) || (a.2.prio == b.2.prio && decide (key a.2 < key b.2)))
    (s.liveReqs.filter fun e => !e.2.inflight && e.2.tag != some tag)).map fun e => e.1

/-- Rows grouped by tenant (R326). -/
def State.grouped (s : State) (l : List MRow) : List MRow :=
  sortBy (fun (a b : MRow) => decide ((s.req (bits a.req.toNat 0 20)).tenant < (s.req (bits b.req.toNat 0 20)).tenant)) l

/-! ### Adapter batch tables (R116, R350) -/

/-- The directory's entry of an adapter slot for a logical tile and layer (R350, R364); slot 0 is none. -/
def State.adOf (s : State) (tile layer slot : Nat) : Option AdEnt :=
  if slot = 0 then none else s.serve.adir.find? fun a => a.tile == tile && a.layer == layer && a.adslot == slot

/-- The entry of a micro-batch row (Table 3-6). -/
def State.adEntry (s : State) (a : Option AdEnt) (row : Nat) : List Byte :=
  match a with
  | none => leBytes 16 (row % 2 ^ 16 * 2 ^ 80)
  | some a =>
    let n := (s.siteOf a.tile).val / 9
    let base := n * 2 ^ 33 + s.get (R.MREG_BASE_MIB n 3) * 2 ^ 20 + a.off
    leBytes 16 (base % 2 ^ 48 + a.fmt % 16 * 2 ^ 48 + a.rank % 128 * 2 ^ 56 + a.alpha.toNat * 2 ^ 64 + row % 2 ^ 16 * 2 ^ 80)

/-- A FMT that Table 3-6 does not list. -/
def adFmtBad (a : Option AdEnt) : Bool := a.any fun a => !(a.fmt == 1 || a.fmt == 2 || a.fmt == 3 || a.fmt == 4)

/-- Bytes written into a tile by Enara firmware: WRITE packets of up to 8 words, the last of which signals `h`. -/
def State.fwWrite (s : State) (tile addr : Nat) (h : Handle) : List Byte → Nat → State
  | _, 0 => s
  | bs, fuel + 1 =>
    let d := bs.take 512
    let w := (d.length + 63) / 64
    let last := decide (bs.length ≤ 512)
    let p : LatPkt :=
      { mc := false, sa := last, err := false, dest := BitVec.ofNat 11 tile, src := 0x178, addr := BitVec.ofNat 48 addr, words := w
        owner := 0xFFFFFFFF, sigH := h, sigN := 1, firstOff := 0, lastLen := BitVec.ofNat 6 d.length
        elFirst := 0, data := d ++ List.replicate (64 * w - d.length) 0, parts := [] }
    let s := s.inject 0 p
    if last then s else s.fwWrite tile (addr + 512) h (bs.drop 512) fuel

/-- The table of a logical tile and layer for the rows of a micro-batch, given by their adapter slots; the object that the layer's record names is signalled once it is written (R116). A reserved FMT reads as no adapter. -/
def State.adTable (s : State) (slots : List Nat) (tile layer : Nat) : State :=
  let t := s.siteOf tile
  let es := slots.map fun k => s.adOf tile layer k
  let s := s.bump (R.TU_CLAMP_CNT t.val) (es.filter adFmtBad).length
  let addr := Config.adpTable tile layer % 2 ^ 15 * 64
  let h := BitVec.ofNat 23 (bits (leNat (s.spBytes t (Config.layerDesc tile layer % 2 ^ 15 * 64) 16)) 73 23)
  let bs := ((List.range es.length).zip es).flatMap fun e => s.adEntry (if adFmtBad e.2 then none else e.2) e.1
  s.fwWrite tile addr h bs (bs.length / 512 + 1)

/-- The adapter batch tables of every tile and layer of this device with an adapter in its directory (R116, R350). -/
def State.adTables (s : State) (rows : List MRow) : State :=
  let slots := rows.flatMap fun w => List.replicate w.n (s.req (bits w.req.toNat 0 20)).adslot
  s.each ((s.serve.adir.map fun a => (a.tile, a.layer)).dedup) fun s x => s.adTable slots x.1 x.2

/-- In DUAL, a copy of the STEP state areas that a micro-batch uses is kept until it leaves (R449). -/
def State.keepStep (s : State) (m : Nat) (rows : List MRow) : State :=
  if !s.dual then s
  else
    { s with fe := { s.fe with kept := sset [] s.fe.kept m (rows.flatMap fun w =>
        (Config.stepBytes (bits w.req.toNat 0 20)).map fun k => (k % (288 * 2 ^ 21), sget 0 s.sp (k % (288 * 2 ^ 21)))) } }

/-- A micro-batch's rows are chosen and launched, if there are any: each row with the plane bit of its request's slot (R356), its page entries (R181), and the adapter batch tables first (R116, R325, R326). -/
def State.launch (s : State) (m : Nat) (late : Bool) : State :=
  let tag := s.get R.STEP_NOW_N
  let s := s.onMb m fun b => { b with rows := [], late := false }
  let r := (s.candidates tag).foldl (fun (p : State × Nat) i => p.1.place m tag i p.2) (s, s.get R.SHAPE_ROWS)
  let s := r.1
  let rows := s.grouped (s.mb m).rows
  if rows.isEmpty then s
  else
    let s := (s.onMb m fun b => { b with rows := rows, launched := some s.now }).bump R.STEP_CNT
    let s := ((s.keepStep m rows).adTables rows).each rows fun s w => s.givePages (bits w.req.toNat 0 20)
    let s := s.emit (.orbit m tag (rows.map fun w => (w.req, w.n, (s.req (bits w.req.toNat 0 20)).slot % 2)))
    if late then s.bumpEvt R.STEP_OVERRUN_CNT R.SERVE_EVT_STEP_OVERRUN else s

/-- A slot missed while its index was on the orbit, or rows were held, is made up (R325). -/
def State.relaunch (s : State) (m : Nat) : State :=
  if (s.mb m).late ∧ (s.mb m).launched = none ∧ !s.fe.rowsHeld ∧ s.serving then s.launch m true else s

/-! ### Rebuilding (R342, R380) -/

/-- Firmware clears the STEP state of entry `i` (R70). -/
def State.clearStep (s : State) (i : Nat) : State :=
  { s with sp := (Config.stepBytes i).foldl (fun m k => sset 0 m (k % (288 * 2 ^ 21)) 0) s.sp }

/-- A request is rebuilt on the ACTIVE slot, its STEP state cleared (R70): every position is run again, its grammar replayed (R342, R343). -/
def State.rebind (s : State) (i : Nat) : State :=
  let r := s.req i
  let r := { r with st := .rebuild, left := .rebuild, next := 0, rebuilt := true, pendRebuild := false, slot := s.activeSlot.getD 0,
                    bwait := s.bwaitNow r, bwaitAt := none }
  let r := (r.seq.drop r.gen0).foldl (fun r t => (s.gramStep r t).1) (s.gramStart r)
  (((s.clearStep i).onReq i fun _ => r).bump R.REBUILD_CNT).drainCheck (s.req i).slot

/-- Every request bound to a slot is rebuilt, one in flight at its commit point (R342, R380). -/
def State.rebuildSlot (s : State) (slot : Nat) : State :=
  s.each ((s.liveReqs.filter fun e => e.2.slot == slot).map fun e => e.1) fun s i =>
    if (s.req i).inflight then s.onReq i fun r => { r with pendRebuild := true } else s.rebind i

end Sys2Proof.Machine
end

