-- ==== Sys2Proof/Machine/Serving.lean ====
section
/-! DEFINITION. The serving engine: commands that submit and steer requests, launches and commit points (R319 to R353). -/

namespace Sys2Proof.Machine

open Sys2Proof

/-- Reasons of Table 11-4 and Table 10-9. -/
def rsTENANT : Nat := 6
/-- CONTEXT. -/
def rsCONTEXT : Nat := 7
/-- GRAMMAR. -/
def rsGRAMMAR : Nat := 8
/-- SPACE. -/
def rsSPACE : Nat := 3
/-- IN_USE. -/
def rsINUSE : Nat := 2

/-- A serving command of opcode `op` is performed on the ingress device of a serving slice (R319), or waits while `k` gives nothing. -/
def State.serveCmdW (s : State) (op : Nat) (c : Cmd) (k : State → Option State) : State :=
  s.ringCmdW op c fun s =>
    let s := s.serveJudge
    if !s.isIngress then some (s.complete c (.st stINVALID 3)) else if !s.serving then some (s.complete c (.st stINVALID 4)) else k s

/-- A serving command of opcode `op` performed by `k`. -/
def State.serveCmd (s : State) (op : Nat) (c : Cmd) (k : State → State) : State := s.serveCmdW op c fun s => some (k s)

/-- The host channel that fetches for a port (R334). -/
def State.fetchChan (s : State) (p : Nat) : Nat := 256 + (if p = 0 then s.get R.FETCH_CFG_CH_A else s.get R.FETCH_CFG_CH_B)

/-- The entry a SUBMIT or PREFIX_CREATE takes: the lowest FREE one, or a place beyond the table for a command whose checks 5 and 6 come before it is found full (R335). -/
def State.newEntry (s : State) : Nat := ((List.range 8208).find? fun i => (s.req i).st == .free).getD 8208

/-! ### SUBMIT and ADMISSION (R334 to R337) -/

/-- TEMP as applied (Table 11-3). -/
def tempOf (c : BitVec 16) : BitVec 16 := if flt (f16dec c) FVal.zero || (f16dec c).isNaN then 0 else c
/-- TOPP as applied. -/
def toppOf (c : BitVec 16) : BitVec 16 := if flt FVal.zero (f16dec c) && flt (f16dec c) (.fin false 1 0) then c else 0x3C00
/-- MINP as applied. -/
def minpOf (c : BitVec 16) : BitVec 16 :=
  if !(f16dec c).isNaN && !flt (f16dec c) FVal.zero && flt (f16dec c) (.fin false 1 0) then c else 0
/-- RPEN as applied. -/
def rpenOf (c : BitVec 16) : BitVec 16 := if (f16dec c).isNaN || flt (f16dec c) (.fin false 1 0) then 0x3C00 else c

/-- Check 3 of R335: an ID names a loaded image of the right kind. -/
def State.gramIs (s : State) (id : Nat) (auto : Bool) : Bool :=
  id == 0 || (match s.gram id with | some g => g.auto == auto | none => false)

/-- An FP16 field of a payload with its applied value, a substitution being logged (R293, Table 10-4). -/
def State.ringSubst (s : State) (c : Cmd) (lsb : Nat) (f : BitVec 16 → BitVec 16) : State × BitVec 16 × Bool :=
  let w := BitVec.ofNat 16 (cf c lsb 16)
  if f w = w then (s, w, false) else (s.ringLog c .subst lsb 16 w.toNat (f w).toNat, f w, true)

/-- The head of its SQ after a command was fetched (R306). -/
def State.cmdHead (s : State) (c : Cmd) : Nat :=
  match (s.port c.port).sq c.sq with
  | some x => (match x.entry c with | some f => f.2.2.1 | none => 0)
  | none => 0

/-- SUBMIT: the payload's checks, then the entry in ADMIT and its context fetch (R334, R335); none while the fetch channel holds 4 pending chains. -/
def State.submit (s : State) (c : Cmd) : Option State :=
  let ch := s.fetchChan c.port
  let h := cf c 160 32
  let p := if h = 0 then none else s.findPfx h
  let plen := match p with | some i => (s.pfx i).toks.length | none => 0
  let ctx := cf c 128 20
  let mn := s.ringClamp c 192 20 1 (max 1 (s.get R.LIMITS_MAXPOS - (plen + ctx)))
  let te := mn.1.ringSubst c 304 tempOf
  let tp := te.1.ringSubst c 320 toppOf
  let mp := tp.1.ringSubst c 336 minpOf
  let tk := mp.1.ringClamp c 352 11 0 1024
  let rp := tk.1.ringSubst c 368 rpenOf
  let rw := rp.1.ringClamp c 384 13 0 4096
  let three := cf c 500 2 == 3
  let s := if three then rw.1.ringLog c .subst 500 2 3 2 else rw.1
  let nstop := min 2 (cf c 500 2)
  let tenant := cf c 148 10
  let old : Bool := match p with | some i => some (s.pfx i).slot != s.activeSlot | none => false
  let clamped := mn.2.2 || te.2.2 || tp.2.2 || mp.2.2 || tk.2.2 || rp.2.2 || rw.2.2 || three
  let reject (s : State) (st rs : Nat) : Option State := some (s.complete c { Done.st st rs with clamped := clamped })
  if !(s.tenant tenant).en then reject s stINVALID rsTENANT
  else if !s.gramIs (cf c 272 16) true || !s.gramIs (cf c 288 16) false then reject s stINVALID rsGRAMMAR
  else if h != 0 && old then reject (match p with | some i => s.pfxDrop i | none => s) stPREFIX 0
  else if h != 0 && (match p with | some i => (s.pfx i).tenant != tenant | none => true) then reject s stPREFIX 0
  else if ctx = 0 then reject s stINVALID rsCONTEXT
  else if !s.chanRoom ch then none
  else
    let i := s.newEntry
    let hd := s.cmdHead c
    let samp : Sampling :=
      { temp := te.2.1, topp := tp.2.1, minp := mp.2.1, rpen := rp.2.1, topk := tk.2.1, rpwin := rw.2.1
        seed := BitVec.ofNat 64 (cf c 400 64), stops := [cf c 464 18, cf c 482 18].take nstop, noEos := cf c 502 1 == 1 }
    let s := s.onReq i fun r =>
      { Req.init with gen := r.gen, st := .inAdmission, tenant := tenant, cmd := some c, clamped := clamped, early := cf c 158 1 == 1
                      tq := cf c 212 4, prio := cf c 216 2, bwaitMs := cf c 256 16, grammar := cf c 272 16, alist := cf c 288 16
                      samp := samp, maxNew := mn.2.1, pfx := p, hd := hd }
    some (s.chanPush ch ⟨BitVec.ofNat 64 (cf c 64 64), .fetch c⟩)

/-- SUBMIT. -/
def execSubmit (c : Cmd) (s : State) : Res State := .next (s.serveCmdW 0x10 c fun s => s.submit c)

/-- Tokens that a fetch brings: CTX_LEN, or the kept length of a PREFIX_CREATE. -/
def fetchLen (r : Req) (c : Cmd) : Nat := if r.creating.isSome then r.maxNew else cf c 128 20

/-- Admission of entry `i` with its fetched tokens: checks 6 and 7, then PREFILL (R335 to R337); a seed that the stopped DRBG cannot give fails it (R468). Its STEP state is cleared (R70). -/
def State.admitReq (s : State) (i : Nat) (toks : List Nat) : State :=
  let r := s.req i
  let pre := match r.pfx with | some p => (s.pfx p).toks | none => []
  let t := s.tenant r.tenant
  let live := (s.liveReqs.filter fun e => e.2.tenant == r.tenant).length
  let total := if r.creating.isSome then toks.length else pre.length + toks.length + r.maxNew
  if !s.serving || r.waitEnd.isSome then s.rejectReq i stINVALID 4
  else if toks.any (fun k => decide (s.get R.SHAPE_VOCAB ≤ k)) ∨ s.get R.LIMITS_MAXPOS < pre.length + toks.length then
    s.rejectReq i stINVALID rsCONTEXT
  else if s.get R.SECU_STAT_RNG_OK = 0 ∧ r.creating.isNone ∧ (r.cmd.any fun c => cf c 159 1 == 0) then s.rejectReq i stFAULT 0x1B
  else
    match (if 8192 ≤ i ∨ (if t.maxReq = 0 then 8192 else t.maxReq) ≤ live then none else s.reserve (total - pre.length) total) with
    | none => (if r.creating.isSome then s else s.bump R.REJECT_CNT).rejectReq i stREJECTED 0
    | some pages =>
      let drawn := r.creating.isNone && (match r.cmd with | some c => cf c 159 1 == 0 | none => false)
      let seed := if drawn then BitVec.ofNat 64 (leNat (s.random 8).1) else r.samp.seed
      let us := match r.cmd with | some c => if r.creating.isSome then 0 else cf c 224 32 | none => 0
      let s := if drawn then (s.random 8).2 else s
      let s := match r.pfx with | some p => s.onPfx p fun x => { x with used := s.now } | none => s
      let s := if s.liveReqs.isEmpty then { s with serve := { s.serve with firstAt := some s.tm.time } } else s
      let s := (s.clearStep i).onReq i fun r => s.gramStart
        { r with st := .prefill, seq := pre ++ toks, gen0 := pre.length + toks.length, next := pre.length, slot := s.activeSlot.getD 0
                 adslot := t.adslot, deadline := if us = 0 then none else some (s.now + usTicks us), pages := pages
                 samp := { r.samp with seed := seed } }
      let s := s.bump R.ADMIT_CNT
      let s := match r.cmd with
        | some c =>
          if r.early ∧ !r.orphan then
            s.complete c { Done.st stDONE 0 with reqid := reqId i r, result := seed.toNat, clamped := r.clamped }
          else s
        | none => s
      if r.cancels.isEmpty ∧ !r.orphan then s else s.endReq i stCANCELLED 0

/-- The bytes a running fetch brings: from the host, or from a stack of this device over the lattice (R334, R351). -/
def State.fetchGot (s : State) (c : Cmd) (creating : Bool) (n : Nat) (host : HostRd) : State × Got :=
  if !creating ∧ cf c 218 1 = 1 then s.dmaStackRead (srcAcc 3 false 0xFFFFFFFF .clean) (cf c 64 64) n
  else match host with
    | .data bs => if bs.length = n then (s, .bytes bs) else (s, .wait)
    | .fail code => (s, .err code)

/-- A channel error of a fetch, after which Enara firmware resumes the channel (R334). -/
def State.fetchFail (s : State) (ch code : Nat) : State := (s.chFail ch code).chResume ch

/-- The running fetch of a SUBMIT or PREFIX_CREATE on a port's channel ends and admission decides its request's outcome (R334, R335). -/
def execAdmission (p : Port) (host : HostRd) (s : State) : Res State :=
  .next (
    let ch := s.fetchChan p
    match (s.chan ch).st, (s.chan ch).chain with
    | .fetch, some ⟨_, .fetch c⟩ =>
      match s.admitOf c with
      | none => if cf c 0 8 = 0x15 then s else s.chainEnd ch
      | some i =>
        let r := s.req i
        let n := fetchLen r c
        let g := s.fetchGot c r.creating.isSome (4 * n) host
        match g.2 with
        | .wait => s
        | .err code =>
          if r.waitEnd.isSome then ((g.1.rejectReq i stINVALID 4).onChan ch fun x => { x with chain := none }).fetchFail ch code
          else g.1.fetchFail ch code
        | .bytes bs => ((g.1.serveJudge).admitReq i ((List.range n).map fun k => numAt bs (4 * k) 4)).chainEnd ch
    | _, _ => s)

/-! ### CANCEL (R329, R349) -/

/-- CANCEL. -/
def execCancel (c : Cmd) (s : State) : Res State :=
  .next (s.serveCmd 0x11 c fun s =>
    let id := cf c 32 32
    match s.findReq id with
    | none => (s.bumpEvt R.STALE_ID_CNT R.SERVE_EVT_STALE).complete c { Done.st stSTALE 0 with reqid := id }
    | some i =>
      let s := s.onReq i fun r => { r with cancels := r.cancels ++ [c] }
      if (s.req i).inflight ∨ (s.req i).st = .inAdmission then s else s.endReq i stCANCELLED 0)

/-! ### Prefix handles (R338 to R341) -/

/-- PREFIX_CREATE: the quota and an index are found, then the tokens are fetched and run as a request of the tenant (R339, R340); none while the fetch channel holds 4 pending chains. -/
def State.prefixCreate (s : State) (c : Cmd) : Option State :=
  let ch := s.fetchChan c.port
  let g := max 1 (s.get R.LIMITS_PFX_GRAN)
  let kept := cf c 128 20 / g * g
  let t := cf c 148 10
  let idle := s.idlePfxs t
  let idleLen := (idle.map fun i => (s.pfx i).toks.length).sum
  if !(s.tenant t).en then some (s.complete c (.st stINVALID rsTENANT))
  else if kept = 0 then some (s.complete c (.st stINVALID rsCONTEXT))
  else if s.freePfx.isNone ∧ idle.isEmpty then some (s.complete c (.st stBUSY rsSPACE))
  else if (s.tenant t).pfxq < s.pinnedNow t - idleLen + kept then some (s.complete c (.st stBUSY rsINUSE))
  else if !s.chanRoom ch then none
  else
    let hd := s.cmdHead c
    let s := if s.freePfx.isNone then s.pfxEvict (idle.headD 0) else s
    let s := s.evictFor t kept (s.idlePfxs t)
    let i := s.newEntry
    let ix := s.freePfx
    let s := s.onReq i fun r =>
      { Req.init with gen := r.gen, st := .inAdmission, tenant := t, cmd := some c, creating := ix, maxNew := kept, hd := hd }
    some (s.chanPush ch ⟨BitVec.ofNat 64 (cf c 64 64), .fetch c⟩)

/-- PREFIX_CREATE. -/
def execPrefixCreate (c : Cmd) (s : State) : Res State := .next (s.serveCmdW 0x12 c fun s => s.prefixCreate c)

/-- PREFIX_RELEASE (R341). -/
def execPrefixRelease (c : Cmd) (s : State) : Res State :=
  .next (s.serveCmd 0x13 c fun s =>
    match s.findPfx (cf c 64 32) with
    | none => s.complete c (.st stPREFIX 0)
    | some i => (s.pfxDrop i).complete c (.st stDONE 0))

/-- A prefill that was run for a handle is done: the handle exists, its pages pinned (R339). -/
def State.pfxMade (s : State) (i : Nat) : State :=
  let r := s.req i
  match r.creating, r.cmd with
  | some k, some c =>
    let s := s.onPfx k fun p =>
      { p with held := true, valid := true, tenant := r.tenant, slot := r.slot, toks := r.seq, used := s.now, pages := s.kvPages r.seq.length }
    let s := s.complete c { Done.st stDONE 0 with result := k + (s.pfx k).gen * 2 ^ 16 + r.seq.length * 2 ^ 32 }
    (s.onReq i fun r => { r with cmd := none, creating := none }).endReq i stDONE 0
  | _, _ => s

/-! ### Tenants (R331, R350) -/

/-- TENANT_SET. -/
def execTenantSet (c : Cmd) (s : State) : Res State :=
  .next (s.serveCmd 0x14 c fun s =>
    let i := cf c 64 10
    let pf := s.ringClamp c 80 5 0 16
    let mr := pf.1.ringClamp c 176 14 0 8192
    let en := cf c 74 1 == 1
    let burst := cf c 128 32
    let s := mr.1.onTenant i fun t =>
      { t with en := en, adslot := cf c 88 8, maxReq := mr.2.1, pfxq := cf c 192 32, nextSet := some (cf c 96 32, burst, pf.2.1, cf c 160 16)
               level := if cf c 75 1 = 1 then 16 * burst else t.level, frac := if cf c 75 1 = 1 then 0 else t.frac }
    let s := if en then s.evictFor i 0 (s.idlePfxs i)
      else s.each ((s.serve.pfxs.filter fun e => e.2.valid && e.2.tenant == i).map fun e => e.1) fun s k => s.pfxDrop k
    s.complete c { Done.st stDONE 0 with clamped := pf.2.2 || mr.2.2 })

/-! ### Grammars (R344) -/

/-- A live request uses a grammar ID. -/
def State.gramUsed (s : State) (id : Nat) : Bool := s.busyReqs.any fun e => e.2.st != .ending && (e.2.grammar == id || e.2.alist == id)

/-- UNLOAD of an ID (R344). -/
def State.gramUnload (s : State) (c : Cmd) : State :=
  let id := cf c 64 16
  if id = 0 then s.complete c (.st stINVALID rsGRAMMAR)
  else if s.gramUsed id then s.complete c (.st stBUSY rsINUSE)
  else { s with serve := { s.serve with grams := sset none s.serve.grams id none } }.complete c (.st stDONE 0)

/-- A fetched image is stored by the control core over the lattice, or the outcome that comes first; none while its stack is not READY (R171, R190, R344). -/
def State.gramStore (s : State) (c : Cmd) (img : List Byte) : Option State :=
  let id := cf c 64 16
  let auto := cf c 80 2 == 0
  if s.gramUsed id then some (s.complete c (.st stBUSY rsINUSE))
  else
    match s.gramRoom id img.length with
    | none => some (s.complete c (.st stBUSY rsSPACE))
    | some (n, o) =>
      if !imageOk auto (s.get R.SHAPE_VOCAB) img then some (s.complete c (.st stINVALID rsGRAMMAR))
      else if s.stackWaits (n * 2 ^ 33) then none
      else
        let s := (s.stackWriteSpan (srcAcc 7 false 0xFFFFFFFF .clean) (n * 2 ^ 33 + o) img).1
        some ({ s with serve := { s.serve with grams := sset none s.serve.grams id (some ⟨auto, n, o, img⟩) } }.complete c (.st stDONE 0))

/-- GRAMMAR_LOAD comes to its turn: its image's fetch chain is placed on the port's fetch channel (R334, R344); none while it holds 4 pending chains. -/
def State.gramBegin (s : State) (c : Cmd) : Option State :=
  let ch := s.fetchChan c.port
  if cf c 80 2 = 2 then some (s.gramUnload c)
  else if cf c 64 16 = 0 ∨ cf c 80 2 = 3 then some (s.complete c (.st stINVALID rsGRAMMAR))
  else if cf c 96 32 = 0 then s.gramStore c []
  else if !s.chanRoom ch then none
  else some (s.chanPush ch ⟨BitVec.ofNat 64 (cf c 128 64), .fetch c⟩)

/-- The fetch of a GRAMMAR_LOAD on channel `ch` ends (R334, R344). -/
def State.gramFetched (s : State) (ch : Nat) (c : Cmd) (host : HostRd) : State :=
  match host with
  | .fail code => s.fetchFail ch code
  | .data bs =>
    if bs.length = cf c 96 32 then (match s.gramStore c bs with | some t => t.chainEnd ch | none => s) else s

/-- GRAMMAR_LOAD with KIND AUTOMATON or LIST: it comes to its turn, or its fetch chain runs and `host` brings the image (R334, R344). -/
def execGrammarLoad (c : Cmd) (host : HostRd) (s : State) : Res State :=
  .next (
    let ch := s.fetchChan c.port
    if (s.chan ch).st == .fetch && ((s.chan ch).chain.map Chain.fromWho) == some (.fetch c) then s.gramFetched ch c host
    else s.serveCmdW 0x15 c fun s => s.gramBegin c)

/-- GRAMMAR_LOAD with KIND UNLOAD. -/
def execUnload (c : Cmd) (s : State) : Res State := .next (s.serveCmdW 0x15 c fun s => s.gramBegin c)

/-! ### Launches (R325) -/

/-- The slot of micro-batch `m` in the step in progress has come (R325). -/
def State.slotDue (s : State) (m : Nat) : Bool :=
  match s.serve.mark with
  | some t => decide (m < s.get R.SHAPE_MBATCH) && (s.mb m).tag != some (s.get R.STEP_NOW_N) &&
      decide (t * 1000 + m * s.get R.LIMITS_SPACING * 940 ≤ s.tm.time * 1000)
  | none => false

/-- A micro-batch's slot: launched, or late while its index is on the orbit or rows are held (R325, R442). -/
def execLaunch (m : Fin 64) (s : State) : Res State :=
  .next (
    if !s.slotDue m || !s.serving then s
    else
      let busy := (s.mb m).launched.isSome || s.fe.rowsHeld
      let s := s.onMb m fun b => { b with tag := some (s.get R.STEP_NOW_N), late := b.late || busy }
      if busy then s else s.launch m false)

/-! ### Rows (R321, R323, R328) -/

/-- A row of an ended request has come back (R323). -/
def State.rowBack (s : State) (i : Nat) (req : BitVec 32) : State :=
  let left := (((s.serve.mbs.map fun e => e.2.rows).flatten.find? fun w => w.req == req).map fun w => w.n).getD 1
  let s := { s with serve := { s.serve with mbs := s.serve.mbs.foldl (fun (m : Sparse MBatch) (e : Nat × MBatch) => sset MBatch.init m e.1
    { e.2 with rows := e.2.rows.map fun w => if w.req = req then { w with n := w.n - 1 } else w }) s.serve.mbs } }
  if left ≤ 1 then (s.onReq i fun r => { r with inflight := false }).leaveEnding i else s

/-- A row returns to the ingress device; a stale one is dropped, and the last row of an ended request lets it leave ENDING (R321, R323). -/
def execRowReturn (req : BitVec 32) (s : State) : Res State :=
  .next (
    let i := bits req.toNat 0 20
    match s.findReq req.toNat with
    | some _ => s
    | none =>
      let s := s.bumpEvt R.STALE_ID_CNT R.SERVE_EVT_STALE
      if i < 8192 ∧ (s.req i).st = .ending ∧ endedId i (s.req i) = req.toNat then s.rowBack i req else s)

/-- A token is appended to a request's sequence and sent (R300, R307, R337). -/
def State.deliver (s : State) (i t : Nat) (last : Bool) : State :=
  let r := s.req i
  let e := reqId i r + t * 2 ^ 32 + last.toNat * 2 ^ 50 + r.govf.toNat * 2 ^ 51 + r.seq.length % 2 ^ 32 * 2 ^ 64 +
    r.tag.getD 0 % 2 ^ 31 * 2 ^ 96
  let s := (s.onReq i fun r => { r with seq := r.seq ++ [t], delivered := r.delivered + 1, next := r.seq.length, st := .decode }).bump R.TOKEN_CNT
  match r.cmd with
  | some c => if r.orphan then s else s.ringPost c.port true r.tq e
  | none => s

/-- A row that yields a token, settled by Table 11-2; its mask stage reads the image that masks it, and an uncorrectable error there ends the request FAULT (R184). -/
def State.settleToken (s : State) (i : Nat) (l : List (BitVec 32)) : State :=
  let r := s.req i
  let e := (s.eligible r).map fun t => (t, f32dec (l.getD t 0))
  let cancel := !r.cancels.isEmpty || r.orphan
  let read : State × Bool := match s.maskOf r with
    | some g => s.gramRead g r.gstate (BitVec.ofNat 32 (reqId i r))
    | none => (s, false)
  let s := read.1
  if read.2 then s.endReq i stFAULT 0
  else if e.isEmpty then s.endReq i stGDEAD 0
  else if e.any (fun p => p.2.isNaN) then (s.bump R.NAN_LOGIT_CNT).endReq i stNONFINITE 0
  else if r.deadline.any (fun d => decide (d ≤ s.now)) then s.endReq i stDEADLINE 0
  else
    let t := choose e r.samp (r.seq.drop (r.seq.length - r.samp.rpwin)) r.seq.length
    let g := s.gramStep r t
    let s := if g.2 then s.bumpEvt R.GRAMMAR_OVF_CNT R.SERVE_EVT_GRAMMAR_OVF else s
    let stop := r.samp.stops.contains t || (!r.samp.noEos && s.serve.eos.contains t)
    let full := decide (r.maxNew ≤ r.delivered + 1)
    let dead := g.2 && r.alist == 0
    let last := stop || full || dead || cancel
    let s := (s.deliver i t last).onReq i fun x => { x with gstate := g.1.gstate, gstack := g.1.gstack, govf := g.1.govf }
    if stop ∨ full then
      s.endReq i (if cancel then stCANCEL_LATE else if r.rebuilt then stREBUILT else stDONE) (if stop then 1 else 2)
    else if dead then s.endReq i stGDEAD 0
    else if cancel then s.endReq i stCANCELLED 0
    else s

/-- A request's rows in a micro-batch settled (R328); those of an ended request that have not come back yet are stale, dropped and counted (R321). -/
def State.settle (s : State) (w : MRow) (res : RowResult) : State :=
  let i := bits w.req.toNat 0 20
  match s.findReq w.req.toNat with
  | none =>
    let s := if w.n = 0 then s else (s.bump R.STALE_ID_CNT w.n).set1 R.SERVE_EVT_STALE
    if (s.req i).st = .ending ∧ endedId i (s.req i) = w.req.toNat then (s.onReq i fun r => { r with inflight := false }).leaveEnding i else s
  | some _ =>
    let s := s.onReq i fun r => { r with inflight := false }
    let r := s.req i
    let s := match res with
      | .fault reason => s.endReq i stFAULT reason
      | .nonfinite => s.endReq i stNONFINITE 0
      | .logits l =>
        if w.fin then s.settleToken i l
        else if r.deadline.any (fun d => decide (d ≤ s.now)) then s.endReq i stDEADLINE 0
        else if !r.cancels.isEmpty || r.orphan then s.endReq i stCANCELLED 0
        else
          let s := s.onReq i fun r => { r with next := r.next + w.n }
          if r.creating.isSome ∧ r.seq.length ≤ r.next + w.n then s.pfxMade i else s
    if (s.req i).live ∧ (s.req i).pendRebuild ∧ reqId i (s.req i) = w.req.toNat then s.rebind i else s

/-- The commit point of a micro-batch: every row is settled in order, then a missed slot is made up (R325, R327, R328); it waits for the stacks that hold grammar images (R190). -/
def State.commitPoint (s : State) (m : Fin 64) (rows : List RowResult) : State :=
    match (s.mb m).launched with
    | none => s
    | some t0 =>
      let ws := (s.mb m).rows
      if rows.length ≠ ws.length ∨ (List.range 32).any (fun n => s.stackWaits (n * 2 ^ 33) && s.serve.grams.any fun g => (g.2.map Gram.stack) == some n) then s
      else
        let s := s.endFailed
        let s := s.each (ws.zip rows) fun s p => s.settle p.1 p.2
        let s := { s with fe := { s.fe with rerun := [], kept := sset [] s.fe.kept m.val [] } }
        (s.onMb m fun b => { b with launched := none, rows := [], took := some (s.now - t0) }).relaunch m

/-- A micro-batch not committed ORBIT_LIM after its launch is abandoned (R323, R327). -/
def State.orbitTo (s : State) (m : Fin 64) : State :=
    match (s.mb m).launched with
    | none => s
    | some t0 =>
      if s.now < t0 + usTicks (s.get R.STEP_CFG_ORBIT_LIM) then s
      else
        let ws := (s.mb m).rows
        let s := (s.bumpEvt R.ORBIT_TO_CNT R.SERVE_EVT_ORBIT_TO).fault 0x14 0x1FF (aux := m.val)
        let s := s.each ws fun s w =>
          let i := bits w.req.toNat 0 20
          let ours := (s.findReq w.req.toNat).isSome || ((s.req i).st == .ending && endedId i (s.req i) == w.req.toNat)
          if !ours then s
          else
            let s := s.onReq i fun r => { r with inflight := false }
            if (s.req i).st = .ending then s.leaveEnding i else s.endReq i stFAULT 0
        let s := { s with fe := { s.fe with rerun := [], kept := sset [] s.fe.kept m.val [] } }
        (s.onMb m fun b => { b with launched := none, rows := [] }).relaunch m

/-! ### Reports of other devices (R319, R320, R328, R358) -/

/-- Another device of the slice reports its state to the ingress device. -/
def execPeerStateReport (k : Nat) (r : PeerState) (s : State) : Res State :=
  .next (
    match s.bind with
    | some b =>
      if s.isIngress ∧ 0 < k ∧ k < sliceSize b then { s with serve := { s.serve with peers := sset none s.serve.peers k (some r) } }.serveJudge
      else s
    | none => s)

/-- Firmware on another device raises FAULT for a request in flight (R328). -/
def execRowFaultReport (req : BitVec 32) (reason : BitVec 8) (s : State) : Res State :=
  .next (
    match s.findReq req.toNat with
    | some i => s.endReq i stFAULT reason.toNat
    | none => s)

end Sys2Proof.Machine
end

