-- ==== Sys2Proof/Machine/WOps.lean ====
section
/-! DEFINITION. Operations of the weight store: manifests, chunks, records, known sums, programming (R15 to R20, R41, R44, R359 to R366, R373 to R376, R387). -/

namespace Sys2Proof.Machine

open Sys2Proof

/-! ### Manifests (R359 to R361) -/

/-- A slice descriptor as its 16 bytes (Table 5-5). -/
def bindBytes (b : Binding) : List Byte :=
  leBytes 16 (b.sliceId.toNat + (b.tx - 1) * 2 ^ 16 + (b.ty - 1) * 2 ^ 20 + (b.tz - 1) * 2 ^ 24 + b.ox * 2 ^ 32 + b.oy * 2 ^ 36 + b.oz * 2 ^ 40 +
    (b.ex - 1) * 2 ^ 48 + (b.ey - 1) * 2 ^ 52 + (b.ez - 1) * 2 ^ 56 + b.axes * 2 ^ 64)

/-- Chunk classes of Table 12-3. -/
def clARRAY : Nat := 1
/-- DESC. -/
def clDESC : Nat := 2
/-- PLACE. -/
def clPLACE : Nat := 3
/-- BULK. -/
def clBULK : Nat := 4

/-- The chunks of the shard of orbit index `k`. -/
def shardChunks (m : List Byte) (k : Nat) : List Chunk :=
  let ns := numAt m 2 2
  let first := numAt m (0x40 + 16 * k) 4
  (List.range (numAt m (0x44 + 16 * k) 4)).map fun i =>
    let o := 0x40 + 16 * ns + 32 * (first + i)
    ⟨(m.drop o).take 16, numAt m (o + 16) 1, numAt m (o + 17) 1, numAt m (o + 20) 4⟩

/-- The place of a chunk in the order of R361, none when its class or sector is none of Table 12-3. -/
def chunkRank (c : Chunk) : Option Nat :=
  if c.cls = clARRAY ∧ c.sector < 32 then some (2 * c.sector)
  else if c.cls = clDESC ∧ c.sector < 32 then some (2 * c.sector + 1)
  else if c.cls = clPLACE ∧ c.sector = 0xFF then some 64
  else if c.cls = clBULK ∧ c.sector = 0xFF then some 65
  else none

/-- Numbers that do not fall. -/
def rising : List Nat → Bool
  | a :: b :: r => decide (a ≤ b) && rising (b :: r)
  | _ => true

/-- An ARRAY or DESC chunk of a sector. -/
def Chunk.kept (c : Chunk) (n : Nat) : Bool := (c.cls == clARRAY || c.cls == clDESC) && c.sector == n

/-- Whether a manifest passes R360 on this device. -/
def State.manOk (s : State) (len : Nat) (m : List Byte) : Bool :=
  match s.bind, s.orbitIx with
  | some b, some k =>
    let ns := numAt m 2 2
    let nc := numAt m 0x1C 4
    let cs := shardChunks m k
    let ranks := cs.map chunkRank
    numAt m 0 2 == 1 && m.length == len && len == 0x40 + 16 * ns + 32 * nc + 96 && (m.drop 0x20).take 16 == bindBytes b && ns == sliceSize b &&
      ((List.range 4).any fun i => match sget none s.cfg.keys i with
        | some key => ecdsaVerify key (sha384 (m.take (len - 96))) (m.drop (len - 96))
        | none => false) &&
      ((List.range ns).all fun j => decide (numAt m (0x40 + 16 * j) 4 + numAt m (0x44 + 16 * j) 4 ≤ nc)) &&
      ranks.all (fun r => r.isSome) && rising (ranks.map fun r => r.getD 0) &&
      (List.range 32).all fun n => decide ((cs.filter fun c => c.kept n).length ≤ 24)
  | _, _ => false

/-- The shard of this device in a manifest. -/
def State.parseMan (s : State) (m : List Byte) : Manif :=
  ⟨numAt m 4 4, (m.drop 8).take 16, numAt m 0x18 4, shardChunks m (s.orbitIx.getD 0), sha384 m⟩

/-- A key slot holds the key of a version (R365, R368). -/
def MKey.fits (k : MKey) (m : Manif) : Bool := k.modelId == m.modelId && k.version == m.version

/-- A key of a version, from any key slot. -/
def State.keyFor (s : State) (m : Manif) : Option (List Byte) :=
  (List.range 16).findSome? fun i => match sget none s.ws.keys i with | some k => if k.fits m then some k.key else none | none => none

/-- Chunk `i` of a shard opened (R366). -/
def State.openChunk (s : State) (key : List Byte) (m : Manif) (i : Nat) (c : Chunk) (ct : List Byte) : Option (List Byte) :=
  let k := s.orbitIx.getD 0
  gcmOpen key (leBytes 4 m.version ++ leBytes 2 k ++ leBytes 4 i ++ leBytes 2 0)
    (m.modelId ++ leBytes 4 m.version ++ leBytes 2 k ++ leBytes 4 i ++ leBytes 1 c.cls) ct c.tag

/-- Where REF keeps chunk `i` (R369). -/
def refAddr (cs : List Chunk) (i slot : Nat) : Nat :=
  let n := (cs.getD i ⟨[], 0, 0, 0⟩).sector
  n * 2 ^ 33 + (64 + 24 * slot + ((cs.take i).filter fun c => c.kept n).length) * 2 ^ 20

/-- The weight store's access of a stack, by its lattice port (R171, Table 6-11). -/
def wsAcc : StackAcc := srcAcc 4 false 0xFFFFFFFF .clean

/-- Bytes written to a stack by the weight store, word by word; a stack that is not READY holds them (R171, R180, R190). -/
def State.stkPut (s : State) (a : Nat) (bs : List Byte) : State :=
  s.each (spWords a bs.length) fun s w =>
    let base := w.1 / 64 * 64
    (s.stackAccess { wsAcc with
      addr := BitVec.ofNat 48 base, write := true, be := beOf base w.1 w.2
      data := (List.range 64).map fun k => if a ≤ base + k then bs.getD (base + k - a) 0 else 0 }).1

/-! ### Array records (R362) -/

/-- Weight (r, j) of a record. -/
def weightAt (w : List Byte) (r j : Nat) : Int :=
  let b := (w.getD ((512 * r + j) / 2) 0).toNat
  sxNat 4 (if j % 2 = 0 then b % 16 else b / 16)

/-- Least and greatest weight of a code (Table 1-2). -/
def weightMin (code : Nat) : Int := if code = 0 then -8 else if code = 1 then -4 else -1
/-- The greatest. -/
def weightMax (code : Nat) : Int := if code = 0 then 7 else if code = 1 then 3 else 1

/-- The weights of a record clamped to the range of its code, and how many were outside (R362). -/
def clampWeights (code : Nat) (w : List Byte) : List Byte × Nat :=
  let fix (n : Nat) : Int := clampInt (weightMin code) (weightMax code) (sxNat 4 n)
  let one (b : Byte) : Byte × Nat :=
    let lo := fix (b.toNat % 16)
    let hi := fix (b.toNat / 16)
    (BitVec.ofNat 8 (unsx 4 lo + 16 * unsx 4 hi), (if lo = sxNat 4 (b.toNat % 16) then 0 else 1) + (if hi = sxNat 4 (b.toNat / 16) then 0 else 1))
  let l := w.map one
  (l.map fun p => p.1, (l.map fun p => p.2).sum)

/-- A record of 32,832 bytes, unless its header has it discarded (R362). -/
def parseArr (sector : Nat) (r : List Byte) : Option (ArrRec × Nat) :=
  let l := numAt r 1 1
  let code := numAt r 3 1
  if numAt r 0 1 ≠ 1 ∨ l / 8 ≠ sector ∨ 64 ≤ numAt r 2 1 ∨ 3 ≤ code then none
  else
    let c := clampWeights code (r.drop 64)
    some (⟨l, numAt r 2 1, code, numAt r 4 1 % 2, c.1⟩, c.2)

/-- The records that a chunk's plaintext completes, and the bytes of one that goes on in the next (R362). -/
def splitArr : Nat → List Byte → List (List Byte) × List Byte
  | 0, bs => ([], bs)
  | fuel + 1, bs =>
    if bs.length < 32832 then ([], bs)
    else let z := splitArr fuel (bs.drop 32832); (bs.take 32832 :: z.1, z.2)

/-- The records of a sector's ARRAY chunks as the weight store keeps them: the first of each array, in order, in DUAL for both tiles of a pair (R362, R447); records discarded and weights clamped. -/
def keepArr (dual : Bool) (sector : Nat) (acc : List ArrRec) (rs : List (List Byte)) : List ArrRec × Nat × Nat :=
  rs.foldl (fun (z : List ArrRec × Nat × Nat) r =>
    match parseArr sector r with
    | none => (z.1, z.2.1 + 1, z.2.2)
    | some (x, n) =>
      if z.1.any (fun y => y.tile == x.tile && y.arr == x.arr) || (dual && x.tile % 2 == 1) then (z.1, z.2.1 + 1, z.2.2)
      else (z.1 ++ (if dual then [x, { x with tile := x.tile + 1 }] else [x]), z.2.1, z.2.2 + n)) (acc, 0, 0)

/-- The records of a slot in one sector, decrypted from REF; none when a tag or the key fails (R369, R384, R385). -/
def State.refRecords (s : State) (slot sector : Nat) : Option (List ArrRec) :=
  match sget none s.ws.mans slot with
  | none => none
  | some m =>
    match s.keyFor m with
    | none => none
    | some key =>
      let ixs := (List.range m.chunks.length).filter fun i =>
        let c := m.chunks.getD i ⟨[], 0, 0, 0⟩
        c.cls == clARRAY && c.sector == sector
      let parts := ixs.map fun i =>
        let c := m.chunks.getD i ⟨[], 0, 0, 0⟩
        s.openChunk key m i c (s.stkBytes (refAddr m.chunks i slot) c.len)
      if parts.any (fun p => p.isNone) then none
      else
        let bs := (parts.map fun p => p.getD []).flatten
        some (keepArr (s.get R.FLT_STAT_REDUND == 1) sector [] (splitArr (bs.length / 32832 + 1) bs).1).1

/-- The weight store reads and decrypts the records of a slot in one sector; none also when a word holds an uncorrectable error (R184, R369). -/
def State.refRead (s : State) (slot sector : Nat) : State × Option (List ArrRec) :=
  match (sget none s.ws.mans slot).filter fun m => (s.keyFor m).isSome with
  | none => (s, none)
  | some m =>
    let ixs := (List.range m.chunks.length).filter fun i =>
      let c := m.chunks.getD i ⟨[], 0, 0, 0⟩
      c.cls == clARRAY && c.sector == sector
    let r := ixs.foldl (fun (q : State × Bool) i =>
      let z := q.1.stackReadSpan wsAcc (refAddr m.chunks i slot) (m.chunks.getD i ⟨[], 0, 0, 0⟩).len
      (z.1, q.2 || z.2.2)) (s, false)
    (r.1, if r.2 then none else s.refRecords slot sector)

/-- The records of a slot whose reference copy is valid. -/
def State.slotRecs (s : State) (slot sector : Nat) : State × Option (List ArrRec) :=
  if s.get (R.SLOT_REF_VALID slot) = 1 then s.refRead slot sector else (s, none)

/-! ### Known sums (R376) -/

/-- Code r of test vector v. -/
def State.ksCode (s : State) (v r : Nat) : Int := Sys2Proof.Machine.ksCode (BitVec.ofNat 64 (s.get R.KS_SEED_SEED)) v r

/-- The data column each spare column holds or is to hold: its entry is valid, or a repair of it is pending (R373). -/
def State.spareCols (s : State) (t : Site) (a : ArrIx) : List (Option Nat) :=
  (List.range 8).map fun k =>
    if s.get (sprF t a k true) = 1 ∨ s.fe.repairs.contains (t.val, a.val, k) then some (128 * (k / 2) + s.get (sprF t a k false)) else none

/-- The sum of a row's weights over a column group (R41). -/
def groupSum (w : List Byte) (r k : Nat) : Int := ((List.range 128).map fun j => weightAt w r (128 * k + j)).sum

/-- The expected value of a physical column, with 8 fraction bits (R376). -/
def State.expected (s : State) (w : List Byte) (sp : List (Option Nat)) (v col : Nat) : Int :=
  let dot (f : Nat → Int) : Int := ((List.range 128).map fun r => s.ksCode v r * f r).sum
  if col < 512 then 256 * dot fun r => weightAt w r col
  else if col < 520 then (match sp.getD (col - 512) none with | some j => 256 * dot fun r => weightAt w r j | none => 0)
  else if col < 524 then 2 * dot fun r => groupSum w r (col - 520)
  else 0

/-- Address of an expected value (R376). -/
def expAddr (slot l a v col : Nat) : Nat := l / 8 * 2 ^ 33 + (112 + 20 * slot) * 2 ^ 20 + ((((l % 8) * 64 + a) * 16 + v) * 528 + col) * 4

/-- The known sums of an array captured in EXP of its sector. -/
def State.captureExp (s : State) (slot : Nat) (x : ArrRec) : State :=
  let sp := s.spareCols (s.siteOf x.tile) (Fin.ofNat 64 x.arr)
  s.each (List.range 16) fun s v =>
    s.stkPut (expAddr slot x.tile x.arr v 0) ((List.range 528).map fun col => leBytes 4 (unsx 32 (s.expected x.weights sp v col))).flatten

/-! ### Programming an array (R20, R373 to R375) -/

/-- The columns of a column group (R15). -/
def groupCols (k : Nat) : List Nat := (List.range 128).map (128 * k + ·) ++ [512 + 2 * k, 513 + 2 * k, 520 + k, 524 + k]

/-- The target of a cell in 1/128 of a level step (R17, R41, R44, R373). -/
def target128 (code : Nat) (w : List Byte) (sp : List (Option Nat)) (row col : Nat) : Int :=
  let data (j : Nat) : Int := 128 * (8 + weightK code * weightAt w row j)
  if 524 ≤ col then 1024
  else if 128 ≤ row then
    128 * (if row = 128 then 15 else if row = 129 then 0 else if row = 130 then (if col % 2 = 0 then 15 else 0) else ((col % 16 : Nat) : Int))
  else if col < 512 then data col
  else if col < 520 then (match sp.getD (col - 512) none with | some j => data j | none => 1024)
  else 1024 + weightK code * groupSum w row (col - 520)

/-- Programming of a plane begins on an array: all four groups, or the one spare column of a repair (R373, R437). -/
def State.progStart (s : State) (t : Site) (plane : Bool) (x : ArrRec) (only : Option Nat) : State :=
  let a : ArrIx := Fin.ofNat 64 x.arr
  let grp (k : Nat) : ProgGrp := ⟨if only.all (fun c => c / 2 == k) then 0 else 132, 0, false, []⟩
  let s := if only.isSome then s else s.put (plockF t a plane) 1
  s.onTile t fun y => y.onCtl a.val fun c =>
    { c with prog := some ⟨plane, x.code, x.gain, x.weights, only, (List.range 4).map grp, [], 0⟩ }

/-- Whether a spare entry of a data column's group is left: neither valid, nor failed, nor taken by a repair (R437). -/
def State.spareLeft (s : State) (t : Site) (a : ArrIx) (col : Nat) : Bool :=
  [2 * (col / 128), 2 * (col / 128) + 1].any fun k =>
    s.get (sprF t a k true) == 0 && !s.fe.badSpare.contains (t.val, a.val, k) && !s.fe.repairs.contains (t.val, a.val, k)

/-- The event that reports a stuck cell's column: COL_UNREP for a checksum or reference column and for a data column of a group with no spare left, COL_STUCK for any other (R40, R375, Table 14-2). -/
def State.stuckKind (s : State) (t : Site) (a : ArrIx) (col : Nat) : Nat :=
  if 520 ≤ col ∨ (col < 512 ∧ !s.spareLeft t a col) then 0x05 else 0x04

/-- One programming slot of group `k`: one pulse, or one verify after which the row's carry and stuck cells follow (R374, R375). -/
def State.progStep (s : State) (t : Site) (a : ArrIx) (k : Nat) (p : ProgRun) : State :=
  let g := p.grps.getD k ⟨132, 0, false, []⟩
  let sp := s.spareCols t a
  let cols := match p.only with | some c => [512 + c] | none => groupCols k
  let goal (col : Nat) : Int := target128 p.code p.weights sp g.row col + (if g.row < 128 then sget 0 g.carry col else 0)
  let aim (col : Nat) : Int := clampInt 0 1920 (goal col)
  let read (col : Nat) : Int := 8 * (s.cell t a p.plane g.row col : Int)
  let needs := cols.filter fun col => decide (8 * (s.get R.PROG_CFG_VTOL : Int) < |read col - aim col|)
  let keep (s : State) (g : ProgGrp) (stuck : List Nat) : State :=
    s.onTile t fun y => y.onCtl a.val fun c => { c with share := 0, st := .prog, slotEnd := s.now + 32, prog := some { p with grps := setAt p.grps k g, stuck := p.stuck ++ stuck, turn := (k + 1) % 4 } }
  let s := s.bump (R.PROG_SLOT_CNT t.val)
  if g.pulse then
    let s' := (List.range needs.length).foldl (fun s i =>
      let col := needs.getD i 0
      let step := Config.pulseStep s.free
      let c := s.cell t a p.plane g.row col
      (s.setCell t a p.plane g.row col (if read col < aim col then c + step else c - step)).draw) s
    keep (s'.bump R.PULSE_CNT needs.length) { g with pulse := false, pulses := g.pulses + 1 } []
  else if !needs.isEmpty && decide (g.pulses < s.get R.PROG_CFG_PMAX) then keep s { g with pulse := true } []
  else
    let lim : Int := 8 * s.get R.PROG_CFG_CFB_LIM
    let carry := if g.row < 128 then cols.foldl (fun m col => sset 0 m col (clampInt (-lim) lim (goal col - read col))) g.carry else g.carry
    let new := needs.filter fun col => !p.stuck.contains col
    let s := (s.bump R.STUCK_CELL_CNT needs.length).each new fun s col => s.fault (s.stuckKind t a col) t.val a.val (groupOf col) 0 p.plane 1 (aux := col)
    keep s ⟨g.row + 1, 0, false, carry⟩ new

/-- The group that takes the next slot: of those with rows left, the first in turn (R374). -/
def ProgRun.nextGrp (p : ProgRun) : Option Nat :=
  ((List.range 4).map fun i => (p.turn + i) % 4).find? fun k => decide ((p.grps.getD k ⟨132, 0, false, []⟩).row < 132)

/-- A programming slot of 32 cycles is granted when the array has no operation queued, or once PROG_SHARE operations have run while it was pending (R20); the groups take theirs in turn (R374). -/
def execProgSlot (t : Site) (a : ArrIx) (k : Fin 4) (s : State) : Res State :=
  .next (
    let x := s.tile t
    let c := x.ctl a.val
    match c.prog with
    | some p =>
      if c.st == .idle && c.op.isNone && !x.fenced && !x.clkOff && s.progTurn t a p.plane &&
          (!x.queuedFor a || decide (s.get (R.ASEQ_CTL_PROG_SHARE t.val) ≤ c.share)) &&
          p.nextGrp == some k.val then
        s.progStep t a k.val p
      else s
    | none => s)

/-! ### Jobs and batches (R373, R384 to R387) -/

/-- The site, physical plane and array of an entry of a job. -/
def progSite (e : Nat × ArrRec) : Site := Fin.ofNat 288 (e.1 / 2)
/-- The plane. -/
def progPlane (e : Nat × ArrRec) : Bool := e.1 % 2 == 1
/-- The array. -/
def progArr (e : Nat × ArrRec) : ArrIx := Fin.ofNat 64 e.2.arr

/-- Precedence of a job (R386). -/
def JobFor.rank : JobFor → Nat
  | .spare => 0 | .column _ => 1 | .refresh => 2 | .load => 3

/-- The arrays of a job's next batch: of one sector, at most BATCH; one array for a column repair (R373, R437). -/
def State.nextBatch (s : State) (j : Job) : List (Nat × ArrRec) :=
  match j.todo, j.what with
  | e :: _, .column _ => [e]
  | e :: r, _ => ((e :: r).takeWhile fun x => x.1 / 18 == e.1 / 18).take (s.get R.PROG_CFG_BATCH)
  | [], _ => []

/-- Every ARRAY chunk of a sector has been taken in by the load. -/
def Load.arraysIn (l : Load) (sector : Nat) : Bool :=
  (List.range l.man.chunks.length).all fun i =>
    let c := l.man.chunks.getD i ⟨[], 0, 0, 0⟩
    !(c.cls == clARRAY && c.sector == sector) || l.got.contains i

/-- Whether a job's next batch may be formed now (R373, R386). -/
def State.batchReady (s : State) (j : Job) : Bool :=
  let b := s.nextBatch j
  j.batch.isEmpty && !b.isEmpty && (b.all fun e => ((s.tile (progSite e)).ctl (progArr e).val).prog.isNone) && (j.what == .spare || !s.ws.jobs.any fun i => i.what == .spare) &&
    (j.what != .load || (!(s.ws.jobs.any fun i => i.what == .refresh) &&
      (decide (s.get R.PROG_CFG_BATCH ≤ b.length) || (match s.ws.load with | some l => l.arraysIn ((b.headD (0, ⟨0, 0, 0, 0, []⟩)).1 / 18) | none => true))))

/-- The job whose batch is formed next, by its index. -/
def State.nextJob (s : State) : Option Nat :=
  ([0, 1, 2, 3].filterMap fun r => findIx (fun j => j.what.rank == r && s.batchReady j) s.ws.jobs).head?

/-- A batch that may be formed waits for its hold-up check (R377). -/
def State.wantBatch (s : State) : State := if s.nextJob.isSome then s.hold .batch else s

/-- The entries of a slot for one tile's arrays, on the given site. -/
def State.jobEntries (s : State) (slot : Nat) (l : List ArrRec) : List (Nat × ArrRec) :=
  l.map fun x =>
    let t := s.siteOf x.tile
    (2 * t.val + (s.physPlane t (Fin.ofNat 64 x.arr) (slot == 1)).toNat, x)

/-- The next batch starts (R373). -/
def State.startBatch (s : State) : State :=
  match s.nextJob with
  | none => s
  | some i =>
    match s.ws.jobs[i]? with
    | none => s
    | some j =>
      let due := s.nextBatch j
      let b := if j.what = .load then s.jobEntries j.slot (due.map fun e => e.2) else due
      let s := { s with ws := { s.ws with jobs := setAt s.ws.jobs i { j with batch := b, todo := j.todo.drop b.length, since := some s.now } } }
      let s := s.each b fun s e => s.progStart (progSite e) (progPlane e) e.2 (match j.what with | .column c => some c | _ => none)
      s.wantBatch

/-- Programming in progress on the arrays of a job abandoned. -/
def State.dropJob (s : State) (j : Job) : State :=
  let s := s.each j.batch fun s e => s.onTile (progSite e) fun y => y.onCtl (progArr e).val fun c => { c with prog := none }
  let s := { s with ws := { s.ws with jobs := s.ws.jobs.filter fun i => i != j } }
  if s.nextJob.isSome then s else { s with hu := s.hu.filter fun e => e.1 != .batch }

/-- One full programming counts in a plane's wear counter (R387). -/
def State.wear (s : State) (t : Site) (a : ArrIx) (p : Bool) : State :=
  let f := if p then R.WEAR_P1 (64 * t.val + a.val) else R.WEAR_P0 (64 * t.val + a.val)
  let s := s.bump f
  if s.get R.WEAR_CFG_WEAR_WARN ≤ s.get f then s.set1 R.WS_EVT_WEAR_WARN else s

/-- A plane has reached WEAR_LIM (R387). -/
def State.worn (s : State) (t : Site) (a : ArrIx) (p : Bool) : Bool :=
  decide (s.get R.WEAR_CFG_WEAR_LIM ≤ s.get (if p then R.WEAR_P1 (64 * t.val + a.val) else R.WEAR_P0 (64 * t.val + a.val)))

/-- An array of a batch is programmed: its rows are done and the fault engine has taken its stuck columns. -/
def State.progOver (s : State) (e : Nat × ArrRec) : Bool :=
  match ((s.tile (progSite e)).ctl (progArr e).val).prog with
  | some p => p.over && p.stuck.isEmpty
  | none => false

/-- Drift estimates and test count of a plane set to zero when it is programmed (R438). -/
def State.driftZero (s : State) (t : Site) (a : ArrIx) (p : Bool) : State :=
  let k := (t.val * 64 + a.val) * 2 + p.toNat
  { s with fe := { s.fe with drift := s.fe.drift.filter fun e => e.1 / 512 != k, tests := sset 0 s.fe.tests k 0 } }

/-- The planes of a batch recorded: code, gain, wear, and for a load the known sums (R373, R376, R387). -/
def State.batchDone (s : State) (j : Job) : State :=
  let col := match j.what with | .column _ => true | _ => false
  let s := s.each j.batch fun s e =>
    let t := progSite e
    let a := progArr e
    let s := s.onTile t fun y => y.onCtl a.val fun c => { c with prog := none }
    if col then s
    else
      let s := (((s.setPlane t a (progPlane e) e.2.code e.2.gain).wear t a (progPlane e)).bump R.PROG_PLANE_CNT).driftZero t a (progPlane e)
      let s := { s with ws := { s.ws with born := sset 0 s.ws.born (2 * e.2.tile + (if j.what = .spare then (progPlane e).toNat else j.slot)) s.now } }
      if j.what = .load then s.captureExp j.slot e.2 else s
  let s := if col then s else s.hold .table
  let s := { s with ws := { s.ws with progAt := s.now, jobs := s.ws.jobs.map fun i => if i = j then { i with batch := [] } else i } }
  s.wantBatch

end Sys2Proof.Machine
end

