-- ==== Sys2Proof/Machine/Placement.lean ====
section
/-! DEFINITION. Records of DESC, PLACE and BULK chunks and their targets (R363, R364, R447). -/

namespace Sys2Proof.Machine

open Sys2Proof

/-- A record (Table 12-14): KIND, TGT, SUB, its reserved byte, A, B, body. -/
structure Rec where
  kind : Nat
  tgt : Nat
  sub : Nat
  rsv : Nat
  a : Nat
  b : Nat
  body : List Byte

/-- The whole records at the front of some bytes, and the bytes of one that goes on in the next chunk (R364). -/
def splitRecs : Nat → List Byte → List Rec × List Byte
  | 0, bs => ([], bs)
  | fuel + 1, bs =>
    let len := numAt bs 12 4
    let whole := 16 + (len + 15) / 16 * 16
    if bs.length < 16 ∨ bs.length < whole then ([], bs)
    else
      let z := splitRecs fuel (bs.drop whole)
      (⟨numAt bs 0 1, numAt bs 1 1, numAt bs 2 1, numAt bs 3 1, numAt bs 4 4, numAt bs 8 4, (bs.drop 16).take len⟩ :: z.1, z.2)

/-- The logical tiles that a record of tile `l` is loaded into: in DUAL the even tile and its odd copy (R447). -/
def State.copies (s : State) (l : Nat) : List Nat := if s.dual then [l, l + 1] else [l]

/-- A record's logical tile lies in its range: in DUAL the placement uses even tiles (R447). -/
def State.tileOk (s : State) (l : Nat) : Bool := decide (l < 256) && (!s.dual || l % 2 == 0)

/-- A lattice WRITE of the weight store into a tile's scratchpad: its bank is DMA's and the tile not fenced, or it is dropped (R96, R363). -/
def State.recWrite (s : State) (l a : Nat) (bs : List Byte) : Option State :=
  let t := s.siteOf l
  if (s.tile t).fenced ∨ 2 ^ 21 < a + bs.length then none
  else
    let r := s.spStore t 3 0 a bs
    if r.2 then some r.1 else none

/-- The banks asleep that a record's words in the scratchpad of tile `l` reach while DMA owns them (R103). -/
def State.recSleeps (s : State) (l a n : Nat) : List (Site × Nat) :=
  let t := s.siteOf l
  let banks := ((List.range 8).filter fun b => (spWords a n).any fun w => bankOf w.1 == b)
  if (s.tile t).fenced then []
  else (banks.filter fun b => s.owner t b == 3 && (((s.tile t).bank b).pst == .ret || ((s.tile t).bank b).pst == .waking)).map fun b => (t, b)

/-- A change made in each of a list of places, unless one of them fails. -/
def State.eachOpt {α : Type} (s : State) (l : List α) (f : State → α → Option State) : Option State :=
  l.foldl (fun (r : Option State) (x : α) => r.bind fun s => f s x) (some s)

/-- A field list of a word, put from a value. -/
def State.putWord (s : State) (l : List FRef) (v : Nat) : State := s.each l fun s f => s.put f (bits v f.lsb f.w)

/-- The lowest free object of sector `n` (R364). -/
def State.freeObj (s : State) (n : Nat) : Option Nat :=
  ((List.range 1024).map (1024 * n + ·)).find? fun i => (s.obj i).mode == 0

/-- An object allocated in a sector by Enara firmware, with mode and count (R224, R364). -/
def State.allocObj (s : State) (n mode count : Nat) : Option (State × Nat) :=
  (s.freeObj n).map fun i => (s.objCmd 2 (i + mode * 2 ^ 16 + count % 2 ^ 32 * 2 ^ 32), i)

/-- The handle of object `i` (Table 8-3). -/
def State.handleOf (s : State) (i : Nat) : Nat := i + (s.obj i).gen * 2 ^ 15

/-- Placement object `num`. -/
def State.pobj (s : State) (num : Nat) : Option PObj := s.ws.objs.find? fun o => o.num == num

/-- A handle written into a PATCH site: bits [62:40] of an instruction, or bits [22:0] of a word (R364). -/
def State.patchOne (s : State) (l a sub h : Nat) : State :=
  let t := s.siteOf l
  let v := leNat (s.spBytes t a 8)
  let k := if sub = 0 then 40 else 0
  s.spPut t a (leBytes 8 (v - bits v k 23 * 2 ^ k + h % 2 ^ 23 * 2 ^ k))

/-- Every PATCH site receives its object's handle, in DUAL the odd copy's its counterpart (R364, R447); none when a number names no object. -/
def State.patchAll (s : State) : Option State :=
  s.eachOpt s.ws.patches fun s p =>
    match s.pobj p.2.2.2 with
    | none => none
    | some o =>
      let s := s.patchOne p.1 p.2.1 p.2.2.1 (s.handleOf o.ix)
      some (match o.odd with | some j => s.patchOne (p.1 + 1) p.2.1 p.2.2.1 (s.handleOf j) | none => s)

/-- Bank owners of a tile requested as a write of SPOWN (R99, R364). -/
def State.ownAll (s : State) (l v : Nat) : State := s.each (List.range 8) fun s b => s.ownRequest (s.siteOf l) b 0 (bits v (4 * b) 3)

/-- The bank ownership at kernel entry (R364, R442). -/
def State.entryOwners (s : State) (l : Nat) : State :=
  let v := sget 0 s.ws.entry l
  if v = 0 then s else s.ownAll l (v - 1)

/-- The slots of a frame code (Table 7-6). -/
def frameLen (code : Nat) : Nat := if code = 0 then 64 else if code = 1 then 128 else 256

/-- A DESC record (R363). -/
def State.applyDesc (s : State) (slot sector : Nat) (r : Rec) : Option State :=
  if r.kind ≠ 2 ∨ r.rsv ≠ 0 ∨ r.sub ≠ 0 ∨ !s.tileOk r.tgt ∨ r.tgt / 8 ≠ sector ∨ r.a % 64 ≠ 0 ∨ r.b % 64 ≠ 0 ∨
      2 ^ 21 < r.a + r.body.length ∨ 2 ^ 21 < r.b + r.body.length then none
  else s.eachOpt (s.copies r.tgt) fun s l => s.recWrite l (if slot = 0 then r.a else r.b) r.body

/-- A KERNEL record: its image, and VC_PC at kernel entry. -/
def State.applyKernel (s : State) (r : Rec) : Option State :=
  if r.sub ≠ 0 ∨ !s.tileOk r.tgt ∨ r.a % 64 ≠ 0 ∨ r.b % 8 ≠ 0 ∨ 2 ^ 21 ≤ r.b then none
  else s.eachOpt (s.copies r.tgt) fun s l => (s.recWrite l r.a r.body).map fun s => s.put (R.VC_PC_PC (s.siteOf l).val) (r.b / 8)

/-- An SPOWN record: taken note of, and applied when the last chunk is in; TU_EN at once. -/
def State.applySpown (s : State) (r : Rec) : Option State :=
  if r.sub ≠ 0 ∨ !s.tileOk r.tgt ∨ !r.body.isEmpty ∨ 2 ≤ r.b ∨ (List.range 8).any (fun b => decide (6 ≤ bits r.a (4 * b) 4)) then none
  else
    some (s.each (s.copies r.tgt) fun s l =>
      { s with ws := { s.ws with entry := sset 0 s.ws.entry l (r.a + 1) } }.put (R.TILE_CTL_TU_EN (s.siteOf l).val) r.b)

/-- An EBAFWD record; the odd copy's homes are replaced by their number xor 1 (R447). -/
def State.applyEbafwd (s : State) (r : Rec) : Option State :=
  let vs := (List.range 32).map fun k => numAt r.body (4 * k) 4
  if r.sub ≠ 0 ∨ r.a ≠ 0 ∨ r.b ≠ 0 ∨ !s.tileOk r.tgt ∨ r.body.length ≠ 128 ∨
      vs.any (fun v => decide (2 ^ 17 ≤ v) || bits v 13 3 != 0) then none
  else
    some (s.each (s.copies r.tgt) fun s l => s.each (List.range 32) fun s k =>
      let v := vs.getD k 0
      let t := (s.siteOf l).val
      s.putWord [R.EBAFWD_HOME t k, R.EBAFWD_HOB t k, R.EBAFWD t k] (if l = r.tgt then v else Nat.xor v 1))

/-- An MCAST record. -/
def State.applyMcast (s : State) (r : Rec) : Option State :=
  if r.sub ≠ 0 ∨ r.a ≠ 0 ∨ r.b ≠ 0 ∨ 64 ≤ r.tgt ∨ r.body.length ≠ 32 then none
  else some (s.each (List.range 8) fun s j => s.put (R.LAT_MCAST_MASK r.tgt j) (numAt r.body (4 * j) 4))

/-- An LSLOT record. -/
def State.applyLslot (s : State) (r : Rec) : Option State :=
  if r.tgt ≠ 0 ∨ 3 ≤ r.sub ∨ r.a ≠ 0 ∨ 288 ≤ r.b ∨ r.body.length ≠ 4 * frameLen r.sub ∨
      (List.range (frameLen r.sub)).any (fun k => decide (2 ^ 28 ≤ numAt r.body (4 * k) 4)) then none
  else
    some (s.each (List.range (frameLen r.sub)) fun s k =>
      s.putWord [R.LSLOT_OUT_0 r.b k, R.LSLOT_OUT_1 r.b k, R.LSLOT_OUT_2 r.b k, R.LSLOT_OUT_3 r.b k, R.LSLOT_OUT_4 r.b k, R.LSLOT_OUT_5 r.b k,
          R.LSLOT_OUT_6 r.b k]
        (numAt r.body (4 * k) 4))

/-- An OBJ record: an object allocated, in DUAL a second one for the odd copy. -/
def State.applyObj (s : State) (r : Rec) : Option State :=
  if 32 ≤ r.tgt ∨ r.sub = 0 ∨ 4 ≤ r.sub ∨ 4096 ≤ r.a ∨ !r.body.isEmpty ∨ (s.pobj r.a).isSome then none
  else
    match s.allocObj r.tgt r.sub r.b with
    | none => none
    | some (s, i) =>
      let add (s : State) (odd : Option Nat) : State := { s with ws := { s.ws with objs := s.ws.objs ++ [⟨r.a, i, odd, r.sub, r.b⟩] } }
      if s.dual then (s.allocObj r.tgt r.sub r.b).map fun z => add z.1 (some z.2) else some (add s none)

/-- A PATCH record. -/
def State.applyPatch (s : State) (r : Rec) : Option State :=
  if 2 ≤ r.sub ∨ !s.tileOk r.tgt ∨ r.a % 8 ≠ 0 ∨ 2 ^ 21 ≤ r.a ∨ 4096 ≤ r.b ∨ !r.body.isEmpty then none
  else some { s with ws := { s.ws with patches := s.ws.patches ++ [(r.tgt, r.a, r.sub, r.b)] } }

/-- A MODEL record: SHAPE and LIMITS on the ingress device, and the end tokens. -/
def State.applyModel (s : State) (r : Rec) : Option State :=
  let n := numAt r.body 16 4
  let sh := numAt r.body 0 8
  let li := numAt r.body 8 8
  let rows := bits sh 0 7
  if r.tgt ≠ 0 ∨ r.sub ≠ 0 ∨ r.a ≠ 0 ∨ r.b ≠ 0 ∨ 8 < n ∨ r.body.length ≠ 20 + 4 * n ∨ bits sh 7 1 ≠ 0 ∨ bits sh 15 1 ≠ 0 ∨
      bits sh 23 9 ≠ 0 ∨ bits sh 51 13 ≠ 0 ∨ bits li 20 12 ≠ 0 ∨ rows = 0 ∨ 64 < rows ∨ bits sh 8 7 = 0 ∨ 64 < bits sh 8 7 ∨
      bits sh 16 7 = 0 ∨ rows < bits sh 16 7 ∨ 262144 < bits sh 32 19 then none
  else
    let s := { s with serve := { s.serve with eos := (List.range n).map fun k => numAt r.body (20 + 4 * k) 4 } }
    some (if s.isIngress then
        (s.putWord [R.SHAPE_ROWS, R.SHAPE_MBATCH, R.SHAPE_PF_ROWS, R.SHAPE_VOCAB] sh).putWord [R.LIMITS_MAXPOS, R.LIMITS_SPACING, R.LIMITS_PFX_GRAN] li
      else s)

/-- A LAYER record. -/
def State.applyLayer (s : State) (r : Rec) : Option State :=
  let v := numAt r.body 0 4
  let dz := r.b * (if r.sub = 3 ∨ r.sub = 4 then 1 else 2)
  if r.tgt ≠ 0 ∨ r.body.length ≠ 4 ∨ 2 ≤ v ∨ !(r.sub == 15 || (1 ≤ r.sub && r.sub ≤ 4)) ∨
      (r.sub ≠ 15 ∧ (dz < 16 ∨ 8192 < dz ∨ dz % 16 ≠ 0)) then none
  else some { s with serve := { s.serve with layers := s.serve.layers ++ [⟨r.a, r.sub, r.b, v == 1⟩] } }

/-- A KVHEAD record. -/
def State.applyKvhead (s : State) (r : Rec) : Option State :=
  if 32 ≤ r.tgt ∨ r.sub ≠ 0 ∨ !r.body.isEmpty then none
  else some { s with serve := { s.serve with kvHeads := s.serve.kvHeads ++ [(r.tgt, r.a, r.b)] } }

/-- An ADIR record. -/
def State.applyAdir (s : State) (r : Rec) : Option State :=
  if 256 ≤ r.tgt ∨ r.body.length ≠ 4 ∨ 2 ^ 20 * s.get (R.MREG_SIZE_MIB (r.tgt / 8) 3) ≤ r.b ∨
      16 ≤ numAt r.body 0 1 ∨ 128 ≤ numAt r.body 1 1 then none
  else some { s with serve := { s.serve with adir := s.serve.adir ++
    [⟨r.tgt, r.sub, r.a, r.b, numAt r.body 0 1, numAt r.body 1 1, BitVec.ofNat 16 (numAt r.body 2 2)⟩] } }

/-- A REGION record. -/
def State.applyRegion (s : State) (r : Rec) : Option State :=
  if r.kind ≠ 0x20 ∨ r.rsv ≠ 0 ∨ 32 ≤ r.tgt ∨ !(r.sub == 3 || r.sub == 5 || r.sub == 6) ∨ r.b ≠ 0 ∨
      2 ^ 20 * s.get (R.MREG_SIZE_MIB r.tgt r.sub) < r.a + r.body.length then none
  else some (s.stkPut (r.tgt * 2 ^ 33 + 2 ^ 20 * s.get (R.MREG_BASE_MIB r.tgt r.sub) + r.a) r.body)

/-- A PLACE record. -/
def State.applyPlace (s : State) (r : Rec) : Option State :=
  if r.rsv ≠ 0 then none
  else match r.kind with
    | 0x10 => s.applyKernel r
    | 0x11 => s.applySpown r
    | 0x12 => s.applyEbafwd r
    | 0x13 => s.applyMcast r
    | 0x14 => s.applyLslot r
    | 0x15 => s.applyObj r
    | 0x16 => s.applyPatch r
    | 0x17 => s.applyModel r
    | 0x18 => s.applyLayer r
    | 0x19 => s.applyKvhead r
    | 0x1A => s.applyAdir r
    | _ => none

/-- A record of a chunk of class `cls` and a sector, for a slot; none fails the load with PLACEMENT (R364). -/
def State.applyRec (s : State) (cls sector slot : Nat) (r : Rec) : Option State :=
  if cls = clDESC then s.applyDesc slot sector r else if cls = clPLACE then s.applyPlace r else s.applyRegion r

/-- The placement in force is given up for that of the PLACE chunks that arrive: its objects are freed (R364). -/
def State.placeClear (s : State) : State :=
  let s := s.each s.ws.objs fun s o =>
    let s := s.objCmd 2 o.ix
    match o.odd with | some j => s.objCmd 2 j | none => s
  { s with ws := { s.ws with objs := [], patches := [], entry := [] }
           serve := { s.serve with eos := [], layers := [], kvHeads := [], adir := [] } }

/-- PLACE records are applied while every vector core of the device is in HALT (R364). -/
def State.allHalt (s : State) : Bool := (List.finRange 288).all fun t => (s.tile t).vc == .halt

end Sys2Proof.Machine
end

