-- ==== Sys2Proof/Machine/WStore.lean ====
section
/-! DEFINITION. The weight store: loading and restoring a shard, keys, the version switch, refresh (R354 to R389). -/

namespace Sys2Proof.Machine

open Sys2Proof

/-! ### Reasons of Table 12-5 -/

/-- MANIFEST. -/
def wsMANIFEST : Nat := 9
/-- KEY. -/
def wsKEY : Nat := 0xA
/-- VERSION. -/
def wsVERSION : Nat := 0xB
/-- WEAR. -/
def wsWEAR : Nat := 0xC
/-- TAG. -/
def wsTAG : Nat := 0x10
/-- DEADLINE. -/
def wsDEADLINE : Nat := 0x11
/-- PEER. -/
def wsPEER : Nat := 0x12
/-- HOLDUP. -/
def wsHOLDUP : Nat := 0x13
/-- VERIFY. -/
def wsVERIFY : Nat := 0x14
/-- ABANDONED. -/
def wsABANDONED : Nat := 0x15
/-- PLACEMENT. -/
def wsPLACEMENT : Nat := 0x16

/-- Devices of the slice. -/
def State.sliceN (s : State) : Nat := match s.bind with | some b => sliceSize b | none => 0

/-- A message of Enara firmware to every other device of the slice. -/
def State.tellPeers (s : State) (what : String) (vals : List Nat) : State :=
  s.each ((List.range s.sliceN).drop 1) fun s k => s.emit (.toDevice k what vals)

/-- The load in progress replaced. -/
def State.setLoad (s : State) (l : Option Load) : State := { s with ws := { s.ws with load := l } }

/-! ### Failure of a load (R371, R372) -/

/-- A SHARD_LOAD whose DEADLINE_MS was out of range, 0 standing for its default: its completion carries CLAMPED (R293, Table 12-4). -/
def loadClamped (c : Cmd) : Bool := cf c 176 16 != 0 && (decide (cf c 176 16 < 100) || decide (60000 < cf c 176 16))

/-- A VERSION_SWITCH whose LEAD_US was out of range (R293, R378). -/
def Switch.clamped (w : Switch) : Bool := cf w.cmd 96 32 != 0 && cf w.cmd 96 32 != w.leadUs

/-- A load ends without success on this device: fetching and programming stop, its slot becomes FREE; a RESTORE leaves its slot's state (R371, R372). -/
def State.loadDrop (s : State) (l : Load) : State :=
  let s := s.setLoad none
  if l.restore then s
  else
    let s := s.each (s.ws.jobs.filter fun j => j.what == .load) fun s j => s.dropJob j
    (s.bumpEvt R.LOAD_FAIL_CNT R.WS_EVT_LOAD_FAIL).slotFree l.slot

/-- The load in progress fails with a reason; the other devices learn of it through the ingress device. -/
def State.loadFail (s : State) (reason : Nat) : State :=
  match s.ws.load with
  | none => s
  | some l =>
    let s := s.loadDrop l
    let s := if l.restore then s else if s.isIngress then s.tellPeers "loadFail" [] else s.emit (.toIngress "failed" [reason])
    match l.cmd with
    | some c => s.complete c { Done.st stFAULT reason with clamped := loadClamped c }
    | none => s

/-! ### Acceptance (R360, R367, R368) -/

/-- A manifest whose chunk table holds PLACE or BULK chunks. -/
def manPlaces (m : List Byte) : Bool :=
  (List.range (numAt m 0x1C 4)).any fun i => decide (3 ≤ numAt m (0x40 + 16 * numAt m 2 2 + 32 * i + 16) 1)

/-- The reason that refuses a SHARD_LOAD under checks 3 to 7 of R368, if any. -/
def State.loadRefusal (s : State) (c : Cmd) (man : List Byte) (restore change : Bool) : Option (Nat × Nat) :=
  let m := s.parseMan man
  let target := 1 - s.activeSlot.getD 1
  let holds (k : Nat) : Bool := s.slotSt k != slFREE && s.slotSt k != slSTAGING && s.get (R.SLOT_VERSION k) == m.version
  if !s.manOk (cf c 128 32) man then some (stINVALID, wsMANIFEST)
  else if !(match sget none s.ws.keys (cf c 168 4) with | some k => k.fits m | none => false) then some (stINVALID, wsKEY)
  else if (if restore then !holds 0 && !holds 1 else (match s.activeSlot with | some k => s.get (R.SLOT_VERSION k) == m.version | none => false)) then
    some (stINVALID, wsVERSION)
  else if !restore && change && s.admittedAny then some (stBUSY, 1)
  else if !restore && (s.mappedArrays.any fun x => s.worn x.1 x.2 (s.physPlane x.1 x.2 (target == 1))) then some (stINVALID, wsWEAR)
  else none

/-- Chunk `i` comes from the peer's REF (R369). -/
def Load.fromPeer (l : Load) (i : Nat) : Bool :=
  let c := l.man.chunks.getD i ⟨[], 0, 0, 0⟩
  l.peer && (c.cls == clARRAY || c.cls == clDESC)

/-- The fetch of chunk `i` from the host, if that is its source (R367, R369). -/
def State.chunkFetch (s : State) (l : Load) (i : Nat) : State :=
  match l.cmd, l.man.chunks[i]? with
  | some c, some ch => if l.fromPeer i then s else s.emit (.fetch i c.port.val (cf c 160 4) (cf c 192 64 + i * 2 ^ 20) ch.len)
  | _, _ => s

/-- All the bytes of chunk `i` are here. -/
def Load.whole (l : Load) (i : Nat) : Bool :=
  match l.man.chunks[i]? with | some ch => decide (ch.len ≤ (sget [] l.bytes i).length) | none => false

/-- The next READ of chunk `i` from a peer's REF, unless one is on its way (R268, R369); with no way to the peer's pod it fails with its refetches (R370, R481 row P of Table 16-3). -/
def State.peerChunk (s : State) (i : Nat) : State :=
  match s.ws.load with
  | none => s
  | some l =>
    match l.cmd, l.man.chunks[i]? with
    | some c, some ch =>
      if !l.fromPeer i || l.whole i || l.reads.any (fun r => r.2 == i) then s
      else
        let off := (sget [] l.bytes i).length
        let tag := s.sliceTag
        let p : FabPkt :=
          { op := 1, vc := 0, sa := false, ackreq := false, cls := false, words := min 8 ((ch.len - off + 63) / 64), space := 1
            dvtx := BitVec.ofNat 12 (cf c 256 12), svtx := BitVec.ofNat 12 s.ownVtx, dpod := BitVec.ofNat 12 (cf c 268 12)
            spod := BitVec.ofNat 12 s.ownPod, dnode := 0, bseq := 0, addr := BitVec.ofNat 48 (refAddr l.man.chunks i (cf c 280 1) + off)
            owner := 0xFFFFFFFF, sigH := 0, sigN := 0, sliceId := tag.1, bgen := tag.2, tag := BitVec.ofNat 16 (2 ^ 15 + s.ws.nread % 2 ^ 11)
            firstOff := 0, lastLen := 0, reason := 0, data := [] }
        let s := { s with ws := { s.ws with load := some { l with reads := l.reads ++ [(s.ws.nread % 2 ^ 11, i)] }, nread := (s.ws.nread + 1) % 2 ^ 11 } }
        let r := s.fabRoute p
        if r.2 then r.1 else (s.bump R.REFETCH_CNT (3 - sget 0 l.tries i)).loadFail 8
    | _, _ => s

/-- Up to eight chunks in shard order are read from a peer at a time (R369). -/
def State.peerRead (s : State) : State :=
  match s.ws.load with
  | none => s
  | some l => s.each (List.range 8) fun s k => s.peerChunk (l.got.length + k)

/-- A SHARD_LOAD is accepted: under STAGE its slot is STAGING, after a placement change the ACTIVE slot FREE; then its chunks are fetched (R368, R369, R447). -/
def State.loadBegin (s : State) (c : Cmd) (man : List Byte) (restore change : Bool) (deadline : Nat) : State :=
  let m := s.parseMan man
  let holds (k : Nat) : Bool := s.slotSt k != slFREE && s.slotSt k != slSTAGING && s.get (R.SLOT_VERSION k) == m.version
  let slot := if restore then (if holds 0 then 0 else 1) else 1 - s.activeSlot.getD 1
  let s := if change ∧ !restore then
      let s := s.put R.FLT_STAT_REDUND (s.get R.FLT_CTL_REDUND)
      let s := s.each (s.ws.jobs.filter fun j => j.what == .refresh) fun s j => s.dropJob j
      let s := { s with ws := { s.ws with queue := [] } }.emptyPlanes slot
      (match s.activeSlot with | some k => s.slotFree k | none => s).serveJudge
    else s
  let l : Load :=
    { cmd := some c, man := m, slot := slot, restore := restore, peer := cf c 164 1 == 1, place := change, deadline := s.now + usTicks (1000 * deadline)
      got := [], tries := [], part := [], recs := [], reads := [], bytes := [], done := false, reports := [] }
  let s := s.setLoad (some l)
  let s := if restore then s
    else
      let s := ((s.put (R.SLOT_VERSION slot) m.version).put (R.SLOT_PLACE_ID slot) m.placeId).put (R.SLOT_STATE slot) slSTAGING
      { s with ws := { s.ws with jobs := s.ws.jobs ++ [(⟨.load, 0, slot, [], [], none⟩ : Job)] } }.hold .table
  (s.each (List.range (min 8 m.chunks.length)) fun s i => s.chunkFetch l i).peerRead

/-- SHARD_LOAD in either mode (R368, R372); none while a RESTORE is in progress. -/
def State.shardCmd (s : State) (c : Cmd) (man : List Byte) : Option State :=
  let restore := cf c 165 1 == 1
  let ready := s.get R.STATE_STATE == devREADY
  let busy := !restore && [0, 1].any fun k => s.slotSt k != slFREE && s.slotSt k != slACTIVE
  if ready && !busy && s.ws.load.isSome then none
  else
    let d := if cf c 176 16 = 0 then (s, 10000, false) else s.ringClamp c 176 16 100 60000
    let s := d.1
    let m := s.parseMan man
    let change := manPlaces man || (match s.activeSlot with | some k => s.get (R.SLOT_PLACE_ID k) != m.placeId | none => true)
    let fail (st rs : Nat) : Option State := some (s.complete c { Done.st st rs with clamped := d.2.2 })
    if !ready then fail stINVALID 4
    else if busy then fail stBUSY rsINUSE
    else
      match s.loadRefusal c man restore change with
      | some r => fail r.1 r.2
      | none => some (s.loadBegin c man restore change d.2.1)

/-- SHARD_LOAD. -/
def execShardLoad (c : Cmd) (man : List Byte) (s : State) : Res State := .next (s.ringCmdW 0x20 c fun s => s.shardCmd c man)

/-- SHARD_LOAD with MODE RESTORE. -/
def execRestore (c : Cmd) (man : List Byte) (s : State) : Res State := .next (s.ringCmdW 0x20 c fun s => s.shardCmd c man)

/-! ### The end of a load (R371, R372) -/

/-- The slot is STAGED, its SHARD_LOAD complete (R371). -/
def State.staged (s : State) (l : Load) : State :=
  let s := (s.setLoad none).put (R.SLOT_STATE l.slot) slSTAGED
  let s := s.each s.mappedArrays fun s x => s.put (plockF x.1 x.2 (s.physPlane x.1 x.2 (l.slot == 1))) 0
  let s := ((s.put (R.SLOT_REF_VALID l.slot) 1).put (R.SLOT_EXP_VALID l.slot) 1).bump R.LOAD_CNT
  let s := { s with ws := { s.ws with mans := sset none s.ws.mans l.slot (some l.man), scrubbed := s.ws.scrubbed && !l.place, jobs := s.ws.jobs.filter fun (j : Job) => j.what != JobFor.load } }
  let s := s.hold .table
  match l.cmd with
  | some c => s.complete c { Done.st stDONE 0 with result := l.man.version, clamped := loadClamped c }
  | none => s

/-- The ingress device judges the reports it has: a failure ends the load everywhere, all staged marks the slot STAGED everywhere (R371). -/
def State.stagedJudge (s : State) : State :=
  match s.ws.load with
  | none => s
  | some l =>
    if l.reports.any (fun r => r.2.isSome) then s.loadFail wsPEER
    else if (List.range s.sliceN).all fun k => l.reports.any fun r => r.1 == k then (s.staged l).tellPeers "staged" [l.slot]
    else s

/-- A RESTORE ends: the known sums of every record are captured, REF and EXP are valid (R372). -/
def State.restored (s : State) (l : Load) : State :=
  let s := s.each l.recs fun s x => s.captureExp l.slot x
  let s := ((s.setLoad none).put (R.SLOT_REF_VALID l.slot) 1).put (R.SLOT_EXP_VALID l.slot) 1
  let s := { s with ws := { s.ws with mans := sset none s.ws.mans l.slot (some l.man), scrubbed := false } }
  let s := match l.cmd with | some c => s.complete c { Done.st stDONE 0 with clamped := loadClamped c } | none => s
  s.serveJudge

/-- A load whose chunks are all in and whose batches are all programmed is staged on this device, and reported (R371). -/
def State.loadCheck (s : State) : State :=
  match s.ws.load with
  | none => s
  | some l =>
    if l.got.length < l.man.chunks.length ∨ l.done ∨ l.restore then s
    else if s.ws.jobs.any fun j => j.what == .load && !(j.todo.isEmpty && j.batch.isEmpty) then s
    else if s.ws.jobs.any fun j => (j.what matches .column _) && (j.todo ++ j.batch).any fun e =>
        progPlane e == s.physPlane (progSite e) (progArr e) (l.slot == 1) then s
    else
      let s := s.setLoad (some { l with done := true, reports := l.reports ++ [(0, none)] })
      if s.isIngress then s.stagedJudge else s.emit (.toIngress "staged" [])

/-! ### Chunks (R362, R363, R366, R369, R370) -/

/-- A chunk is bad: it is fetched again, or after three refetches fails the load (R370). -/
def State.chunkBad (s : State) (l : Load) (i code : Nat) : State :=
  if 3 ≤ sget 0 l.tries i then s.loadFail code
  else
    let l := { l with tries := supd 0 l.tries i (· + 1), bytes := sset [] l.bytes i [], reads := l.reads.filter fun r => r.2 != i }
    (((s.setLoad (some l)).bump R.REFETCH_CNT).chunkFetch l i).peerRead

/-- The array records that a chunk completes: kept, discarded or clamped, and under STAGE queued for programming (R362, R373). -/
def State.takeArrays (s : State) (l : Load) (sector : Nat) (bs : List Byte) : State × Load :=
  let z := splitArr (bs.length / 32832 + 1) (sget [] l.part (256 + sector) ++ bs)
  let k := keepArr s.dual sector l.recs z.1
  let new := k.1.drop l.recs.length
  let s := (s.bump R.DUP_REC_CNT k.2.1).bump R.W_CLAMP_CNT k.2.2
  let s := if l.restore then s
    else { s with ws := { s.ws with jobs := s.ws.jobs.map fun j => if j.what = .load then { j with todo := j.todo ++ s.jobEntries l.slot new } else j } }
  (s, { l with recs := k.1, part := sset [] l.part (256 + sector) z.2 })

/-- Records of another class applied in order; none fails the load with PLACEMENT (R363, R364). -/
def State.takeRecs (s : State) (l : Load) (c : Chunk) (bs : List Byte) : Option (State × Load) :=
  let key := 256 * c.cls + c.sector
  let all := sget [] l.part key ++ bs
  let z := splitRecs (all.length / 16 + 1) all
  (s.eachOpt z.1 fun s r => s.applyRec c.cls c.sector l.slot r).map fun s => (s, { l with part := sset [] l.part key z.2 })

/-- The whole records that the bytes of a chunk complete. -/
def Load.recsOf (l : Load) (c : Chunk) (bs : List Byte) : List Rec :=
  let all := sget [] l.part (256 * c.cls + c.sector) ++ bs
  (splitRecs (all.length / 16 + 1) all).1

/-- Whether a PLACE chunk must wait: a vector core runs, or an LSLOT record meets SCHEDULED mode (R364). -/
def State.placeWaits (s : State) (l : Load) (c : Chunk) (bs : List Byte) : Bool :=
  c.cls == clPLACE && (!s.allHalt || (s.get R.LAT_STAT_MODE == 1 && (l.recsOf c bs).any fun r => r.kind == 0x14))

/-- The sleeping banks that the DESC and KERNEL records of a chunk reach (R103, R363). -/
def State.chunkSleeps (s : State) (l : Load) (c : Chunk) (bs : List Byte) : List (Site × Nat) :=
  if c.cls = clARRAY then []
  else
    (l.recsOf c bs).flatMap fun r =>
      if r.kind = 2 ∨ r.kind = 0x10 then
        (s.copies r.tgt).flatMap fun k => s.recSleeps k (if r.kind = 2 ∧ l.slot ≠ 0 then r.b else r.a) r.body.length
      else []

/-- The last chunk is in: no record may be left open; PATCH sites and bank ownership follow (R364). -/
def State.lastChunk (s : State) (l : Load) : State :=
  let places := l.man.chunks.any fun c => c.cls == clPLACE
  if !l.part.isEmpty then s.loadFail wsPLACEMENT
  else
    match (if places then s.patchAll else some s) with
    | none => s.loadFail wsPLACEMENT
    | some s =>
      let s := if places then s.each (s.ws.entry.map fun e => e.1) fun s k => s.entryOwners k else s
      if l.restore then s.restored l else s.loadCheck

/-- Chunk `i`, the next in order, has come as ciphertext (R363, R366, R369); it is kept while it must wait, a sleeping bank that it reaches being woken (R103, R364). -/
def State.takeChunk (s0 : State) (l : Load) (i : Nat) (ct : List Byte) : State :=
  let c := l.man.chunks.getD i ⟨[], 0, 0, 0⟩
  let kept := c.cls == clARRAY || c.cls == clDESC
  let s := if kept then s0.stkPut (refAddr l.man.chunks i l.slot) ct else s0
  let key := match l.cmd with | some x => (sget none s.ws.keys (cf x 168 4)).map fun (k : MKey) => k.key | none => none
  match key.bind fun k => s.openChunk k l.man i c ct with
  | none => (s.bumpEvt R.TAG_FAIL_CNT R.WS_EVT_TAG_FAIL).chunkBad l i wsTAG
  | some bs =>
    let asleep := s.chunkSleeps l c bs
    if s.placeWaits l c bs || !asleep.isEmpty then
      (s0.setLoad (some { l with bytes := sset [] l.bytes i ct })).each asleep fun s b => s.spTouch b.1 b.2
    else
      let s := if c.cls = clPLACE ∧ !(l.man.chunks.take i).any (fun d => d.cls == clPLACE) then s.placeClear else s
      match (if c.cls = clARRAY then some (s.takeArrays l c.sector bs) else s.takeRecs l c bs) with
      | none => s.loadFail wsPLACEMENT
      | some r =>
        let l := { r.2 with got := r.2.got ++ [i], bytes := sset [] r.2.bytes i [], reads := r.2.reads.filter fun x => x.2 != i }
        let s := (r.1.setLoad (some l)).bump R.CHUNK_CNT
        if l.got.length = l.man.chunks.length then s.wantBatch.lastChunk l
        else (s.wantBatch.chunkFetch l (i + 8)).peerRead

/-- The chunk that is next in shard order, once all of it is here, is taken (R369). -/
def State.chunkTurn (s : State) : State :=
  match s.ws.load with
  | some l => if l.whole l.got.length then s.takeChunk l l.got.length (sget [] l.bytes l.got.length) else s
  | none => s

/-- A chunk fetched from the host arrives, or its fetch fails; of the eight in flight each is kept until its turn in shard order (R369, R370). -/
def execChunkArrival (i : Nat) (res : HostRd) (s : State) : Res State :=
  .next (
    match s.ws.load with
    | none => s
    | some l =>
      if i < l.got.length ∨ l.got.length + 8 ≤ i ∨ l.man.chunks.length ≤ i ∨ l.fromPeer i then s
      else
        match res with
        | .fail code => s.chunkBad l i code
        | .data bs =>
          if bs.length ≠ (l.man.chunks.getD i ⟨[], 0, 0, 0⟩).len then s
          else if i = l.got.length then s.takeChunk l i bs
          else s.setLoad (some { l with bytes := sset [] l.bytes i bs }))

/-- The request of this device's weight store that a packet answers, if it is outstanding (Table 9-4). -/
def State.readOf (s : State) (p : FabPkt) : Option (Load × Nat) :=
  match s.ws.load with
  | some l => if p.tag.getLsbD 15 then (l.reads.find? fun r => r.1 == bits p.tag.toNat 0 11).map fun r => (l, r.2) else none
  | none => none

/-- A read response from a peer's REF (R268, R369); one for another device is forwarded (R264). -/
def execFabricRdrsp (p : FabPkt) (s : State) : Res State :=
  .next (
    if !s.fabMine p then s.forward p id
    else
      match s.readOf p with
      | none => s
      | some (l, i) =>
        let len := (l.man.chunks.getD i ⟨[], 0, 0, 0⟩).len
        let bs := (sget [] l.bytes i ++ p.data).take len
        let l := { l with bytes := sset [] l.bytes i bs, reads := l.reads.filter fun r => r.2 != i }
        if i = l.got.length ∧ len ≤ bs.length then (s.setLoad (some l)).takeChunk l i bs else (s.setLoad (some l)).peerRead)

/-- A refused or uncorrectable peer read counts as a failed fetch (R268, R370). -/
def execFabricRderr (p : FabPkt) (s : State) : Res State :=
  .next (
    if !s.fabMine p then s.forward p id
    else
      match s.readOf p with
      | none => s
      | some (l, i) => s.chunkBad l i (if p.reason = 0 then wsTAG else 8))

/-! ### Batches (R373) -/

/-- The first batch of which every array is programmed is done. -/
def execProgrammingBatchComplete (s : State) : Res State :=
  .next (
    match s.ws.jobs.find? fun j => !j.batch.isEmpty && j.batch.all s.progOver with
    | some j => (s.batchDone j).loadCheck
    | none => s)

/-! ### Reports and the deadline (R371) -/

/-- A report of a device reaches the ingress device; on another device, orbit index 0 stands for what the ingress device has decided for the slice. -/
def execStagedReport (k : Nat) (reason : Option Nat) (s : State) : Res State :=
  .next (
    match s.ws.load with
    | none => s
    | some l =>
      if l.restore then s
      else if s.isIngress then
        if k = 0 ∨ s.sliceN ≤ k then s else (s.setLoad (some { l with reports := l.reports ++ [(k, reason)] })).stagedJudge
      else if k = 0 then
        match reason with
        | some _ => s.loadFail wsPEER
        | none => if l.done then s.staged l else s
      else s)

/-- The slice load deadline on the ingress device (R371). -/
def execLoadDeadline (s : State) : Res State :=
  .next (
    match s.ws.load with
    | some l =>
      if s.isIngress ∧ !l.restore ∧ l.deadline ≤ s.now then s.loadFail (if l.done then wsPEER else wsDEADLINE) else s
    | none => s)

/-! ### Keys (R365) -/

/-- KEY_IMPORT; it waits while the security core serves a message (R466), and fails while the debug port is UNLOCKED (R471). -/
def execKeyImport (c : Cmd) (blob : List Byte) (s : State) : Res State :=
  .next (if s.secu.serving.isSome ∨ !s.secu.wait.isEmpty then s else s.ringCmd 0x21 c fun s =>
    let id := (blob.drop 8).take 16
    let ver := (blob.drop 4).take 4
    let zero (o n : Nat) : Bool := ((blob.drop o).take n).all fun b => b == 0
    let key := if s.get R.SECU_STAT_DEBUG = 0 ∧ cf c 80 16 = 168 ∧ blob.length = 168 ∧ numAt blob 0 2 = 1 ∧ zero 2 2 ∧ zero 121 7 then
        keyUnwrap ((blob.drop 24).take 97) (id ++ ver) (blob.drop 128)
      else none
    match key with
    | none => s.complete c (.st stINVALID wsKEY)
    | some k =>
      { s with ws := { s.ws with keys := sset none s.ws.keys (cf c 64 4) (some ⟨k, id, leNat ver⟩) } }.complete c (.st stDONE 0))

/-! ### The version switch (R378 to R381) -/

/-- The STAGED slot, if any. -/
def State.stagedSlot (s : State) : Option Nat := [0, 1].find? fun k => s.slotSt k == slSTAGED

/-- Every device has acknowledged its switch record. -/
def State.allAcked (s : State) (w : Switch) : Bool := (List.range s.sliceN).all fun k => w.acks.contains k

/-- The step period (R324). -/
def State.stepPeriod (s : State) : Nat :=
  max (usTicks (s.get R.STEP_CFG_PERIOD_MIN))
    (((List.range (s.get R.SHAPE_MBATCH)).foldl (fun o m => max o ((s.mb m).took.getD 0)) 0) + s.get R.STEP_CFG_GUARD * 94)

/-- The mark for S is written once every device has acknowledged and the root has room for it (R276, R378). -/
def State.switchMark (s : State) : State :=
  match s.ws.switch with
  | some w =>
    if !w.marked && s.allAcked w && decide (s.tm.marks.length < 8) then
      let period := if s.admittedAny then s.tm.lastMark.2 + s.stepPeriod else 0
      let t := max (max period (s.tm.time + (w.fetched + usTicks w.leadUs - s.now))) (max (s.tm.time + usTicks (s.get R.TC_CTL_LEAD_MIN)) (s.tm.lastMark.2 + 1))
      { s with tm := { s.tm with marks := s.tm.marks ++ [(w.step, t)], lastMark := (w.step, t) }
               ws := { s.ws with switch := some { w with marked := true } } }
    else s
  | none => s

/-- The switch fails: every device discards its record, the slots stay (R378). -/
def State.switchFail (s : State) (reason : Nat) : State :=
  match s.ws.switch with
  | none => s
  | some w =>
    let s := { s with ws := { s.ws with switch := none, record := none }, hu := s.hu.filter fun (e : HuItem × Nat × Nat) => e.1 != HuItem.switchRec w.step w.slot }
    ((s.hold .confirm).tellPeers "switchDrop" []).complete w.cmd { Done.st stFAULT reason with clamped := w.clamped }

/-- A device has acknowledged its switch record (R378). -/
def State.switchAck (s : State) (k : Nat) : State :=
  match s.ws.switch with
  | none => s
  | some w => { s with ws := { s.ws with switch := some { w with acks := if w.acks.contains k then w.acks else w.acks ++ [k] } } }.switchMark

/-- A SWITCH of the STAGED slot is scheduled (R378). -/
def State.switchCmd (s : State) (c : Cmd) : State :=
  match s.stagedSlot with
  | none => s.complete c (.st stINVALID 4)
  | some k =>
    if s.ws.switch.isSome then s.complete c (.st stBUSY rsINUSE)
    else
      let l := if cf c 96 32 = 0 then (s, 1000, false) else s.ringClamp c 96 32 (s.get R.TC_CTL_LEAD_MIN) 1000000
      let s := l.1
      let n := max (s.get R.STEP_NOW_N) s.tm.lastMark.1 + 1
      let w : Switch :=
        { cmd := c, step := n, slot := k, rebuild := cf c 65 1 == 1, drainS := if cf c 80 16 = 0 then 120 else cf c 80 16
          fetched := s.now, leadUs := l.2.1, acks := [], marked := false }
      ({ s with ws := { s.ws with switch := some w } }.tellPeers "switch" [n, k]).hold (.switchRec n k)

/-- ABANDON (R381). -/
def State.abandonCmd (s : State) (c : Cmd) : State :=
  if s.ws.switch.any fun w => s.allAcked w then s.complete c (.st stBUSY rsINUSE)
  else if s.ws.load.any fun l => !l.restore then ((s.loadFail wsABANDONED).tellPeers "abandon" []).complete c (.st stDONE 0)
  else
    match s.stagedSlot with
    | none => s.complete c (.st stINVALID 4)
    | some k => (((s.switchFail wsABANDONED).slotFree k).tellPeers "abandon" []).complete c (.st stDONE 0)

/-- A VERSION_SWITCH, accepted on the ingress device alone (R378). -/
def State.ingressCmd (s : State) (c : Cmd) (k : State → State) : State :=
  s.ringCmd 0x22 c fun s => if s.isIngress then k s else s.complete c (.st stINVALID 3)

/-- VERSION_SWITCH. -/
def execVersionSwitch (c : Cmd) (s : State) : Res State :=
  .next (s.ingressCmd c fun s => if cf c 64 1 = 1 then s.abandonCmd c else s.switchCmd c)

/-- VERSION_SWITCH with ACTION ABANDON. -/
def execAbandon (c : Cmd) (s : State) : Res State := .next (s.ingressCmd c fun s => s.abandonCmd c)

/-- Another device acknowledges its switch record, or was refused under R377 (R378). -/
def execSwitchRecordAck (k : Nat) (refused : Option Nat) (s : State) : Res State :=
  .next (
    match s.ws.switch with
    | some w =>
      if !s.isIngress ∨ k = 0 ∨ s.sliceN ≤ k ∨ s.allAcked w then s
      else match refused with
        | some _ => s.switchFail wsHOLDUP
        | none => s.switchAck k
    | none => s)

/-- Not every device acknowledged within 10 ms (R378). -/
def execSwitchAckTimeout (s : State) : Res State :=
  .next (
    match s.ws.switch with
    | some w => if !s.allAcked w && decide (w.fetched + usTicks 10000 ≤ s.now) then s.switchFail wsPEER else s
    | none => s)

/-- The step counter has reached S: the slots change, the record is confirmed, the command completes (R379 to R381). -/
def State.switchNow (s : State) : State :=
  match s.ws.switch with
  | none => s
  | some w =>
    if !w.marked ∨ s.get R.STEP_NOW_N < w.step then s
    else
      let old := s.activeSlot
      let s := { s with ws := { s.ws with switch := none, record := none } }.put (R.SLOT_STATE w.slot) slACTIVE
      let s := match old with
        | some k =>
          if s.liveReqs.any fun e => e.2.slot == k then
            let s := s.put (R.SLOT_STATE k) slDRAINING
            if w.rebuild then s.rebuildSlot k
            else if w.drainS = 0xFFFF then s
            else { s with ws := { s.ws with drainAt := some (s.now + usTicks (w.drainS * 1000000)) } }
          else s.slotFree k
        | none => s
      let s := ((s.hold .confirm).hold .table).bumpEvt R.SWITCH_CNT R.WS_EVT_SWITCH
      (s.complete w.cmd { Done.st stDONE 0 with result := w.step, clamped := w.clamped }).serveJudge

/-- The DRAINING slot, if any. -/
def State.drainingSlot (s : State) : Option Nat := [0, 1].find? fun k => s.slotSt k == slDRAINING

/-- DRAIN_END (R380). -/
def execDrainEnd (c : Cmd) (s : State) : Res State :=
  .next (s.ringCmd 0x23 c fun s =>
    match s.drainingSlot with
    | none => s.complete c (.st stINVALID 4)
    | some k =>
      let n := (s.liveReqs.filter fun e => e.2.slot == k).length
      let s := { s with ws := { s.ws with drainAt := none } }.rebuildSlot k
      s.complete c { Done.st stDONE 0 with result := n })

/-- DRAIN_S seconds after S the requests that remain are rebuilt (R380). -/
def execDrainTimeout (s : State) : Res State :=
  .next (
    match s.ws.drainAt, s.drainingSlot with
    | some t, some k => if t ≤ s.now then { s with ws := { s.ws with drainAt := none } }.rebuildSlot k else s
    | _, _ => s)

/-! ### Refresh (R383, R384, R387) -/

/-- A refresh of tile `l` is queued or in progress. -/
def State.refreshing (s : State) (l : Nat) : Bool :=
  s.ws.queue.any (fun e => e.1 == l) || s.ws.jobs.any fun j => j.what == .refresh && j.tile == l

/-- A tile is queued for refresh of its ACTIVE slot (R383). -/
def State.queueRefresh (s : State) (l : Nat) : State :=
  if s.get R.REFRESH_CFG_EN = 0 ∨ s.activeSlot.isNone ∨ s.refreshing l then s
  else { s with ws := { s.ws with queue := s.ws.queue ++ [(l, false)] } }

/-- AGE_DAYS after its planes were programmed a tile is queued (R383). -/
def execRefreshAge (l : Fin 256) (s : State) : Res State :=
  .next (
    match s.activeSlot with
    | some a =>
      if sget 0 s.ws.born (2 * l.val + a) + s.get R.REFRESH_CFG_AGE_DAYS * usTicks 86400000000 ≤ s.now then s.queueRefresh l.val else s
    | none => s)

/-- Write of WSTORE.REFRESH_REQ: GO queues the tile named (R383, R388). -/
def execRefreshReq (src : Partner) (v : BitVec 32) (s : State) : Res State :=
  .next (s.barWrite src 0x800078 4 v.toNat fun _ w s => if bits w 31 1 = 1 then s.queueRefresh (bits w 0 8) else s)

/-- The conditions under which a queued tile is refreshed, but for the number at a time (R384). -/
def State.refreshMay (s : State) (a : Nat) : Bool :=
  s.slotSt (1 - a) == slFREE && s.get (R.SLOT_REF_VALID a) == 1 && s.ws.load.isNone && !(s.ws.jobs.any fun j => j.what == .spare) &&
    (match sget none s.ws.mans a with | some m => (s.keyFor m).isSome | none => false)

/-- Fewer than MAXT + 1 tiles are being refreshed; an urgent refresh, for a repair, is not limited (R384, Table 14-3). -/
def State.refreshRoom (s : State) (l : Nat) : Bool :=
  decide ((s.ws.jobs.filter fun j => j.what == .refresh).length < s.get R.REFRESH_CFG_MAXT + 1) ||
    s.fe.repairs.any fun e => e.1 == (s.siteOf l).val

/-- The refresh of tile `l` starts, taken from the queue, or wear blocks it (R384, R387). -/
def State.refreshGo (s : State) (a l : Nat) : State :=
  let s := { s with ws := { s.ws with queue := s.ws.queue.filter fun e => e.1 != l } }
  let t := s.siteOf l
  if (List.finRange 64).any fun x => s.worn t x (s.physPlane t x (a == 0)) then s.bumpEvt R.WEAR_BLOCK_CNT R.WS_EVT_WEAR_BLOCK
  else
    match s.refRead a (l / 8) with
    | (s, none) => { s.refLost a with ws := { (s.refLost a).ws with queue := (l, false) :: s.ws.queue } }
    | (s, some rs) =>
      let todo := s.jobEntries (1 - a) (rs.filter fun x => x.tile == l)
      { s with ws := { s.ws with jobs := s.ws.jobs ++ [(⟨.refresh, l, a, todo, [], none⟩ : Job)] } }.wantBatch

/-- The first tile of the queue starts its refresh, or its deferral is counted once (R384). -/
def State.refreshStart (s : State) : State :=
  match s.activeSlot, s.ws.queue with
  | some a, (l, _) :: _ =>
    if s.refreshMay a && s.refreshRoom l then s.refreshGo a l
    else
      let n := (s.ws.queue.filter fun e => !e.2).length
      { s with ws := { s.ws with queue := s.ws.queue.map fun (e : Nat × Bool) => (e.1, true) } }.bump R.REFRESH_WAIT_CNT n
  | _, _ => s

/-- A queued tile's refresh starts. -/
def execRefreshStart (s : State) : Res State := .next s.refreshStart

/-- A column repair is complete, its entry valid: counted, and its site no longer BUSY once no repair of it is pending (R429, R431, R437). -/
def State.repairDone (s : State) (t a k : Nat) : State :=
  let s := (s.put (sprF (Fin.ofNat 288 t) (Fin.ofNat 64 a) k true) 1).bumpEvt R.COL_REPAIR_CNT R.FLT_EVT_COL_REPAIR
  let reps := s.fe.repairs.filter fun e => e != (t, a, k)
  { s with fe := { s.fe with
    repairs := reps
    hist := supd Hist.init s.fe.hist t fun h => { h with colRepair := h.colRepair + 1 }
    busy := if reps.any fun e => e.1 == t then s.fe.busy else s.fe.busy.filter fun b => !(b.1 == t && b.2.1 == 2) } }.hold (.hist t)

/-- The entries of a site that were programmed with its refresh become valid, in the write that records the flip (R437). -/
def State.validateRepairs (s : State) (t : Site) : State :=
  s.each (s.fe.repairs.filter fun e => e.1 == t.val) fun s e => s.repairDone e.1 e.2.1 e.2.2

/-- Every plane of a refresh is done: PSWAP flips, the old plane is EMPTY (R384). -/
def execRefreshComplete (l : Fin 256) (s : State) : Res State :=
  .next (
    let column (j : Job) : Bool := (j.what matches .column _) && j.tile == l.val
    match s.ws.jobs.find? fun j => j.what == .refresh && j.tile == l.val && j.todo.isEmpty && j.batch.isEmpty with
    | none => s
    | some j =>
      if s.ws.jobs.any fun j => column j && !(j.todo.isEmpty && j.batch.isEmpty) then s else
      let t := s.siteOf l.val
      let s := s.each (List.finRange 64) fun s a =>
        let old := s.physPlane t a (j.slot == 1)
        ((s.setPlane t a old 3 (s.pgain t a old)).put (plockF t a old) 0).put (plockF t a (!old)) 0
      let s := s.put (R.PSWAP_PSWAP t.val) (Nat.xor (s.get (R.PSWAP_PSWAP t.val)) (2 ^ 64 - 1))
      let s := { s with ws := { s.ws with jobs := s.ws.jobs.filter fun i => i != j && !column i }
                        fe := { s.fe with busy := s.fe.busy.filter fun b => !(b.1 == t.val && b.2.1 == 3) } }
      ((s.validateRepairs t).hold .table).bump R.REFRESH_CNT)

end Sys2Proof.Machine
end

