-- ==== Sys2Proof/Machine/Steps.lean ====
section
/-! DEFINITION. Beacons and step marks: time, the step counter and what falls due at a mark (R274, R276, R330, R331, R379). -/

namespace Sys2Proof.Machine

open Sys2Proof

/-- A tenant at a step mark `dt` ticks after the one before: its settings take effect, its level rises by 16 * RATE * dt, the fraction being carried (R331). -/
def Tenant.atMark (t : Tenant) (dt : Nat) : Tenant :=
  let t := match t.nextSet with
    | some (r, b, p, w) => { t with rate := r, burst := b, pfw := p, bwaitMs := w, nextSet := none }
    | none => t
  let sum := 16 * t.rate * dt + t.frac
  { t with level := min (16 * t.burst) (t.level + sum / 940000000), frac := sum % 940000000 }

/-- A request that is not in flight, at a step mark: its deadline, then its budget-wait limit (R330, R333). -/
def State.markReq (s : State) (i : Nat) : State :=
  let r := s.req i
  if !r.live || r.inflight then s
  else if r.deadline.any (fun d => decide (d ≤ s.now)) then s.endReq i stDEADLINE 0
  else
    let ms := if r.bwaitMs ≠ 0 then r.bwaitMs else (s.tenant r.tenant).bwaitMs
    if ms ≠ 0 ∧ usTicks (1000 * ms) ≤ s.bwaitNow r then s.endReq i stBUDGET 0 else s

/-- The serving engine at a mark placed at time `t` (R330, R331). -/
def State.serveMark (s : State) (t : Nat) : State :=
  let dt := match s.serve.mark with | some t0 => t - t0 | none => 0
  let s := { s with serve := { s.serve with
    mark := some t
    tenants := s.serve.tenants.foldl (fun (m : Sparse Tenant) (e : Nat × Tenant) => sset Tenant.init m e.1 (e.2.atMark dt)) s.serve.tenants } }
  s.each (s.serve.reqs.map fun e => e.1) fun s i => s.markReq i

/-- The time at which Enara firmware places the next mark: LEAD_MIN after the first admission to an idle slice, else one period after the last mark (R324). -/
def State.nextMark (s : State) : Nat :=
  match s.serve.firstAt with
  | some t => t + usTicks (s.get R.TC_CTL_LEAD_MIN)
  | none => s.tm.lastMark.2 + s.stepPeriod

/-- Whether Enara firmware writes the mark (n, t): the next step's, at its time, while a request is admitted and fewer than 8 marks are pending (R324); the mark for the step of a version switch, and those after it, are withheld until every device has acknowledged (R378). -/
def State.fwMark (s : State) (v : Nat) : Bool :=
  s.admittedAny && !(s.ws.switch.any fun w => !w.marked) && decide (s.tm.marks.length < 8) && bits v 0 48 == s.tm.lastMark.1 + 1 && bits v 64 64 == s.nextMark

/-- Write of TOP.STEP_MARK: its words in rising order, the upper word issuing the mark (R276, R277, R284). Enara firmware writes the marks of R324 and no others. -/
def execStepMark (src : Partner) (v : BitVec 128) (s : State) : Res State :=
  .next (
    if src == .firmware && !s.fwMark v.toNat then s
    else
      let s := if src == .firmware then { s with serve := { s.serve with firstAt := none } } else s
      (s.barWrite src 0x5028 8 (bits v.toNat 0 64) fun _ _ s => s).barWrite src 0x5030 8 (bits v.toNat 64 64)
        fun _ w s => s.stepMark (srcCode src) w)

/-- The step counter becomes `n` at the mark (n, t) (R276, R379). -/
def State.applyMark (s : State) (n t : Nat) : State := ((s.put R.STEP_NOW_N n).switchNow.serveMark t).switchMark

/-- Every pending mark whose T the time counter has reached, in order (R276). -/
def execStepMarkApply (s : State) : Res State :=
  .next (
    let due := s.tm.marks.filter fun m => decide (m.2 ≤ s.tm.time)
    let s := { s with tm := { s.tm with marks := s.tm.marks.filter fun m => !decide (m.2 ≤ s.tm.time) } }
    s.each due fun s m => s.applyMark m.1 m.2)

/-- The mark that a beacon carries: kept if it is new and there is room, applied at once and counted when it comes late (R276). -/
def State.beaconMark (s : State) (b : Beacon) : State :=
  let n := b.markN.toNat
  let t := b.markT.toNat
  if n ≤ s.tm.lastMark.1 ∨ 8 ≤ s.tm.marks.length then s
  else
    let s := { s with tm := { s.tm with lastMark := (n, t) } }
    if t ≤ s.tm.time then (((s.bumpEvt R.MARK_LATE_CNT R.FAB_EVT_MARK_LATE).fault 0x13 0x1FF (detail := 1)).applyMark n t)
    else { s with tm := { s.tm with marks := s.tm.marks ++ [(n, t)] } }

/-- A beacon arrives; only one of the parent, the first of its interval, adjusts the time counter and brings a mark (R274, R276). -/
def execBeacon (l : LinkIx) (b : Beacon) (s : State) : Res State :=
  .next (
    if 48 ≤ l.val ∨ s.get (R.LNK_STAT_STATE l) ≠ lkACTIVE then s
    else
      let s := s.bump (R.BEACON_RX l)
      if s.beaconUsed l b then (s.alignOffset (s.beaconOffset l b) b).beaconMark b else s)

end Sys2Proof.Machine
end

