-- ==== Sys2Proof/Machine/Host.lean ====
section
/-! DEFINITION. Host ports and the commands of set-up: links and resets of a port, the lock, rings deleted, binding, layout, host DMA (R160, R179, R280, R288, R289, R294, R310 to R313). -/

namespace Sys2Proof.Machine

open Sys2Proof

/-! ### Ports (R279, R280, R289) -/

/-- The registers with offsets from `lo` to below `hi` at their reset values. -/
def State.regsBack (s : State) (lo hi : Nat) : State :=
  { s with regs := s.regs.filter fun e => !(decide (lo ≤ e.1 / 256) && decide (e.1 / 256 < hi)) }

/-- A port finishes link training (R280, Table 10-13). -/
def execPortLinkUp (p : Port) (rate : Fin 5) (width : Nat) (flit : Bool) (s : State) : Res State :=
  .next (
    let widths := if s.board.x8 then [1, 4, 8] else [1, 4, 8, 16]
    if !s.board.por || !s.portIs p || rate == 0 || !widths.contains width || (rate == 4 && !flit) then s
    else
      (((s.onPort p fun x => { x with up := true }).put (R.HLINK_RATE p) rate.val).put (R.HLINK_WIDTH p) width).put (R.HLINK_FLIT p) flit.toNat)

/-- A port reset (R289). -/
def State.portReset (s : State) (p : Nat) : State :=
  let s := s.onPort p fun _ => PortSt.init
  let s := (s.regsBack (0x6000 + 0x100 * p) (0x6100 + 0x100 * p)).regsBack (0x20 + 8 * p) (0x24 + 8 * p)
  let s := s.regsBack (0x18 + 4 * p) (0x1C + 4 * p)
  let s := if s.get R.SETUP_LOCK_HOLDER = p + 1 then s.put R.SETUP_LOCK_HOLDER 0 else s
  let s := s.each ((List.range 16).filter fun i => s.chPort (256 + i) == p) fun s i => s.chAbort (256 + i)
  s.portCancel p

/-- PERST_N, a hot reset, link down or an FLR of one port. -/
def execPortReset (p : Port) (s : State) : Res State := .next (if s.portIs p then s.portReset p else s)

/-! ### The lock and the reset register (R288, R294) -/

/-- A write to HOLDER: taken while NONE, released by the holder, or discarded (R294). -/
def State.setupLock (s : State) (src : Partner) (v : Nat) : State :=
  let h := s.get R.SETUP_LOCK_HOLDER
  let w := bits v 0 2
  let own := lockCode src
  if own ≠ 0 ∧ ((h = 0 ∧ w = own) ∨ (h = own ∧ w = 0)) then s.put R.SETUP_LOCK_HOLDER w
  else s.clampLog 0x34 (srcCode src) .discard 0 32 v h

/-- Write of TOP.SETUP_LOCK. -/
def execSetupLock (src : Partner) (v : BitVec 32) (s : State) : Res State :=
  .next (s.barWrite src 0x34 4 v.toNat fun _ w s => s.setupLock src w)

/-- A write to TOP.RST_CTL: the key resets the device, any other value is discarded (R288). -/
def State.rstCtl (s : State) (src : Partner) (v : Nat) : State :=
  if bits v 0 16 = 0xA5C3 then s.deviceReset else s.clampLog 0x30 (srcCode src) .discard 0 32 v 0

/-- Write of TOP.RST_CTL. -/
def execRstCtl (src : Partner) (v : BitVec 32) (s : State) : Res State :=
  .next (s.barWrite src 0x30 4 v.toNat fun _ w s => s.rstCtl src w)

/-- SYS_RST_N held low (R287). -/
def execSysRstN (s : State) : Res State := .next s.deviceReset

/-! ### Rings deleted (R310) -/

/-- DELETE_RING. -/
def execDeleteRing (c : Cmd) (s : State) : Res State :=
  .next (s.ringCmd 0x02 c fun s =>
    let kind := cf c 64 2
    let id := cf c 66 6
    let x := s.port c.port
    let bad := s.complete c (.st stINVALID 2)
    let busy := s.complete c (.st stBUSY rsINUSE)
    if kind = 0 then
      match x.sq id with
      | some q =>
        if id = 0 ∨ q.del.isSome then bad
        else (s.setSq c.port id (some { q with del := some c })).finishDelete c.port (Fin.ofNat 64 id) 64
      | none => bad
    else if kind = 1 then
      if id = 0 ∨ (x.cq id).isNone then bad
      else if x.sqs.any fun e => (match e.2 with | some q => q.cq == id | none => false) then busy
      else (s.setCq c.port false id none).complete c (.st stDONE 0)
    else if kind = 2 then
      if (x.tq id).isNone then bad
      else if s.liveReqs.any fun e => e.2.tq == id && (match e.2.cmd with | some d => d.port == c.port | none => false) then busy
      else (s.setCq c.port true id none).complete c (.st stDONE 0)
    else bad)

/-! ### Binding (R159, R160, R311) -/

/-- The descriptor of a SLICE_BIND with its out-of-range fields clamped, and whether any was (R160, Table 5-5). -/
def State.bindFields (s : State) (c : Cmd) : State × Binding × Bool :=
  let dim (a : Nat) : Nat := cf c (80 + 4 * a) 4
  let o0 := s.ringClamp c 96 4 0 (dim 0)
  let o1 := o0.1.ringClamp c 100 4 0 (dim 1)
  let o2 := o1.1.ringClamp c 104 4 0 (dim 2)
  let e0 := o2.1.ringClamp c 112 4 0 (dim 0)
  let e1 := e0.1.ringClamp c 116 4 0 (dim 1)
  let e2 := e1.1.ringClamp c 120 4 0 (dim 2)
  let ax := cf c 128 3
  let s := if 6 ≤ ax then e2.1.ringLog c .subst 128 3 ax 0 else e2.1
  (s, { sliceId := BitVec.ofNat 16 (cf c 64 16), tx := dim 0 + 1, ty := dim 1 + 1, tz := dim 2 + 1, ox := o0.2.1, oy := o1.2.1, oz := o2.2.1
        ex := e0.2.1 + 1, ey := e1.2.1 + 1, ez := e2.2.1 + 1, axes := if 6 ≤ ax then 0 else ax, bgen := BitVec.ofNat 8 (cf c 192 8) },
    o0.2.2 || o1.2.2 || o2.2.2 || e0.2.2 || e1.2.2 || e2.2.2 || decide (6 ≤ ax))

/-- A new binding: alignment starts again, with no marks known (R274, R311); a device that leaves a serving slice stops it (R320). The fabric keeps the old one until the next beacon. -/
def State.rebindTo (s : State) (b : Option Binding) : State :=
  let s := if s.serve.was && s.bind != b then { s.stopServing with serve := { s.stopServing.serve with was := false } } else s
  ({ s with bind := b, tm := { s.tm with marks := [], lastMark := (0, 0) } }.alignBegin).serveJudge

/-- SLICE_BIND. -/
def execSliceBind (c : Cmd) (s : State) : Res State :=
  .next (s.ringCmd 0x03 c fun s =>
    if s.admittedAny then s.complete c (.st stBUSY 1)
    else if cf c 200 1 = 1 then (s.rebindTo none).complete c (.st stDONE 0)
    else
      let r := s.bindFields c
      (r.1.rebindTo (some r.2.1)).complete c { Done.st stDONE 0 with clamped := r.2.2 })

/-! ### Memory layout (R179, R312) -/

/-- Sizes that together exceed `room`, reduced from the last to the first until they fit. -/
def fitSizes (room : Nat) (l : List Nat) : List Nat :=
  (l.foldl (fun (z : Nat × List Nat) v => (z.1 - min z.1 v, z.2 ++ [min z.1 v])) (room, [])).2

/-- Regions ADP, GRM, MAT, EMB and KV of stack `n` (Table 6-3). -/
def State.setLayout (s : State) (n : Nat) (l : List Nat) : State :=
  let l := l ++ [5992 - l.sum]
  s.each (List.range 5) fun s i =>
    (s.put (R.MREG_BASE_MIB n (3 + i)) (152 + (l.take i).sum)).put (R.MREG_SIZE_MIB n (3 + i)) (l.getD i 0)

/-- MEM_LAYOUT. -/
def execMemLayout (c : Cmd) (s : State) : Res State :=
  .next (s.ringCmd 0x04 c fun s =>
    if s.admittedAny then s.complete c (.st stBUSY 1)
    else
      let want := [cf c 96 16, cf c 112 16, cf c 128 16, cf c 144 16]
      let got := fitSizes 5992 want
      let s := s.each [0, 1, 2, 3] fun s i =>
        if want.getD i 0 = got.getD i 0 then s else s.ringLog c .clamp (96 + 16 * i) 16 (want.getD i 0) (got.getD i 0)
      let s := s.each ((List.range 32).filter fun n => (cf c 64 32).testBit n) fun s n => s.setLayout n got
      s.complete c { Done.st stDONE 0 with clamped := want != got })

/-! ### Host DMA (R313) -/

/-- HOST_DMA: refused, waiting for room, or a chain of the channel that completes the command. -/
def execHostDma (c : Cmd) (s : State) : Res State :=
  .next (s.ringCmdW 0x05 c fun s =>
    let ch := 256 + cf c 64 4
    let space := cf c 132 2
    if s.chPort ch ≠ c.port.val ∨ !(space == 1 || space == 2) then some (s.complete c (.st stINVALID 5))
    else if !s.chanRoom ch then none
    else some (s.chanPush ch ⟨BitVec.ofNat 64 (cf c 128 64), .ring c⟩))

end Sys2Proof.Machine
end

