-- ==== Sys2Proof/Machine/FaultOps.lean ====
section
/-! DEFINITION. Operations of the fault engine: the log, histories, device faults, column repair, fencing, flushing, adoption (R114, R385, R428 to R453). -/

namespace Sys2Proof.Machine

open Sys2Proof

/-! ### Histories and the log (R428, R431 to R433) -/

/-- The history record of site `t`. -/
def State.histOf (s : State) (t : Nat) : Hist := sget Hist.init s.fe.hist t

/-- A history record changed; it is written when its hold-up check passes (R432). -/
def State.onHist (s : State) (t : Nat) (f : Hist → Hist) : State :=
  { s with fe := { s.fe with hist := supd Hist.init s.fe.hist t f } }.hold (.hist t)

/-- Powered seconds (R432). -/
def State.powered (s : State) : Nat := s.get R.POWERED_S_S

/-- STATUS by the powered time: SUSPECT while a confirmed failure lies within 24 hours, PERMANENT for good (R431). -/
def Hist.judge (h : Hist) (now : Nat) : Hist :=
  if h.status = 2 then h else { h with status := if h.ksT.any (fun x => decide (now ≤ x + 86400)) then 1 else 0 }

/-- A site becomes PERMANENT (R433). -/
def State.makePerm (s : State) (t : Nat) : State :=
  s.onHist t fun h => if h.status = 2 then h else { h with status := 2, permS := s.powered }

/-- A site is PERMANENT. -/
def State.isPerm (s : State) (t : Nat) : Bool := (s.histOf t).status == 2

/-- A site is BUSY (R429). -/
def State.isBusy (s : State) (t : Nat) : Bool := s.fe.busy.any fun b => b.1 == t

/-- A site becomes BUSY with an action. -/
def State.setBusy (s : State) (t act : Nat) (e : FaultEv) : State := { s with fe := { s.fe with busy := s.fe.busy ++ [(t, act, e)] } }

/-- An action on a site is complete. -/
def State.unbusy (s : State) (t : Nat) : State := { s with fe := { s.fe with busy := s.fe.busy.filter fun b => b.1 != t } }

/-- An entry of the fault log (R428). -/
def State.faultLog (s : State) (e : FaultEv) : State :=
  let log := s.fe.log ++ [(e, s.tm.time, 0)]
  (({ s with fe := { s.fe with log := if 65536 < log.length then log.drop 1 else log } }.put R.FLT_LOG_HEAD_NEXT
    (s.get R.FLT_LOG_HEAD_NEXT + 1)).bump R.EVT_CNT).hevt 3

/-- The first entry of a list that satisfies `p`, changed. -/
def changeFirst {α : Type} (p : α → Bool) (f : α → α) : List α → List α
  | [] => []
  | x :: r => if p x then f x :: r else x :: changeFirst p f r

/-- The action of an event in its log entry and in its site's record (R428, Table 14-4). -/
def State.recordAct (s : State) (e : FaultEv) (act : Nat) : State :=
  let log := (changeFirst (fun (x : FaultEv × Nat × Nat) => x.1 == e) (fun x => (x.1, x.2.1, act)) s.fe.log.reverse).reverse
  { s with fe := { s.fe with log := log } }.onHist e.site.toNat fun h =>
    { h with events := sset none h.events h.next (some (e, s.powered, act)), next := (h.next + 1) % 8 }

/-! ### FAULT (R452, R453) -/

/-- The device enters FAULT: its slice stops serving, programming stops, a load fails slice-wide. -/
def State.deviceFault (s : State) (cause site : Nat) : State :=
  if s.get R.STATE_STATE = devFAULT then s
  else
    let s := (s.showFault cause site).loadFail wsPEER
    let s := s.each s.ws.jobs fun s j => s.dropJob j
    { s.serveJudge with hu := s.serveJudge.hu.filter fun (e : HuItem × Nat × Nat) => e.1 != HuItem.batch }.emit (.toIngress "fault" [cause])

/-! ### Column repair (R437) -/

/-- The spare entries of a group that can take a column: not valid, not failed, not taken (R437). -/
def State.spareFree (s : State) (t : Site) (a : ArrIx) (g : Nat) : List Nat :=
  [2 * g, 2 * g + 1].filter fun k =>
    s.get (sprF t a k true) == 0 && !s.fe.badSpare.contains (t.val, a.val, k) && !s.fe.repairs.contains (t.val, a.val, k)

/-- A spare column has failed: its entry is not valid, and it takes no column again (R437). -/
def State.spareFail (s : State) (t : Site) (a : ArrIx) (k : Nat) : State :=
  let mine (j : Job) : Bool := j.what == .column k && j.slot == a.val && s.siteOf j.tile == t
  let s := s.each (s.ws.jobs.filter mine) fun s j => s.dropJob j
  let s := if s.get (sprF t a k true) = 1 then (s.put (sprF t a k true) 0).hold .table else s
  { s with fe := { s.fe with badSpare := if s.fe.badSpare.contains (t.val, a.val, k) then s.fe.badSpare else s.fe.badSpare ++ [(t.val, a.val, k)]
                             repairs := s.fe.repairs.filter fun e => e != (t.val, a.val, k) } }

/-- A data column has failed: the spare that stood, or was to stand, in for it has failed with it. -/
def State.colFail (s : State) (t : Site) (a : ArrIx) (col : Nat) : State :=
  let mine (k : Nat) : Bool := k / 2 == col / 128 && s.get (sprF t a k false) == col % 128 &&
    (s.get (sprF t a k true) == 1 || s.fe.repairs.contains (t.val, a.val, k))
  s.each ((List.range 8).filter mine) fun s k => s.spareFail t a k

/-- Whether data columns of one group can be repaired. -/
def State.canRepair (s : State) (t : Site) (a : ArrIx) (cols : List Nat) : Bool :=
  let s := s.each cols fun s c => s.colFail t a c
  decide (cols.length ≤ (s.spareFree t a (cols.headD 0 / 128)).length)

/-- The spare's site of a site's sector (R13). -/
def spareSite (t : Nat) : Site := Fin.ofNat 288 (9 * (t / 9) + 8)

/-- The logical tile whose weights a site holds, or is being given as an adopted spare. -/
def State.tileFor (s : State) (t : Site) : Option Nat :=
  match s.logicalOf t.val with
  | some l => some l
  | none => (s.ws.spares.find? fun x => spareSite (s.siteOf x.1).val == t).map fun x => x.1

/-- An array's record with the plane of a slot, for a job. -/
def State.planeEntry (s : State) (t : Site) (a : ArrIx) (slot : Nat) (l : List ArrRec) (tile : Nat) : List (Nat × ArrRec) :=
  (l.filter fun x => x.tile == tile && x.arr == a.val).map fun x => (2 * t.val + (s.physPlane t a (slot == 1)).toNat, x)

/-- Planes of a pending repair that hold weights: those of ACTIVE, DRAINING and STAGED slots; none while one of these slots has no REF (R437). -/
def State.repairPlanes (s : State) (t : Site) (l : Nat) (a : ArrIx) : State × Option (List (Nat × ArrRec)) :=
  ([0, 1].filter fun k => decide (slSTAGED ≤ s.slotSt k)).foldl (fun (r : State × Option (List (Nat × ArrRec))) k =>
    let z := r.1.slotRecs k (l / 8)
    (z.1, match r.2, z.2 with
      | some acc, some rs => some (acc ++ s.planeEntry t a k rs l)
      | _, _ => none)) (s, some [])

/-- An array has still to be taken up by a job. -/
def Job.waits (j : Job) (l a : Nat) : Bool := j.todo.any fun e => e.2.tile == l && e.2.arr == a

/-- The STAGING plane of a repair found during a load, when it has been or is being programmed (R375). -/
def State.loadPlanes (s : State) (t : Site) (l : Nat) (a : ArrIx) : List (Nat × ArrRec) :=
  match s.ws.load with
  | some x =>
    if x.restore || s.ws.jobs.any (fun j => j.what == .load && j.waits l a.val) then [] else s.planeEntry t a x.slot x.recs l
  | none => []

/-- A job for one spare column. -/
def State.columnJob (s : State) (l : Nat) (a : ArrIx) (k : Nat) (es : List (Nat × ArrRec)) : State :=
  { s with ws := { s.ws with jobs := s.ws.jobs ++ [(⟨JobFor.column k, l, a.val, es, [], none⟩ : Job)] } }.wantBatch

/-- A pending repair is carried forward: by an urgent refresh when the other plane's slot is FREE, else in place; a plane already programmed by a refresh in progress receives the column after it (R375, R437). -/
def State.repairGo (s : State) (t : Site) (a : ArrIx) (k : Nat) : State :=
  match s.tileFor t with
  | none => s
  | some l =>
    if s.ws.jobs.any fun j => j.what == .column k && j.slot == a.val && j.tile == l then s
    else
      let free := match s.activeSlot with | some act => s.slotSt (1 - act) == slFREE && (s.logicalOf t.val).isSome | none => false
      let act := s.activeSlot.getD 0
      if free then
        match s.ws.jobs.find? fun j => j.what == .refresh && j.tile == l with
        | some j =>
          if j.waits l a.val then s
          else match s.refRead act (l / 8) with
            | (s, some rs) => s.columnJob l a k (s.planeEntry t a (1 - act) rs l)
            | (s, none) => s
        | none =>
          let s := { s with ws := { s.ws with queue := (l, false) :: s.ws.queue.filter fun e => e.1 != l } }
          if s.refreshMay act then s.refreshGo act l else s
      else match s.repairPlanes t l a with
        | (s, some es) => s.columnJob l a k (es ++ s.loadPlanes t l a)
        | (s, none) => s

/-- A repair of a data column begins: a spare's entry names it, not valid, and is pending (R437). -/
def State.repairBegin (s : State) (t : Site) (a : ArrIx) (col : Nat) : State :=
  let s := s.colFail t a col
  match s.spareFree t a (col / 128) with
  | [] => s
  | k :: _ =>
    let s := s.put (sprF t a k false) (col % 128)
    { s with fe := { s.fe with repairs := s.fe.repairs ++ [(t.val, a.val, k)] } }.repairGo t a k

/-! ### Fence, flush, readmission (R46, R114, R442) -/

/-- A tile is fenced: every unit stops and forgets its work, the partials in its ejection buffer too; scratchpad stays; a test it was running is due again (R46, R114). DESIGN CHOICE (log entry 86): closed blocks that wait in the edge writeback are discarded with the open ones, of which alone R114 speaks. -/
def Tile.fence (x : Tile) : Tile :=
  let halt (c : ArrCtl) : ArrCtl :=
    { c with st := .halt, op := none, nxt := none, edge := none, due := (match c.op.bind fun o => o.test with | some o => o :: c.due | none => c.due) }
  { x with
    fenced := true, vc := .halt, stall := none, inwait := none, vcResume := false, reclaim := none, parked := none
    qArr := Queue.init, qTu := Queue.init, qDma := Queue.init, qSync := Queue.init, rqu := none, tu := none, live := [], blks := []
    accs := [], wbq := [], unq := [], ej := []
    arr := (List.range 64).foldl (fun m a => supd ArrCtl.init m a halt) x.arr }

/-- A tile is fenced by the fault engine. -/
def State.fenceTile (s : State) (t : Site) : State := s.onTile t Tile.fence

/-- A vector core started by Enara firmware at VC_PC (R442, R443). -/
def State.bootVc (s : State) (t : Site) : State :=
  (s.put (R.TILE_CTL_VC_RUN t.val) 1).onTile t fun x => { x.vcBoot (s.get (R.VC_PC_PC t.val) * 8) with vc := .run, pstate := 0 }

/-- A fenced tile returns to work: arrays IDLE, the bank ownership of its kernel's entry, its vector core at VC_PC (R442). -/
def State.readmit (s : State) (t : Site) : State :=
  let s := s.onTile t fun x =>
    { x with
      fenced := false
      arr := (List.range 64).foldl (fun (m : Sparse ArrCtl) a =>
        supd ArrCtl.init m a fun c => if c.st = .halt then { c with st := .idle } else c) x.arr }
  let v := match s.logicalOf t.val with | some l => sget 0 s.ws.entry l | none => 0
  let s := if v = 0 then s
    else s.each (List.range 8) fun s b =>
      (s.put (spownF t.val b) (bits (v - 1) (4 * b) 3)).onTile t fun x => x.onBank b fun k => { k with chg := [] }
  s.bootVc t

/-- Every object of the placement is reallocated, and its handles patched anew (R224, R364, R442). -/
def State.reallocObjs (s : State) : State :=
  let again (o : PObj) (s : State) (i : Nat) : State := s.objCmd 2 (i + o.mode * 2 ^ 16 + o.count % 2 ^ 32 * 2 ^ 32)
  let s := s.each s.ws.objs fun s o =>
    match o.odd with | some j => again o (again o s o.ix) j | none => again o s o.ix
  s.patchAll.getD s

/-- Every request with a row in a launched micro-batch ends FAULT with a reason (R328, R442). -/
def State.endLaunched (s : State) (reason : Nat) : State :=
  if s.isIngress then
    s.each (s.serve.mbs.filter fun e => e.2.launched.isSome) fun s e =>
      s.each e.2.rows fun s w => match s.findReq w.req.toNat with | some i => s.endReq i stFAULT reason | none => s
  else s.emit (.toIngress "flush" [reason])

/-- Held orbit rows are released (R442). -/
def State.releaseRows (s : State) : State :=
  { s with fe := { s.fe with rowsHeld := false } }.each (List.range 64) fun s m => s.relaunch m

/-- A spare that start-up adopted, which waits for RESTORE to be programmed (R445). -/
def State.isLate (s : State) (x : Nat × Nat × Bool × Bool) : Bool := (s.siteOf x.1).val % 9 == 8

/-- Logical tiles being moved to their spare in service (R443). -/
def State.adopting (s : State) : List (Nat × Nat × Bool × Bool) := s.ws.spares.filter fun x => !s.isLate x

/-- A logical tile is being replaced by its spare (R443). -/
def State.replacing (s : State) (t : Site) : Bool := s.adopting.any fun x => s.siteOf x.1 == t

/-- A device flush (R442): rows are held and, unless tiles are being replaced, released again; without a reason the rows are not ended (R449). -/
def State.deviceFlush (s : State) (reason : Option Nat) : State :=
  let s := { s with fe := { s.fe with rowsHeld := true } }.bump R.FLUSH_CNT
  let s := match reason with | some r => s.endLaunched r | none => s
  let ts := (List.finRange 288).filter fun t => !(s.tile t).fenced && !s.tileIdle t
  let s := (s.each ts fun s t => s.fenceTile t).reallocObjs
  let s := s.each (ts.filter fun t => !s.replacing t) fun s t => s.readmit t
  if s.adopting.isEmpty then s.releaseRows else s

/-! ### Fence and adopt (R385, R443, R444) -/

/-- State of a sector's spare: AVAILABLE, ADOPTED, PERMANENT (R445). -/
def State.spareState (s : State) (sec : Nat) : Nat :=
  if (List.range 256).any fun l => l / 8 == sec && s.get (R.REMAP_ADOPTED l) == 1 then 1 else if s.isPerm (9 * sec + 8) then 2 else 0

/-- Slots whose planes a spare needs, ACTIVE first (R385). -/
def State.neededSlots (s : State) : List Nat :=
  [0, 1].filter (fun k => s.slotSt k == slACTIVE) ++ [0, 1].filter fun k => s.slotSt k == slDRAINING || s.slotSt k == slSTAGED

/-- A spare adopted at start-up still has no REF to be programmed from (R445). -/
def State.waitsRestore (s : State) (x : Nat × Nat × Bool × Bool) : Bool :=
  s.isLate x && (s.neededSlots.isEmpty || s.neededSlots.any fun k => s.get (R.SLOT_REF_VALID k) == 0)

/-- Programming of the first adopted spare that waits for it begins (R385, R386, R444). -/
def State.spareStart (s : State) : State :=
  if s.ws.jobs.any fun j => j.what == .spare then s
  else
    match s.ws.spares.find? fun x => !x.2.2.1 && !s.waitsRestore x with
    | none => s
    | some x =>
      let l := x.1
      let u := spareSite (s.siteOf l).val
      let got := s.neededSlots.foldl (fun (q : State × List (Nat × Option (List ArrRec))) k =>
        let z := q.1.slotRecs k (l / 8)
        (z.1, q.2 ++ [(k, z.2)])) (s, [])
      let s := got.1
      let parts := got.2
      if parts.any fun p => p.2.isNone then (s.each (parts.filter fun p => p.2.isNone) fun s p => s.refLost p.1).deviceFault 6 (s.siteOf l).val
      else
        let todo := parts.flatMap fun p => ((p.2.getD []).filter fun r => r.tile == l).map fun r => (2 * u.val + p.1, r)
        let s := s.put (R.PSWAP_PSWAP u.val) 0
        { s with ws := { s.ws with jobs := s.ws.jobs ++ [(⟨JobFor.spare, l, s.neededSlots.headD 0, todo, [], none⟩ : Job)] } }.wantBatch

/-- Work of the weight store for a logical tile that leaves its site is given up (R385, R437). -/
def State.dropTile (s : State) (l : Nat) (t : Site) : State :=
  let mine (j : Job) : Bool := (j.what == .refresh && j.tile == l) || ((j.what matches .column _) && j.tile == l)
  let s := s.each (s.ws.jobs.filter mine) fun s j => s.dropJob j
  { s with ws := { s.ws with queue := s.ws.queue.filter fun e => e.1 != l }
           fe := { s.fe with repairs := s.fe.repairs.filter fun e => e.1 != t.val } }

/-- Fence and adopt for site `t` (R385, R443, R444). -/
def State.fenceAdopt (s : State) (t : Site) : State :=
  let u := spareSite t.val
  match s.logicalOf t.val with
  | none =>
    let adopting := (s.tileFor t).isSome
    let s := (s.makePerm t.val).unbusy t.val
    let s := if t = u then s.hold .remap else s
    if adopting then s.deviceFault 1 t.val else s
  | some l =>
    if t = u ∨ s.spareState (t.val / 9) ≠ 0 ∨ s.ws.spares.any (fun x => x.1 / 8 == t.val / 9) then (s.makePerm t.val).deviceFault 1 t.val
    else if s.neededSlots.any fun k => s.get (R.SLOT_REF_VALID k) == 0 then (s.makePerm t.val).deviceFault 6 t.val
    else
      let s := if s.ws.load.any fun x => !x.restore then s.loadFail wsVERIFY else s
      let s := (s.dropTile l t).fenceTile t
      let s := { s with ws := { s.ws with spares := s.ws.spares ++ [(l, s.now, false, false)] } }.tileFromP2 u
      (s.deviceFlush (some 0x18)).spareStart

/-- The adopted spare is programmed and its scratchpad copied: the map, the site, the record; the spare's vector core starts, held rows go on (R443). -/
def State.adoptDone (s : State) (l : Nat) : State :=
  let t := s.siteOf l
  let u := spareSite t.val
  let s := ((s.put (R.REMAP_SITE l) u.val).put (R.REMAP_ADOPTED l) 1).bump R.REMAP_GEN_GEN
  let s := ((s.makePerm t.val).hold .remap).hold .table
  let s := (s.bumpEvt R.FENCE_CNT R.FLT_EVT_FENCE).bootVc u
  let s := { s with ws := { s.ws with spares := s.ws.spares.filter fun x => x.1 != l } }
  (if s.adopting.isEmpty then s.releaseRows else s).unbusy t.val

/-- A spare that start-up adopted is programmed: the ACTIVE VERSION is reported again (R445). -/
def State.lateDone (s : State) (l : Nat) : State :=
  ({ s with ws := { s.ws with spares := s.ws.spares.filter fun x => x.1 != l } }.hold .table).serveJudge

/-- A part of an adoption is done; with both it is complete (R443). -/
def State.spareStep (s : State) (l : Nat) (prog copy : Bool) : State :=
  let s := { s with ws := { s.ws with spares := s.ws.spares.map fun (x : Nat × Nat × Bool × Bool) => if x.1 = l then (x.1, x.2.1, x.2.2.1 || prog, x.2.2.2 || copy) else x } }
  if (s.ws.spares.any fun x => x.1 == l && x.2.2.1 && x.2.2.2) && !s.fe.repairs.any (fun e => e.1 == (spareSite (s.siteOf l).val).val) then
    (if (s.siteOf l).val % 9 = 8 then s.lateDone l else s.adoptDone l)
  else s

/-- Pending repairs that nothing carries are taken up again, and adoptions that waited for one go on (R372, R437, R443). -/
def State.repairPump (s : State) : State :=
  let s := s.each s.fe.repairs fun s e =>
    let t : Site := Fin.ofNat 288 e.1
    let l := (s.tileFor t).getD 256
    if (s.ws.queue.any fun q => q.1 == l) || s.hu.any (fun h => h.1 == .entry e.1 e.2.1 e.2.2) then s
    else s.repairGo t (Fin.ofNat 64 e.2.1) e.2.2
  (s.each s.ws.spares fun s x => s.spareStep x.1 false false).spareStart

end Sys2Proof.Machine
end

