-- ==== Sys2Proof/Machine/FaultEng.lean ====
section
/-! DEFINITION. The fault engine: events and actions, known-sum and fleet tests, adoption, hardened registers (R426 to R451). -/

namespace Sys2Proof.Machine

open Sys2Proof

/-! ### Decisions (R429, R430, R433) -/

/-- Data columns that AUX of a KS_FAIL or FLEET_FAIL names: one in each half, 0xFFFF for none; 520 and above are checksum and reference columns. -/
def auxCols (aux : Nat) : List Nat := [bits aux 0 16, bits aux 16 16].filter fun c => c != 0xFFFF

/-- The data columns that an event asks to repair (R437): a stuck spare stands for the column it serves. -/
def State.eventCols (s : State) (e : FaultEv) : List Nat :=
  let t : Site := Fin.ofNat 288 e.site.toNat
  let a : ArrIx := Fin.ofNat 64 e.array.toNat
  if e.kind = 0x04 then
    let c := e.aux.toNat
    if c < 512 ∨ 520 ≤ c then [c]
    else if s.get (sprF t a (c - 512) true) = 1 ∨ s.fe.repairs.contains (t.val, a.val, c - 512) then
      [128 * ((c - 512) / 2) + s.get (sprF t a (c - 512) false)]
    else []
  else auxCols e.aux.toNat

/-- The action code of Table 14-3 for an event; 0 when nothing is to be done. -/
def State.actionOf (s : State) (e : FaultEv) : Nat :=
  let t : Site := Fin.ofNat 288 e.site.toNat
  let a : ArrIx := Fin.ofNat 64 e.array.toNat
  let k := e.kind.toNat
  let cols := s.eventCols e
  let ks := k == 3 || k == 6
  let h := s.histOf t.val
  if h.status = 2 ∨ (ks ∧ h.ksT.length = 3 ∧ h.ksT.all fun x => decide (s.powered ≤ x + 86400)) then 4
  else if k = 2 then 1
  else if ks ∨ k = 4 then
    if cols.isEmpty then (if ks then 3 else 0)
    else if cols.any fun c => decide (520 ≤ c) then 4
    else if s.canRepair t a cols then 2 else 4
  else if k = 5 ∨ k = 8 then 4
  else if k = 7 then 5
  else if k = 9 then 6
  else 7

/-- The history counts of an event (Table 14-4). -/
def Hist.count (h : Hist) (kind now : Nat) : Hist :=
  let h := if kind = 3 ∨ kind = 6 then { h with ksFail := h.ksFail + 1, ksT := (h.ksT ++ [now]).drop (h.ksT.length - 2) }
    else if kind = 2 then { h with chkEvt := h.chkEvt + 1 }
    else if kind = 9 then { h with regEvt := h.regEvt + 1 }
    else if kind = 0xA ∨ kind = 0xB then { h with stall := h.stall + 1 }
    else if kind = 7 then { h with dual := h.dual + 1 }
    else if kind = 8 then { h with selftest := h.selftest + 1 }
    else h
  h.judge now

/-- An out-of-turn known-sum test of the array's next vector on the named plane (R439); while TEST is OFF none runs (R434). -/
def State.outOfTurn (s : State) (e : FaultEv) : State :=
  let t : Site := Fin.ofNat 288 e.site.toNat
  let a : ArrIx := Fin.ofNat 64 e.array.toNat
  if s.get R.FLT_CTL_TEST = 0 then s
  else
    (s.setBusy t.val 1 e).onTile t fun x => x.onCtl a.val fun c =>
      { c with due := c.due ++ [(⟨none, c.ksVec, none, e.wplane, 2, none, none, c.ops⟩ : TestOp)], ootAt := some s.now }

/-- All known-sum vectors on every array of the tiles that send to a pair of home tiles and of the pair (R449). -/
def State.dualTests (s : State) (t u : Site) : State :=
  let home (x : Site) : List Nat := (s.logicalOf x.val).toList
  let hs := home t ++ home u
  let names (l : Nat) : Bool :=
    hs.contains l || (List.range 32).any fun k => s.get (R.EBAFWD (s.siteOf l).val k) == 1 && hs.contains (s.get (R.EBAFWD_HOME (s.siteOf l).val k))
  s.each ((List.range 256).filter names) fun s l =>
    s.each (List.finRange 64) fun s a =>
      match s.ksNext (s.siteOf l) a with
      | some p => s.onTile (s.siteOf l) fun x => x.onCtl a.val fun c =>
          { c with due := c.due ++ (List.range 16).map fun v => (⟨none, v, none, p, 2, none, none, c.ops⟩ : TestOp) }
      | none => s

/-- The STEP states of the micro-batches in flight are again those they entered with (R449). -/
def State.restoreStep (s : State) : State :=
  { s with sp := s.fe.kept.foldl (fun m e => e.2.foldl (fun m x => sset 0 m x.1 x.2) m) s.sp }

/-- A DUAL mismatch (R449): the micro-batch is re-run once, from the STEP state it entered with; on a second mismatch its requests end and the tests run. -/
def State.dualAct (s : State) (t : Site) : State :=
  let s := s.bumpEvt R.DUAL_MISMATCH_CNT R.FLT_EVT_DUAL
  let u := (s.partner t).getD t
  if s.fe.rerun.contains t.val then (({ s with fe := { s.fe with rerun := [] } }.deviceFlush (some 0x1A)).dualTests t u)
  else
    let s := { s with fe := { s.fe with rerun := s.fe.rerun ++ [t.val] } }
    let s := (s.onHist u.val fun h => { h with dual := h.dual + 1 }).deviceFlush none
    let s := s.restoreStep
    s.emit (.toIngress "rerun" [t.val])

/-- A stuck column of a programming in progress has been taken up. -/
def State.takeStuck (s : State) (e : FaultEv) : State :=
  if e.kind = 0x04 ∨ e.kind = 0x05 then
    s.onTile (Fin.ofNat 288 e.site.toNat) fun x => x.onCtl e.array.toNat fun c =>
      { c with prog := c.prog.map fun p => { p with stuck := p.stuck.filter fun k => k != e.aux.toNat } }
  else s

/-- The registers read as copy 0. -/
def State.setCopies (s : State) (l : List (Nat × Nat × Nat)) : State := { s with fe := { s.fe with copies := l } }

/-- The stored fields of a register at an offset. -/
def fieldRefs (off : Nat) (l : List FDesc) : List FRef := l.map fun d => ⟨off, d.lsb, d.w, d.rst⟩

/-- What a field read as copy 0 is to be rewritten with: its value before the upset, or a value written since (R450). -/
def State.mended (s : State) (e : Nat × Nat × Nat) (f : FRef) : Nat :=
  if s.get f = bits e.2.1 f.lsb f.w then bits e.2.2 f.lsb f.w else s.get f

/-- A register is read as copy 0 until it is rewritten (R450). -/
def State.readCopy0 (s : State) (off v : Nat) : State :=
  match regFind off regTable with
  | none => s
  | some (r, k) =>
    let fs := fieldRefs (off - k) r.fields
    let good := match s.fe.copies.find? fun e => e.1 == off - k with
      | some e => (fs.map fun f => s.mended e f * 2 ^ f.lsb).sum
      | none => (fs.map fun f => s.get f * 2 ^ f.lsb).sum
    (s.putWord fs v).setCopies ((s.fe.copies.filter fun e => e.1 != off - k) ++ [(off - k, v, good)])

/-- Enara firmware rewrites a register that is read as copy 0 (R450, Table 14-3). -/
def State.rewriteReg (s : State) (off : Nat) : State :=
  match regFind off regTable with
  | none => s
  | some (r, k) =>
    match s.fe.copies.find? fun e => e.1 == off - k with
    | none => s
    | some e =>
      (s.each (fieldRefs (off - k) r.fields) fun s f => s.put f (s.mended e f)).setCopies (s.fe.copies.filter fun x => x.1 != off - k)

/-- The action of an event starts (Table 14-3). -/
def State.act (s : State) (e : FaultEv) (act : Nat) : State :=
  let t : Site := Fin.ofNat 288 e.site.toNat
  let a : ArrIx := Fin.ofNat 64 e.array.toNat
  match act with
  | 1 => s.outOfTurn e
  | 2 => (s.setBusy t.val 2 e).each (s.eventCols e) fun s c => s.repairBegin t a c
  | 3 =>
    match s.activeSlot, s.logicalOf t.val with
    | some k, some l =>
      if s.refreshMay k ∧ !(s.ws.jobs.any fun j => j.what == .refresh && j.tile == l) then (s.setBusy t.val 3 e).refreshGo k l else s.queueRefresh l
    | _, _ => s
  | 4 => (s.setBusy t.val 4 e).fenceAdopt t
  | 5 => s.dualAct t
  | 6 => s.rewriteReg e.aux.toNat
  | 7 => (s.deviceFlush (some 0x19)).set1 R.FLT_EVT_STALL
  | _ => if e.kind = 0x04 ∧ 512 ≤ e.aux.toNat ∧ e.aux.toNat < 520 then s.spareFail t a (e.aux.toNat - 512) else s

/-- A further CHK_FAIL of an array within 1 ms of its out-of-turn test (R439). -/
def State.chkAgain (s : State) (e : FaultEv) : Bool :=
  e.kind == 0x02 && (match ((s.tile (Fin.ofNat 288 e.site.toNat)).ctl e.array.toNat).ootAt with | some t => decide (s.now < t + usTicks 1000) | none => false)

/-- A TILE or STALL event is decided: merged while its site is BUSY, else counted, recorded and acted on (R429, R430, R432, R433). -/
def State.judgeEvent (s : State) (e : FaultEv) : State :=
  let t := e.site.toNat
  let s := s.takeStuck e
  if s.isBusy t || s.chkAgain e then
    let s := s.onHist t fun h => let h := h.count e.kind.toNat s.powered; { h with merged := h.merged + 1 }
    (s.bump R.MERGE_CNT).recordAct e 0
  else
    let s := s.onHist t fun h => h.count e.kind.toNat s.powered
    let act := s.actionOf e
    (s.recordAct e act).act e act

/-- Decisions whose time has come: the one in progress ends, and the oldest pending event is decided (R429). -/
def State.decisions (s : State) : Nat → State
  | 0 => s
  | n + 1 =>
    match s.fe.deciding with
    | some e =>
      if e ≤ s.now then
        match s.fe.pend with
        | [] => { s with fe := { s.fe with deciding := none } }
        | v :: r => ({ s with fe := { s.fe with pend := r, deciding := some (e + usTicks 20) } }.judgeEvent v).decisions n
      else s
    | none => s

/-- The fault engine at the present time: decisions, and repairs that can go on. -/
def State.engineRun (s : State) : State :=
  if s.get R.STATE_STATE = devFAULT then s
  else
    let s := s.decisions 17
    if s.fe.repairs.isEmpty ∧ s.ws.spares.isEmpty then s else s.repairPump

/-- A TILE or STALL event: decided at once, or kept in the pending queue while a decision is in progress; a 17th is a device fault (R429). -/
def State.takeEvent (s : State) (e : FaultEv) : State :=
  if s.fe.deciding.isSome then
    if 16 ≤ s.fe.pend.length then s.deviceFault 4 e.site.toNat else { s with fe := { s.fe with pend := s.fe.pend ++ [e] } }
  else { s with fe := { s.fe with deciding := some (s.now + usTicks 20) } }.judgeEvent e

/-- A NET event counted against its router or stop within one hour of powered time (R429). -/
def State.netEvent (s : State) (e : FaultEv) : State :=
  let k := e.site.toNat
  let l := (s.fe.net.filter fun x => decide (s.powered < x.2 + 3600)) ++ [(k, s.powered)]
  let s := { s with fe := { s.fe with net := l } }
  if s.get R.FLT_CTL_NET_UE_LIM ≤ (l.filter fun x => x.1 == k).length then s.deviceFault 7 k else s

/-- R262 applies to a link's direction: a second failure on the torus, a third on the spine; an OFF link never counts (R254). -/
def State.linkShort (s : State) (l : Nat) : Bool :=
  let n := ((dirLinks (linkDir l)).filter fun k => s.get (R.LNK_STAT_STATE k) != lkOFF && (s.get (R.LNK_STAT_STATE k) == lkFAILED || (s.lnk k).misAt.isSome)).length
  decide ((if linkDir l < 6 then 2 else 3) ≤ n)

/-- What follows from an event by its scope (Table 14-2, R429). -/
def State.scopeAct (s : State) (e : FaultEv) : State :=
  let k := e.kind.toNat
  let site := e.site.toNat
  if 2 ≤ k ∧ k ≤ 0xB then (if site < 288 then s.takeEvent e else s)
  else if k = 0xC then s.deviceFault 0xA site
  else if k = 0xE then s.netEvent e
  else if k = 0x10 then s.deviceFault 2 site
  else if k = 0x12 then (if s.linkShort e.detail.toNat then s.deviceFault 3 site else s)
  else if k = 0x16 then s.deviceFault 8 site
  else if k = 0x17 then s.deviceFault 9 site
  else if k = 0x18 then s.deviceFault 5 site
  else s

/-- A fault event arrives as an EVT message in its turn (R215, R218): logged, and treated by its scope; in FAULT it is logged only (R428, R429, R452). One that finds the buffer of 256 full stays on the ring and passes again (R426). -/
def execFaultEvent (e : FaultEv) (s : State) (err : NetErr := .none) (full : Bool := false) : Res State :=
  .next (if full then s else s.tanArrive (.fault e) (s.tanStop 0x184) err fun s =>
    let s := (s.engineRun).faultLog e
    if s.get R.STATE_STATE = devFAULT then s else s.scopeAct e)

/-! ### Known-sum tests (R434 to R439, R441) -/

/-- The test that an array runs next, judged again for its plane (R434, R436, R439): with the tests that stay due. -/
def State.nextTest (s : State) (t : Site) (a : ArrIx) : Option TestOp × List TestOp :=
  let c := (s.tile t).ctl a.val
  match c.due with
  | o :: rest =>
    if o.codes.isSome then (none, if s.planeOut t a o.plane then rest else c.due)
    else if s.ksMay t a o.plane then (some o, rest)
    else match s.ksNext t a with
      | some p => (some { o with plane := p }, rest)
      | none => (none, rest)
  | [] => ((s.ksNext t a).map fun p => (⟨none, c.ksVec, none, p, 2, none, none, c.ops⟩ : TestOp), [])

/-- The CHK_FAIL of an array whose out-of-turn test has ended is handled (R439). -/
def State.chkOver (s : State) (t : Site) (a : ArrIx) : State :=
  { s with fe := { s.fe with busy := s.fe.busy.filter fun b => !(b.1 == t.val && b.2.1 == 1 && b.2.2.array.toNat == a.val) } }

/-- A known-sum test starts on an IDLE array that has one due, while the sequencer is enabled (R47, R434, R435). -/
def execKnownSumTest (t : Site) (a : ArrIx) (s : State) : Res State :=
  .next (
    let c := (s.tile t).ctl a.val
    let count := s.get R.FLT_CTL_TEST != 0 && decide (2 ^ s.get R.FLT_CTL_KS_LOG ≤ c.ksCnt)
    if !(c.st == .idle && c.op.isNone && c.res.isNone && (s.tile t).awake && s.get (R.ASEQ_CTL_ENABLE t.val) == 1 && (!c.due.isEmpty || count) && !s.testHeld t a) then s
    else
      let r := s.nextTest t a
      let s := s.onTile t fun x => x.onCtl a.val fun c => { c with due := r.2 }
      match r.1 with
      | none =>
        if r.2.length < c.due.length ∨ c.due.isEmpty then
          (s.chkOver t a).onTile t fun x => x.onCtl a.val fun c => { c with ksCnt := 0 }
        else s
      | some o =>
        let s := s.enterOp t a 0 (some o) o.plane 0 0 4 (min o.gmax (s.get (R.ASEQ_CTL_GMAX_CAP t.val)))
          (mainPlanes 4 ((List.range 128).map fun r => s.ksCode o.v r)) []
        if o.fleet.isSome ∨ o.rep.isSome then s
        else s.onTile t fun x => x.onCtl a.val fun c => { c with ksVec := (o.v + 1) % 16, ksPlane := o.plane, ksCnt := 0 })

/-- Deviations of a known-sum test in 1/256: the 512 data columns (R436). -/
def dataDevs (w e : List Int) : List Int := (List.range 512).map fun j => 256 * w.getD j 0 - e.getD j 0

/-- Columns of a test that fail: data columns, checksum columns as 520 + k (R436). -/
def ksFails (tol lsb : Nat) (w e : List Int) : List Nat :=
  let d := dataDevs w e
  ((List.range 512).filter fun j => decide ((256 * tol * lsb : Nat) < (d.getD j 0).natAbs)) ++
    ((List.range 4).filter fun k => decide (32 * tol * lsb < (32 * w.getD (520 + k) 0 - e.getD (520 + k) 0).natAbs)).map (520 + ·)

/-- Table 1-9: the weight of row 128 + i in a physical column. -/
def refWeight (i col : Nat) : Int :=
  if i = 0 then 7 else if i = 1 then -8 else if i = 2 then (if col % 2 = 0 then 7 else -8) else ((col % 16 : Nat) : Int) - 8

/-- Columns of a reference-row test that fail, data columns by the physical column they read (R441). -/
def refFails (codes : List Int) (tol : Nat) (spares : List (Option Nat)) (r : TestRes) : List Nat :=
  let want (col : Nat) : Int := ((List.range 4).map fun i => codes.getD i 0 * refWeight i col).sum
  ((List.range 512).filter fun j => decide (tol < (r.w.getD j 0 - want (physOf spares j)).natAbs)) ++
    ((List.range 8).filter fun k => decide (tol < (r.w.getD (512 + k) 0 - want (512 + k)).natAbs)).map (512 + ·) ++
    ((List.range 4).filter fun k => !r.lim.getD (520 + k) false && decide (8 * tol < (r.w.getD (520 + k) 0 - 8 * want (520 + k)).natAbs)).map (520 + ·)

/-- The group of a column named in a failure. -/
def failGroup (c : Nat) : Nat := if c < 512 then c / 128 else if c < 520 then (c - 512) / 2 else c - 520

/-- AUX of a confirmed failure: the attribution of R437 for one group, with the signs of its deviations. -/
def attribCols (g : Nat) (cols : List Nat) (pos : Nat → Bool) : Nat :=
  let data := cols.filter fun c => decide (c < 512)
  if cols.contains (520 + g) then 520 + g + 0xFFFF * 2 ^ 16
  else if 64 < data.length ∧ (data.all pos ∨ data.all fun c => !pos c) then 524 + g + 0xFFFF * 2 ^ 16
  else match data with
    | [c] => c + 0xFFFF * 2 ^ 16
    | [c, d] => c + d * 2 ^ 16
    | _ => 0xFFFF + 0xFFFF * 2 ^ 16

/-- Drift estimates after a test (R438). -/
def State.drift (s : State) (t : Site) (a : ArrIx) (r : TestRes) (d : List Int) : State :=
  let k := (t.val * 64 + a.val) * 2 + r.op.plane.toNat
  let m := (List.range 512).foldl (fun (m : Sparse Rat) j =>
    supd 0 m (k * 512 + j) fun x => x + ((d.getD j 0 : Rat) / 256 / (15 * r.lsb) - x) / 16) s.fe.drift
  let s := { s with fe := { s.fe with drift := m, tests := supd 0 s.fe.tests k (· + 1) } }
  let lim : Rat := (s.get R.REFRESH_CFG_DRIFT_THR : Rat) / 16
  let past := (List.range 512).any fun j => decide (lim < |sget 0 m (k * 512 + j)|)
  match s.logicalOf t.val with
  | some l =>
    let s' := s.queueRefresh l
    if 16 ≤ sget 0 s.fe.tests k ∧ past ∧ s'.ws.queue.length ≠ s.ws.queue.length then s'.bumpEvt R.DRIFT_CNT R.FLT_EVT_DRIFT else s
  | none => s

/-- A test is due as the array's next operation. -/
def State.testNext (s : State) (t : Site) (a : ArrIx) (o : TestOp) : State :=
  s.onTile t fun x => x.onCtl a.val fun c => { c with due := o :: c.due }

/-- A test has been judged: passed, to be repeated, unconfirmed or confirmed (R436, R437, R439, R441). -/
def State.testEnd (s : State) (t : Site) (a : ArrIx) (o : TestOp) (fails : List Nat) (pos : Nat → Bool) : State :=
  let done (s : State) : State := if o.fleet.isNone then s.chkOver t a else s
  match o.rep with
  | none => if fails.isEmpty then done s else s.testNext t a { o with rep := some fails, firstHalf := none }
  | some first =>
    match fails.filter fun c => first.contains c with
    | [] => done ((s.bump R.KS_UNCONF_CNT).onHist t.val fun h => { h with ksUnconf := h.ksUnconf + 1 })
    | c :: rest =>
      let g := failGroup c
      let cols := (c :: rest).filter fun x => failGroup x == g
      let target := match o.fleet, s.cfg.pkg with
        | some i, some p => (p.tests.map fun x => x.target).getD i 0
        | _, _ => min 255 cols.length
      ((done s).bumpEvt R.KS_FAIL_CNT R.FLT_EVT_KS_FAIL).fault (if o.fleet.isSome then 6 else 3) t.val a.val g 0 o.plane target
        (aux := attribCols g cols pos)

/-- The fleet record a test comes from. -/
def State.fleetOf (s : State) (o : TestOp) : Option FleetTest :=
  match o.fleet, s.cfg.pkg with
  | some i, some p => p.tests[i]?
  | _, _ => none

/-- A known-sum or fleet test on the array is judged (R436, R438, R441); one whose EXP read meets an uncorrectable error is discarded (Table 6-5). -/
def execKnownSumTestResult (t : Site) (a : ArrIx) (s : State) : Res State :=
  .next (
    match ((s.tile t).ctl a.val).res with
    | none => s
    | some r =>
      let o := r.op
      let take (s : State) : State := s.onTile t fun x => x.onCtl a.val fun c => { c with res := none }
      match o.codes with
      | some codes =>
        let s := take s
        match s.fleetOf o with
        | none => s
        | some f =>
          let s := s.bump (R.CHK_SKIP_CNT t.val) ((List.range 4).filter fun k => r.lim.getD (520 + k) false).length
          let bad := refFails codes f.tol (s.spares t a) r
          s.testEnd t a o bad fun c => decide (0 < r.w.getD c 0 - (((List.range 4).map fun i => codes.getD i 0 * refWeight i c).sum))
      | none =>
        let slot := (s.physPlane t a o.plane).toNat
        match s.logicalOf t.val with
        | none => take s
        | some l =>
          match s.dmaStackRead (srcAcc 5 false 0xFFFFFFFF .clean) (expAddr slot l a.val o.v 0) 2112 with
          | (_, .wait) => s
          | (s, .err _) => (take s).chkOver t a
          | (s, .bytes bs) =>
            let s := take s
            let e := (List.range 528).map fun j => sxNat 32 (leNat ((bs.drop (4 * j)).take 4))
            let d := dataDevs r.w e
            match o.fleet with
            | none =>
              let s := s.drift t a r d
              s.testEnd t a o (ksFails (s.get R.FLT_KS_KS_TOL) r.lsb r.w e) fun c => decide (0 < d.getD c 0)
            | some _ =>
              match s.fleetOf o, o.firstHalf with
              | some f, none => s.testNext t a { o with v := f.v2, firstHalf := some d }
              | some f, some d1 =>
                let sum (j : Nat) : Int := d1.getD j 0 + d.getD j 0
                let bad := (List.range 512).filter fun j => decide (256 * f.tol < (sum j).natAbs)
                s.testEnd t a { o with v := f.v1 } bad fun c => decide (0 < sum c)
              | none, _ => s)

/-! ### Fleet patterns (R440, R441) -/

/-- The tests of a package for one array, due after `ops` of its operations. -/
def fleetDue (p : FleetPkg) (ops : Nat) : List TestOp :=
  (List.range p.tests.length).flatMap fun i =>
    let f := p.tests.getD i ⟨true, 0, 0, 0, 0, [], 0, 0⟩
    ([false, true].filter fun b => f.planes.testBit b.toNat).map fun b =>
      ⟨some i, f.v1, if f.refrow then some f.codes else none, b, f.gmax, none, none, ops⟩

/-- FLEET_PERIOD has passed while TEST is FLEET: every array has each test of the stored package due (R441). -/
def execFleetTest (s : State) : Res State :=
  .next (
    match s.cfg.pkg with
    | some p =>
      if s.get R.FLT_CTL_TEST < 2 ∨ s.now < s.fe.fleetAt + usTicks (s.get R.FLT_KS_FLEET_PERIOD * 1000000) then s
      else
        { s with fe := { s.fe with fleetAt := s.now } }.each (s.mappedArrays.filter fun (x : Site × ArrIx) => !(s.tile x.1).fenced) fun s x =>
          s.onTile x.1 fun y => y.onCtl x.2.val fun c => { c with due := c.due ++ fleetDue p c.ops }
    | none => s)

/-- A test record of 64 bytes, none when a value is reserved (Table 14-5). -/
def fleetRec (b : List Byte) : Option FleetTest :=
  let n (o k : Nat) : Nat := numAt b o k
  let code (i : Nat) : Int := sxNat 8 (n (4 + i) 1)
  if !(n 0 1 == 1 || n 0 1 == 2) || n 1 1 == 0 || decide (3 < n 1 1) || decide (3 < n 2 1) || decide (3 < n 10 1) || n 10 1 == 0 ||
      (b.drop 11).any (fun x => x != 0) || (n 0 1 == 1 && (List.range 4).any fun i => decide (code i < -8) || decide (7 < code i)) then none
  else some ⟨n 0 1 == 1, n 1 1, n 2 1, n 3 1 % 16, n 3 1 / 16, (List.range 4).map code, n 8 2, n 10 1⟩

/-- A fleet package as R440 lays it out, its signature made with the fleet-signing key of the running image (R464). -/
def State.parseFleet (s : State) (b : List Byte) : Option FleetPkg :=
  let nt := numAt b 12 2
  let recs := (List.range nt).map fun i => fleetRec ((b.drop (64 + 64 * i)).take 64)
  let len := 64 + 64 * nt
  let key := Config.fleetKeyOf (s.image (s.get R.SECU_STAT_IMAGE)).2
  if numAt b 0 2 ≠ 1 ∨ nt = 0 ∨ 256 < nt ∨ b.length ≠ len + 96 ∨ numAt b 2 2 ≠ 0 ∨ (b.take 64).drop 14 ≠ List.replicate 50 0 ∨
      recs.any (fun r => r.isNone) ∨ ecdsaVerify key (sha384 (b.take len)) (b.drop len) = false then none
  else some ⟨numAt b 4 4, numAt b 8 4, recs.filterMap id, b⟩

/-- FLEET_PACKAGE: checked, then stored once its hold-up check passes. -/
def execFleetPackage (c : Cmd) (pkg : List Byte) (s : State) : Res State :=
  .next (s.ringCmd 0x30 c fun s =>
    match (if pkg.length = cf c 128 32 then s.parseFleet pkg else none) with
    | none => s.complete c (.st stINVALID wsMANIFEST)
    | some p =>
      if s.cfg.pkg.any fun q => decide (p.ver ≤ q.ver) then s.complete c (.st stINVALID wsVERSION)
      else s.hold (.fleet (some c) p))

/-! ### Adoption and repair go on (R385, R437, R443) -/

/-- Registers that an adoption copies to the spare's site (R443). -/
def State.copyRegs (s : State) (t u : Nat) : State :=
  let pair (f : Nat → FRef) (s : State) : State := s.put (f u) (s.get (f t))
  let one : List (Nat → FRef) :=
    [R.TILE_CTL_TU_EN, R.SPRET_RET, R.VC_PC_PC, R.QSTALL_LIM_LIMIT, R.ASEQ_CTL_ENABLE, R.ASEQ_CTL_RERUN_EN, R.ASEQ_CTL_CHK_EN,
     R.ASEQ_CTL_GMAX_CAP, R.ASEQ_CTL_CHKTOL, R.ASEQ_CTL_PROG_SHARE]
  let s := s.each one fun s f => pair f s
  let s := s.each (List.range 8) fun s b => pair (fun x => spownF x b) s
  s.each (List.range 32) fun s k => s.each [R.EBAFWD_HOME, R.EBAFWD_HOB, R.EBAFWD] fun s f => pair (fun x => f x k) s

/-- The scratchpad copy to the sector's spare is done, 32,768 cycles after the fence (R443). -/
def execScratchpadCopyComplete (sec : Sector) (s : State) : Res State :=
  .next (
    match s.ws.spares.find? fun x => x.1 / 8 == sec.val && !x.2.2.2 && decide (x.2.1 + 32768 ≤ s.now) with
    | none => s
    | some x =>
      let t := s.siteOf x.1
      let u := spareSite t.val
      let mine := s.sp.filter fun e => e.1 / 2 ^ 21 == t.val
      let sp := mine.foldl (fun (m : Sparse Byte) e => sset 0 m (u.val * 2 ^ 21 + e.1 % 2 ^ 21) e.2) (s.sp.filter fun e => e.1 / 2 ^ 21 != u.val)
      ({ s with sp := sp }.copyRegs t.val u.val).spareStep x.1 false true)

/-- The planes of an adopted spare are programmed (R385). -/
def execSpareProgrammed (l : Fin 256) (s : State) : Res State :=
  .next (
    match s.ws.jobs.find? fun j => j.what == .spare && j.tile == l.val && j.todo.isEmpty && j.batch.isEmpty with
    | none => s
    | some j =>
      let u := spareSite (s.siteOf l.val).val
      let s := s.each (List.finRange 64) fun s a => (s.put (plockF u a false) 0).put (plockF u a true) 0
      let s := { s with ws := { s.ws with jobs := s.ws.jobs.filter fun i => i != j } }
      let s := (s.bumpEvt R.SPARE_PROG_CNT R.WS_EVT_SPARE_DONE).hold .table
      ((s.spareStep l.val true false).spareStart).wantBatch)

/-- The spare is not ready LIM_MS after the fence (R385). -/
def execSpareTime (l : Fin 256) (s : State) : Res State :=
  .next (
    if s.adopting.any fun x => x.1 == l.val && decide (x.2.1 + usTicks (1000 * s.get R.SPARE_CFG_LIM_MS) ≤ s.now) then
      (s.fault 0x18 (s.siteOf l.val).val).deviceFault 5 (s.siteOf l.val).val
    else s)

/-- Every plane of an in-place repair holds its column: the entry becomes valid with its configuration-area write (R437). -/
def execColumnRepairComplete (t : Site) (a : ArrIx) (col : Fin 8) (s : State) : Res State :=
  .next (
    let l := (s.tileFor t).getD 256
    match s.ws.jobs.find? fun j => j.what == .column col.val && j.slot == a.val && j.tile == l && j.todo.isEmpty && j.batch.isEmpty with
    | none => s
    | some j =>
      if (s.ws.jobs.any fun i => i.what == .refresh && i.tile == l) || !s.fe.repairs.contains (t.val, a.val, col.val) then s
      else { s with ws := { s.ws with jobs := s.ws.jobs.filter fun i => i != j } }.hold (.entry t.val a.val col.val))

/-! ### Stalls (R446) -/

/-- A block has stayed OPEN for EBA_LIM: EBA_STALL, and its time starts again. -/
def execEbaStall (t : Site) (b : Fin 32) (s : State) : Res State :=
  .next (
    let k := (s.tile t).blk b.val
    if k.opn ∧ k.since + usTicks (s.get R.FLT_CTL_EBA_LIM) ≤ s.now then
      (s.onTile t fun x => x.onBlk b.val fun k => { k with since := s.now }).fault 0x0B t.val (detail := b.val)
    else s)

/-! ### Hardened registers (R450, R451) -/

/-- A register of Table 14-6. -/
def isTmr (off : Nat) : Bool :=
  if 0x2000000 ≤ off then
    let o := off % 0x10000
    o == 0x10 || o == 0x2028 || o == 0x202C || (decide (0x3000 ≤ o) && decide (o < 0x3080)) || (decide (0x4000 ≤ o) && decide (o < 0x4400)) ||
      (decide (0x8000 ≤ o) && decide (o < 0xA000) && (o % 0x80 == 0 || o % 0x80 == 8 || o % 0x80 == 0xC || o % 0x80 == 0x10))
  else
    (decide (0x1000 ≤ off) && decide (off < 0x1400)) || (decide (0x4100 ≤ off) && decide (off < 0x4900)) || (decide (0x5000 ≤ off) && decide (off < 0x5010)) ||
      off == 0xA000 || (decide (0x1000000 ≤ off) && off % 0x10000 == 0x4200) || off == 0x200024 || off == 0x100004

/-- The tile site of an offset. -/
def offSite (off : Nat) : Nat := (off - 0x2000000) / 0x10000

/-- A copy of a hardened register differs: corrected, or, when all three differ, read as copy 0 and reported (R450). -/
def execTmrUpset (r : RegCopy) (s : State) : Res State :=
  .next (
    if !isTmr r.off ∨ 0x3200000 ≤ r.off then s
    else if !r.allDiffer then s.bumpEvt R.TMR_CORR_CNT R.FLT_EVT_TMR_CORR
    else
      let s := s.readCopy0 r.off r.copy0.toNat
      if 0x2000000 ≤ r.off then s.fault 0x09 (offSite r.off) (aux := r.off) else s.fault 0x0C 0x1FF (aux := r.off))

/-- The scrubber reads a register outside Table 14-6: a parity error is counted and reported, a counter set to zero, any other register rewritten from its shadow (R451). -/
def execParityScrub (off : Nat) (bad : Bool) (s : State) : Res State :=
  .next (
    if !bad ∨ isTmr off ∨ (regFind off regTable).isNone then s
    else
      let s := (s.bump R.PARITY_CNT).zero (ctrWord off)
      if 0x2000000 ≤ off then s.fault 0x09 (offSite off) (aux := off) else s.fault 0x0D 0x1FF (aux := off))

/-! ### Powered seconds and histories (R431, R432) -/

/-- Once per powered hour POWERED_S is stored (R432). -/
def execPoweredSStore (s : State) : Res State := .next (if s.cfg.powered + 3600 ≤ s.powered then s.hold .powered else s)

/-- The last confirmed failure of a SUSPECT site has aged past 24 hours (R431). -/
def execSuspectExpiry (t : Site) (s : State) : Res State :=
  .next (
    let h := s.histOf t.val
    if h.status = 1 ∧ (h.judge s.powered).status = 0 then s.onHist t.val fun h => { h with status := 0 } else s)

end Sys2Proof.Machine
end

