-- ==== Sys2Proof/Machine/Sensors.lean ====
section
/-! DEFINITION. PLDM sensors: their readings, and the events of their changes (R473, R474). -/

namespace Sys2Proof.Machine

open Sys2Proof

/-- A register of the housekeeping block as a signed number. -/
def State.hkVal (s : State) (ch : Nat) : Int := sxNat 32 (s.get (R.VAL ch))

/-- The highest wear count of any plane (R387). -/
def State.topWear (s : State) : Nat :=
  s.regs.foldl (fun m e => if 0x900000 ≤ e.1 / 256 ∧ e.1 / 256 < 0x912000 then max m e.2 else m) 0

/-- Directions in use that are not FULL (Table 9-10). -/
def State.notFull (s : State) : Nat := ((List.range 7).filter fun d => s.dirState d ≠ 0 && s.dirState d ≠ 1).length

/-- What a sensor shows now, in the unit of the register it is taken from; none for a number that Table 15-6 does not list. Sensor 0x000C has its last reading. -/
def State.sensorNow (s : State) (id : Nat) : Option Int :=
  if id = 1 then some (s.get R.STATE_STATE)
  else if id = 2 then some (s.get R.PWR_STAT_POWER_W)
  else if id = 3 then some (sxNat 16 (s.get R.THERM_STAT_TJ_MAX))
  else if id = 4 then some (sxNat 16 (s.get R.THERM_STAT_TS_MAX))
  else if id = 5 then some (sxNat 16 (s.get R.THERM_STAT_RATE_MAX))
  else if id = 6 then some (s.get R.PWR_STAT_PSTATE)
  else if id = 7 then some (s.get R.THERM_STAT_LC_MISMATCH)
  else if id = 8 then some s.notFull
  else if id = 9 then some ((List.range 256).map fun l => s.get (R.REMAP_ADOPTED l)).sum
  else if id = 0xA then some ((List.range 32).map fun n => s.get (R.UE_CNT n) + s.get (R.SCRUB_UE n)).sum
  else if id = 0xB then some s.topWear
  else if id = 0xC then some (sget 0 s.secu.sens 0xC)
  else if id = 0xD then some (s.get R.CLAMP_HEAD_TOTAL)
  else if id = 0xE then some (s.get R.FLT_CAUSE_CAUSE)
  else if 0x100 ≤ id ∧ id < 0x120 then some (s.hkVal (id - 0x100))
  else if 0x200 ≤ id ∧ id < 0x208 then some (s.hkVal (32 + id - 0x200))
  else if 0x300 ≤ id ∧ id < 0x306 then some (s.hkVal (40 + id - 0x300))
  else none

/-- The sensors of Table 15-6. -/
def sensorIds : List Nat := (List.range 14).map (· + 1) ++ (List.range 32).map (0x100 + ·) ++ (List.range 8).map (0x200 + ·) ++ (List.range 6).map (0x300 + ·)

/-- Upper warning, critical and fatal thresholds of a temperature sensor, in 1/16 °C (R474, Table 13-8); none for another sensor. -/
def State.thresholds (s : State) (id : Nat) : List Int :=
  if id = 4 then [16 * s.get R.THERM_CFG_SWARN, 16 * s.get R.THERM_CFG_SSTOP, 1520]
  else if id = 3 ∨ (0x100 ≤ id ∧ id < 0x208) then [16 * s.get R.THERM_CFG_JWARN, 16 * s.get R.THERM_CFG_JSTOP, 1680]
  else []

/-- A sensor takes its reading of this round, with an event for each threshold crossed. -/
def State.sensorTake (s : State) (id : Nat) : State :=
  let old := sget 0 s.secu.sens id
  let v := (s.sensorNow id).getD 0
  let crossed := (s.thresholds id).filter fun t => decide (t ≤ old) != decide (t ≤ v)
  { s with secu := { s.secu with sens := sset 0 s.secu.sens id v } }.each crossed fun s _ => s.pldmEvent id v

/-- Every sensor is updated, once per slow round; the tokens of a second are counted when it is over (R473). -/
def State.sensors (s : State) : State :=
  let s := if s.secu.tokAt + usTicks 1000000 ≤ s.now then
      { s with secu := { s.secu with sens := sset 0 s.secu.sens 0xC ((s.get R.TOKEN_CNT - s.secu.tokBase : Nat) : Int), tokBase := s.get R.TOKEN_CNT
                                     tokAt := s.now } }
    else s
  s.each (sensorIds.filter fun id => id ≠ 0xC) fun s id => s.sensorTake id

end Sys2Proof.Machine
end

