-- ==== Sys2Proof/Machine/Power.lean ====
section
/-! DEFINITION. Power, clocks, sensing and calibration (R188, R314, R390 to R423, R490). -/

namespace Sys2Proof.Machine

open Sys2Proof

/-- Ticks in `n` milliseconds. -/
def msTicks (n : Nat) : Nat := usTicks (1000 * n)

/-! ### Profiles and voltages (R392, R393, R415) -/

/-- A warning stands (R415). -/
def State.warned (s : State) : Bool :=
  s.get R.THERM_STAT_JWARN == 1 || s.get R.THERM_STAT_SWARN == 1 || s.get R.THERM_STAT_RWARN == 1

/-- The point the wanted profile asks for: BOOST is held at NOMINAL while a warning stands (R415). -/
def State.point (s : State) : Nat := if s.pw.want = 0 ∧ s.warned then 1 else s.pw.want

/-- VDD_CORE guard and VDD_SRAM of a point, in mV (Table 13-2). -/
def guardMv (p : Nat) : Nat := if p = 0 then 60 else if p = 1 then 30 else 10
/-- VDD_SRAM. -/
def sramMv (p : Nat) : Nat := if p = 0 then 800 else if p = 1 then 750 else 650

/-- Body bias, read assist and write assist of a point (Table 13-2). -/
def State.biasTo (s : State) (p : Nat) : State := s.emit (.bias (if p = 0 then 100 else 0) (p == 2) (p == 2))

/-- The voltages go from point `q` to point `p`: VDD_CORE by the difference of the guards, VDD_SRAM to its set point; in P2 and P3 they stay at those of Table 13-1 (R392, R393). -/
def State.voltsTo (s : State) (q p : Nat) : State :=
  let core := clampNat 600 900 (s.pw.coreMv + guardMv p - guardMv q)
  let s := { s with pw := { s.pw with coreMv := core } }
  if 2 ≤ s.get R.STATE_PSTATE then s else (s.emit (.avs 0 core)).emit (.avs 1 (sramMv p))

/-- A change of profile to `p` begins: the voltages come first when the profile rises, bias and assist when it falls (R393). -/
def State.changeBegin (s : State) (p : Nat) : State :=
  let q := s.get R.PWR_STAT_PROFILE
  let s := { s with pw := { s.pw with changing := some (p, s.now) } }
  if p < q then s.voltsTo q p else s.biasTo p

/-- A change of profile to `p` is given up: what it has begun with goes back. -/
def State.changeUndo (s : State) (p : Nat) : State :=
  let q := s.get R.PWR_STAT_PROFILE
  let s := { s with pw := { s.pw with changing := none } }
  if p < q then s.voltsTo p q else s.biasTo q

/-- The profile follows what is wanted and held: a change begins when it differs from the point in force (R393). -/
def State.follow (s : State) : State :=
  let p := s.point
  let s := s.put R.MODE_STAT_PROFILE_HELD (decide (p ≠ s.pw.want)).toNat
  if s.pw.changing.any fun c => c.1 == p then s
  else
    let s := match s.pw.changing with | some c => s.changeUndo c.1 | none => s
    if p = s.get R.PWR_STAT_PROFILE then s else s.changeBegin p

/-- A POWER_STATE that waits completes once its state and point are reached (R314, R398). -/
def State.powerDone (s : State) : State :=
  match s.pw.cmd with
  | some c =>
    if s.get R.STATE_PSTATE = 0 ∧ s.pw.wake.isNone ∧ s.pw.changing.isNone then
      { s with pw := { s.pw with cmd := none } }.complete c { Done.st stDONE 0 with clamped := cf c 66 2 == 3 }
    else s
  | none => s

/-- A profile change is in place: bias and assist follow the voltages of a rise, the voltages follow the bias of a fall (R393). -/
def execProfileChangeComplete (s : State) : Res State :=
  .next (
    match s.pw.changing with
    | none => s
    | some (p, _) =>
      let q := s.get R.PWR_STAT_PROFILE
      let s := ({ s with pw := { s.pw with changing := none } }.put R.PWR_STAT_PROFILE p).bump R.PROFILE_CHG_CNT
      (if p < q then s.biasTo p else s.voltsTo q p).powerDone)

/-- Firmware sets the VDD_CORE target: the highest reading and the guard, in 5 mV steps, within 0.60 V to 0.90 V, by at most 10 mV (R391, R392). -/
def execVddCoreTargetUpdate (mv : List Nat) (s : State) : Res State :=
  .next (
    if mv.length ≠ 32 ∨ s.get R.STATE_STEP < 5 ∨ 3 ≤ s.get R.STATE_PSTATE then s
    else
      let want := clampNat 600 900 ((mv.foldl max 0 + guardMv (s.get R.PWR_STAT_PROFILE) + 4) / 5 * 5)
      let new := clampNat (s.pw.coreMv - 10) (s.pw.coreMv + 10) want
      if new = s.pw.coreMv then s else { s with pw := { s.pw with coreMv := new } }.emit (.avs 0 new))

/-- The energy estimates scaled so that their sum over the last millisecond is the energy VDD_CORE, VDD_SRAM and VDD_ARR took, 1 mW for 1 ms being 10^6 pJ (R404); a millisecond without an estimate leaves the scale (DESIGN CHOICE, log entry 85). -/
def State.rescale (s : State) (mw : List Nat) : State :=
  let measured := 1000000 * (mw.getD 1 0 + mw.getD 2 0 + mw.getD 4 0)
  { s with pw := { s.pw with scale := if s.pw.spent = 0 then s.pw.scale else (measured, s.pw.spent), spent := 0 } }

/-- The powers of the nine rails over the last millisecond, in mW, in the order of Table 13-1 (R391); the gate's estimates are scaled to them (R404). -/
def execRailTelemetry (mw : List Nat) (s : State) : Res State :=
  .next (
    if mw.length ≠ 9 then s
    else ({ s with pw := { s.pw with mw := mw, pkg := (mw.sum :: s.pw.pkg).take 100 } }.put R.PWR_STAT_POWER_W (min 1023 (mw.sum / 1000))).rescale mw)

/-! ### The budget (R403, R405 to R407) -/

/-- The fixed share F in mW: MEM, CTL, PHY, IO and AON, and PROG while the weight store programs (R403). -/
def State.fixedMw (s : State) : Nat :=
  let r (i : Nat) : Nat := s.pw.mw.getD i 0
  r 0 + r 3 + r 6 + r 7 + r 8 + (if s.board.progEn then r 5 else 0)

/-- One period of the budget manager: pool, base, cut, lending; `want` are the sites that asked for more than their allowance (R403, R405 to R407). -/
def execBudgetPeriod (want : List Site) (s : State) : Res State :=
  .next (
    let budget := 1000 * s.get R.BUDGET_BUDGET_W
    let pkg := s.pw.mw.sum
    let above := decide (100 * pkg > 102 * budget) || (s.pw.overB && decide (budget < pkg))
    let cut := if above then min 100 (s.pw.cut + 5) else s.pw.cut - 1
    let pool := budget - s.fixedMw
    let base := pool * (100 - cut) / 100 / 256
    let s := if above then s.bumpEvt R.OVER_CNT R.PWR_EVT_OVER else s
    let s := { s with pw := { s.pw with pool := pool, base := base, cut := cut, overB := above, lent := [] } }
    if s.lendFrozen then s
    else
      let sites := (List.range 256).map s.siteOf
      let parked := sites.filter fun t => (s.tile t).pstate == 1
      let keep := min base (s.get R.LEND_CFG_P1_MW)
      let borrow := sites.filter fun t => (s.tile t).pstate == 0 && want.contains t
      let share := if borrow.isEmpty then 0 else parked.length * (base - keep) / borrow.length
      let give (s : State) (t : Site) (v : Nat) : State := { s with pw := { s.pw with lent := sset 0 s.pw.lent t.val (v + 1) } }
      (s.each parked fun s t => give s t keep).each borrow fun s t =>
        give s t (min (base + share) (max base (base * s.get R.LEND_CFG_LEND_MAX / 100))))

/-! ### Droops (R394, R411) -/

/-- An entry of the housekeeping buffer, or its discard when the buffer is full (R410, Table 13-7). -/
def State.hkEntry (s : State) (ch flags : Nat) (v : Int) : State :=
  let size := 2 ^ s.get R.BUF_CFG_LOG2
  let wp := s.get R.BUF_WP_WP
  let next := (wp + 1) % size
  if s.get R.HK_CTL_DMA_EN = 0 then s
  else if next = s.get R.BUF_RP_RP % size then s.bump R.HK_DROP_CNT
  else
    let port := if s.get R.BUF_CFG_SPACE = 1 then 2 else 0
    let bytes := leBytes 8 s.tm.time ++ leBytes 1 ch ++ leBytes 1 flags ++ leBytes 2 0 ++ leBytes 4 (unsx 32 v)
    (s.emit (.hostWrite port (64 * s.get R.BUF_BASE_ADDR + 16 * wp) bytes)).put R.BUF_WP_WP next

/-- A droop capture begins if one is armed and none has run in this round (R411). -/
def State.capture (s : State) : State :=
  if s.get R.DROOP_CTL_ARM = 1 ∧ s.pw.cap.isNone ∧ !s.pw.capd then { s with pw := { s.pw with cap := some s.now, capd := true } } else s

/-- A sector's droop detector fires (R394, R411). -/
def execDroop (sec : Sector) (s : State) : Res State :=
  .next (
    let s := (s.bumpEvt R.DROOP_CNT R.PWR_EVT_DROOP).onSec sec.val fun c => { c with droop := true }
    let s := { s with pw := { s.pw with droopAt := sset 0 s.pw.droopAt sec.val (s.now + 1) } }
    if s.get R.DROOP_CTL_TRIG_ANY = 1 ∨ s.get R.DROOP_CTL_SECTOR = sec.val then s.capture else s)

/-- 1 µs after its last firing the sector's clock runs at full rate (R394). -/
def execDroopEnd (sec : Sector) (s : State) : Res State :=
  .next (if sget 0 s.pw.droopAt sec.val + usTicks 1 ≤ s.now + 1 then s.onSec sec.val fun c => { c with droop := false } else s)

/-- A write of HK.DROOP_CTL, beyond its fields: FORCE starts an armed capture (R411). -/
def State.droopCtl (s : State) (v : Nat) : State := if bits v 7 1 = 1 then s.capture else s

/-- Write of HK.DROOP_CTL. -/
def execDroopCtlWrite (src : Partner) (v : BitVec 32) (s : State) : Res State :=
  .next (s.barWrite src 0x200020 4 v.toNat fun _ w s => s.droopCtl w)

/-- A capture ends: its LEN + 1 samples go to the buffer (R410, R411). -/
def execDroopCaptureEnd (samples : List Int) (s : State) : Res State :=
  .next (
    if s.pw.cap.isNone ∨ samples.length ≠ s.get R.DROOP_CTL_LEN + 1 then s
    else
      let ch := s.get R.DROOP_CTL_CH
      let s := s.each samples fun s v => s.hkEntry ch 1 v
      ({ s with pw := { s.pw with cap := none } }.put R.DROOP_CTL_ARM 0).bump R.CAPTURE_CNT)

/-! ### Power states (R190, R314, R397 to R399) -/

/-- A site that holds no logical tile: an unadopted spare, or one retired (R398). -/
def State.unmapped (s : State) (t : Site) : Bool := (s.logicalOf t.val).isNone

/-- The device enters P2 or P3, its rails at the set points of Table 13-1 (R190, R390, R397). -/
def State.enterLow (s : State) (p : Nat) : State :=
  let s := s.each (List.finRange 288) fun s t => s.tileToP2 t
  let was3 := s.get R.STATE_PSTATE == 3
  let s := ({ s with pw := { s.pw with wake := none } }.setPstate p).emit (.avs 1 500)
  let s := if p = 3 then
      ((s.each (List.range 32) fun s n =>
        if s.get (R.MC_STAT_STATE n) = mcREADY then (s.put (R.MC_STAT_STATE n) mcSELFREF).onSec n fun c => { c with srAt := some s.now } else s).emit
        (.avs 0 550)).emit (.avs 2 700)
    else if was3 then (s.emit (.avs 0 s.pw.coreMv)).emit (.avs 2 750)
    else s
  s.serveJudge

/-- Stacks leave self refresh and serve what they held (R190). -/
def State.stacksBack (s : State) : State :=
  s.each (List.range 32) fun s n => if s.get (R.MC_STAT_STATE n) = mcSELFREF then (s.put (R.MC_STAT_STATE n) mcREADY).stackRelease n else s

/-- A wake begins: VDD_CORE ramps from the P3 level, the other rails return, stacks leave self refresh, then sectors follow (R390, R399). -/
def State.wakeBegin (s : State) : State :=
  let ramp := if s.get R.STATE_PSTATE = 3 then usTicks ((s.pw.coreMv - 550 + 4) / 5) else 0
  let s := if s.get R.STATE_PSTATE = 3 then ((s.emit (.avs 0 s.pw.coreMv)).emit (.avs 2 750)).stacksBack else s
  let s := s.emit (.avs 1 (sramMv (s.get R.PWR_STAT_PROFILE)))
  { s with pw := { s.pw with wake := some (0, s.now + ramp) } }

/-- The tiles of a sector leave P2; a spare that holds no logical tile stays (R398, R399). -/
def State.sectorUp (s : State) (n : Nat) : State :=
  s.each ((List.range 9).map fun p => (Fin.ofNat 288 (9 * n + p) : Site)) fun s t => if s.unmapped t then s else s.tileFromP2 t

/-- Sector `sec` leaves P2, 2 µs times its index after the ramp (R399). -/
def execSectorWake (sec : Sector) (s : State) : Res State :=
  .next (
    match s.pw.wake with
    | some (n, t0) =>
      if n = sec.val ∧ t0 + usTicks (2 * n) ≤ s.now then { s with pw := { s.pw with wake := some (n + 1, t0) } }.sectorUp n else s
    | none => s)

/-- The device is back in P0 2 µs after sector 31 (R399). -/
def State.wakeEnd (s : State) : State :=
  match s.pw.wake with
  | some (n, t0) =>
    if 32 ≤ n ∧ t0 + usTicks 64 ≤ s.now then ({ s with pw := { s.pw with wake := none } }.setPstate 0).serveJudge.powerDone else s
  | none => s

/-- POWER_STATE: refused, begun, or its state entered; nothing while it waits, for another in progress or until every tile is idle (R314, R398). -/
def State.powerCmd (s : State) (c : Cmd) : Option State :=
  let target := cf c 64 2
  let asked := cf c 66 2
  let prof := if asked = 3 then 1 else asked
  let log (s : State) : State := if asked = 3 then s.ringLog c .subst 66 2 3 1 else s
  let fail (st rs : Nat) : Option State := some ((log s).complete c { Done.st st rs with clamped := asked == 3 })
  if s.pw.cmd.isSome then none
  else if target = 1 ∨ s.get R.STATE_STATE ≠ devREADY ∨ s.pw.stopAt.isSome ∨ s.pw.cal.isSome then fail stINVALID 4
  else if target = 0 then
    let s := ({ log s with pw := { (log s).pw with want := prof, cmd := some c } }).follow
    some (if s.get R.STATE_PSTATE = 0 ∧ s.pw.wake.isNone then s.powerDone else if s.pw.wake.isSome then s else s.wakeBegin)
  else if s.admittedAny then fail stBUSY 1
  else if !(List.finRange 288).all fun t => s.tileIdle t then none
  else
    let s := ({ log s with pw := { (log s).pw with want := prof } }).follow
    let s := if s.get R.STATE_PSTATE = 3 ∧ target = 2 then s.stacksBack else s
    some ((s.enterLow target).complete c { Done.st stDONE 0 with clamped := asked == 3 })

/-- POWER_STATE. -/
def execPowerState (c : Cmd) (s : State) : Res State := .next (s.ringCmdW 0x06 c fun s => s.powerCmd c)

/-- Enara firmware places an idle tile in P2 (R398). -/
def execTileP2Entry (t : Site) (s : State) : Res State :=
  .next (if s.tileIdle t ∧ (s.tile t).pstate ≠ 2 then s.tileToP2 t else s)

/-- Enara firmware brings a tile out of P2 while the device is in P0 (R397). -/
def execTileP2Exit (t : Site) (s : State) : Res State := .next (if s.get R.STATE_PSTATE = 0 then s.tileFromP2 t else s)

/-! ### Calibration (R418 to R423) -/

/-- The calibration run in progress ends with a result code (R423). -/
def State.calEnd (s : State) (code sector : Nat) : State :=
  match s.pw.cal with
  | none => s
  | some _ =>
    let s := { s with pw := { s.pw with cal := none }, hu := s.hu.filter fun (e : HuItem × Nat × Nat) => e.1 != HuItem.cal }
    (((s.put R.CAL_STAT_STATE 2).put R.CAL_STAT_RESULT code).put R.CAL_STAT_SECTOR sector).serveJudge

/-- The latest temperature of sector `n`, in 1/16 °C. -/
def State.sectorTemp (s : State) (n : Nat) : Int := sxNat 32 (s.get (R.VAL n))

/-- The result code that the conditions of a run give, 0 when all hold, and the first sector out of range (R423). -/
def State.calCheck (s : State) (sectors point : Nat) : Nat × Nat :=
  let nominal : Int := 400 + 320 * point
  if s.get R.STATE_STATE ≠ devREADY ∨ s.get R.STATE_PSTATE ≠ 0 ∨ s.admittedAny ∨ !s.ws.jobs.isEmpty ∨ s.ws.load.isSome then (3, 0)
  else if s.get R.HK_STAT_VREF_PRESENT = 0 then (1, 0)
  else match (List.range 32).find? fun n => sectors.testBit n && decide (80 < (s.sectorTemp n - nominal).natAbs) with
    | some n => (2, n)
    | none => (0, 0)

/-- A write of PWR.CAL_CTL with GO starts a run, or ends it at once with its result code (R423). -/
def State.calGo (s : State) (v : Nat) : State :=
  if bits v 35 1 = 0 ∨ s.pw.cal.isSome then s
  else
    let sectors := s.get R.CAL_CTL_SECTORS
    let point := s.get R.CAL_CTL_POINT
    let r := if s.pw.stopAt.isSome then (3, 0) else s.calCheck sectors point
    let s := { s with pw := { s.pw with cal := some ⟨s.now, sectors, point⟩ } }
    if r.1 ≠ 0 then s.calEnd r.1 r.2
    else ((s.put R.CAL_STAT_STATE 1).put R.CAL_STAT_RESULT 0).serveJudge

/-- Write of PWR.CAL_CTL. -/
def execCalCtlGo (src : Partner) (v : BitVec 64) (s : State) : Res State :=
  .next (s.barWrite src 0x100020 8 v.toNat fun _ w s => s.calGo w)

/-- A run has measured its point: its sets wait for their hold-up check (R418, R423). -/
def execCalibrationRunComplete (s : State) : Res State :=
  .next (
    match s.pw.cal with
    | none => s
    | some r =>
      let c := s.calCheck r.sectors r.point
      if c.1 ≠ 0 then s.calEnd c.1 c.2 else s.hold .cal)

/-- A run succeeds: every named set is written in the copy not in use, the pointers switch, trim stores and GCORR follow, the tiles are queued for refresh (R418, R419, R423). -/
def State.calDone (s : State) : State :=
  match s.pw.cal with
  | none => s
  | some r =>
    let run := s.free
    let s := s.draw
    let g := Config.calGcorr run
    let s := s.each ((List.range 32).filter fun n => r.sectors.testBit n) fun s n =>
      let c := s.calSet n
      let c : CalSet := { c with seq := c.seq + 1, tcap := setAt c.tcap r.point (s.sectorTemp n), lclass := setAt c.lclass r.point (s.get R.THERM_STAT_LCLASS)
                                 src := setAt c.src r.point (some run), gcorr := g }
      let i := 1 - sget 0 s.cfg.use n
      let s := { s with cfg := { s.cfg with cal := sset CalSet.init s.cfg.cal (2 * n + i) c, use := sset 0 s.cfg.use n i }
                        pw := { s.pw with trims := sset none s.pw.trims n (some c) } }
      s.each ((List.range 8).map (8 * n + ·)) fun s l => s.queueRefresh l
    let s := ({ s with cfg := { s.cfg with gcorr := g } }.put R.GCORR_GCORR (unsx 16 g)).bumpEvt R.CAL_RUN_CNT R.PWR_EVT_CAL_DONE
    s.calEnd 0 0

/-- K and F of CAL_W for a temperature in 1/16 °C (R420). -/
def calWeights (t : Int) : Nat × Nat :=
  let k := (clampInt 0 3 (Int.fdiv (t - 400) 320)).toNat
  let n := clampInt 0 320 (t - 400 - 320 * k)
  let m := 256 * n
  let q := Int.fdiv m 320
  let r := m - 320 * q
  (k, (if 2 * r < 320 ∨ (2 * r = 320 ∧ q % 2 = 0) then q else q + 1).toNat)

/-- CAL_W of a sector written for temperature `t` (R420, R421). -/
def State.setCalW (s : State) (n : Nat) (t : Int) : State :=
  let w := calWeights t
  { s with pw := { s.pw with calT := sset 0 s.pw.calT n t } }.put (R.CAL_W_K n) w.1 |>.put (R.CAL_W_F n) w.2

/-- The load class of the 100 ms mean package power, in mW (R422). -/
def loadClass (mw : Nat) : Nat := if mw < 380000 then 0 else if mw < 665000 then 1 else 2

/-- The calibration point nearer to a temperature in 1/16 °C; the lower of two equally near (R422). -/
def nearPoint (t : Int) : Nat :=
  (List.range 5).foldl (fun (b k : Nat) => if (t - (400 + 320 * (k : Int))).natAbs < (t - (400 + 320 * (b : Int))).natAbs then k else b) 0

/-- The load class compared with each sector's nearer point (R422). -/
def execLoadClassCheck (s : State) : Res State :=
  .next (
    if s.pw.pkg.isEmpty then s
    else
      let cls := loadClass (s.pw.pkg.sum / s.pw.pkg.length)
      let bad := (List.range 32).filter fun n => (s.calSet n).lclass.getD (nearPoint (s.sectorTemp n)) 0 != cls
      let new := (bad.filter fun n => !s.pw.lcBad.contains n).length
      let s := { s with pw := { s.pw with lcBad := bad } }
      let s := if s.get R.THERM_STAT_LC_MISMATCH = (!bad.isEmpty).toNat then s else s.pldmEvent 7 (!bad.isEmpty).toNat
      ((s.put R.THERM_STAT_LCLASS cls).put R.THERM_STAT_LC_MISMATCH (!bad.isEmpty).toNat).bumpEvt R.LC_MISMATCH_CNT R.PWR_EVT_LOADCLASS_MISMATCH new)

/-! ### Thermal protection (R188, R414 to R417) -/

/-- The orderly stop ends: requests end THERMAL, prefix handles are released (R320), programming and a calibration run stop, the device enters P3 and FAULT (R416). -/
def State.stopEnd (s : State) : State :=
  let s := (s.endAll stFAULT 0x17).stopServing.loadFail wsPEER
  let s := s.each s.ws.jobs fun s j => s.dropJob j
  let s := (s.calEnd 5 0).hold .powered
  let s := (s.fault 0x17 0x1FF).put R.PWR_STAT_STOPPED 1
  ({ s with pw := { s.pw with stopAt := none } }.enterLow 3).deviceFault 9 0x1FF

/-- A stop goes on once no micro-batch is in flight (R416). -/
def State.stopCheck (s : State) : State :=
  if s.pw.stopAt.isSome ∧ !s.serve.mbs.any fun e => e.2.launched.isSome then s.stopEnd else s

/-- A stop threshold is crossed (R416). -/
def State.stopBegin (s : State) : State :=
  if s.pw.stopAt.isSome ∨ s.get R.PWR_STAT_STOPPED = 1 ∨ s.get R.STATE_STATE = devFAULT then s
  else
    let s := { s with pw := { s.pw with stopAt := some s.now }, serve := { s.serve with was := false } }
    (((s.bumpEvt R.STOP_CNT R.PWR_EVT_STOP).hevt 4).emit (.alert "stop")).stopCheck

/-- STOP_LIM has passed since the stop began (R416). -/
def execStopLim (s : State) : Res State :=
  .next (
    match s.pw.stopAt with
    | some t => if t + msTicks (s.get R.THERM_CFG_STOP_LIM) ≤ s.now then s.stopEnd else s
    | none => s)

/-- A micro-batch passes its commit point (R327); a stop may have waited for it (R416). -/
def execCommitPoint (m : Fin 64) (rows : List RowResult) (s : State) : Res State := .next (s.commitPoint m rows).stopCheck

/-- A micro-batch not committed in time is abandoned (R327); a stop may have waited for it (R416). -/
def execOrbitTo (m : Fin 64) (s : State) : Res State := .next (s.orbitTo m).stopCheck

/-- One kind of warning crossed: its flag, counter, events and alert (R415). -/
def State.warn (s : State) (flag evt : FRef) (what : String) (hot : Bool) : State :=
  if hot && s.get flag == 0 then (((s.put flag 1).bump R.WARN_CNT).set1 evt |>.hevt 4).emit (.alert what) else s

/-- The sum of eight results of sensor `i` of the history, `from_` rounds back from the newest. -/
def sum8 (h : List (List Int)) (from_ i : Nat) : Int := (((h.drop from_).take 8).map fun l => l.getD i 0).sum

/-- The rate of rise of sensor `i` times 2, in 1/16 °C/s times 2: 5 * (newest 8 - the 8 that ended 50 ms earlier) (R414). -/
def rate2 (h : List (List Int)) (i : Nat) : Int := if h.length < 58 then 0 else 5 * (sum8 h 0 i - sum8 h 50 i)

/-- Warn and stop thresholds applied to the newest results (R414 to R416). -/
def State.thermal (s : State) : State :=
  let now := s.pw.hist.headD []
  let tj := now.take 40
  let ts := now.drop 40
  let rates := (List.range 72).map (rate2 s.pw.hist)
  let any (l : List Int) (lim : Int) : Bool := l.any fun v => decide (lim ≤ v)
  let top (l : List Int) : Int := l.foldl max (l.headD 0)
  let g (f : FRef) : Int := s.get f
  let cool := !any tj (16 * (g R.THERM_CFG_JWARN - 3) + 1) && !any ts (16 * (g R.THERM_CFG_SWARN - 3) + 1) && !any rates (32 * g R.THERM_CFG_RWARN)
  let calm := if cool then (match s.pw.calm with | some c => some c | none => some s.now) else none
  let s0 := s
  let s := { s with pw := { s.pw with calm := calm } }
  let s := ((s.put R.THERM_STAT_TJ_MAX (unsx 16 (top tj))).put R.THERM_STAT_TS_MAX (unsx 16 (top ts))).put R.THERM_STAT_RATE_MAX
    (unsx 16 (clampInt (-32768) 32767 (Int.fdiv (top rates) 2)))
  let s := s.warn R.THERM_STAT_JWARN R.PWR_EVT_JWARN "warn" (any tj (16 * (s0.get R.THERM_CFG_JWARN : Int)))
  let s := s.warn R.THERM_STAT_SWARN R.PWR_EVT_SWARN "warn" (any ts (16 * (s0.get R.THERM_CFG_SWARN : Int)))
  let s := s.warn R.THERM_STAT_RWARN R.PWR_EVT_RWARN "warn" (any rates (32 * (s0.get R.THERM_CFG_RWARN : Int)))
  let s := s.follow
  if any tj (16 * (s0.get R.THERM_CFG_JSTOP : Int)) || any ts (16 * (s0.get R.THERM_CFG_SSTOP : Int)) || any rates (32 * (s0.get R.THERM_CFG_RSTOP : Int)) then
    s.stopBegin
  else s

/-- Every sensor has stayed 3 °C below its threshold, or below its rate, for 100 ms: the warnings clear and BOOST resumes (R415). -/
def execWarnClear (s : State) : Res State :=
  .next (
    match s.pw.calm with
    | some c =>
      if s.warned ∧ c + msTicks 100 ≤ s.now then
        (((s.put R.THERM_STAT_JWARN 0).put R.THERM_STAT_SWARN 0).put R.THERM_STAT_RWARN 0).follow
      else s
    | none => s)

/-- A slow round: results of the 48 channels, and the 16 samples of the hold-up pin in mV (R408 to R417, R421, R423). -/
def execSlowRound (vals : List Int) (histMv : List Nat) (s : State) : Res State :=
  .next (
    if vals.length ≠ 48 ∨ s.get R.HK_CTL_EN = 0 ∨ s.get R.STATE_STEP < 4 then s
    else
      let div := s.get R.HU_DIV_RATIO
      let res (i : Nat) : Int := if i = 46 then Int.fdiv (vals.getD 46 0 * div) 1000 else vals.getD i 0
      let s := s.each (List.range 48) fun s i => (s.put (R.VAL i) (unsx 32 (res i))).hkEntry i 2 (res i)
      let s := { s with ws := { s.ws with vhu := histMv.map fun v => v * div / 1000, vhuAt := s.now } }.bump R.ROUND_CNT
      let s := s.put R.HK_STAT_VREF_PRESENT (decide ((res 47 - 1250000).natAbs ≤ 12500)).toNat
      let temps := (List.range 40).map res ++ (List.range 32).map fun n => 16 * sxNat 8 (s.get (R.MC_STAT_TEMP n))
      let s := { s with pw := { s.pw with hist := (temps :: s.pw.hist).take 58, capd := false } }
      if (temps.take 40).any fun v => decide (1680 ≤ v) then s.trip
      else
        let s := s.each (List.range 32) fun s n =>
          if s.get R.STATE_STEP < 9 ∨ (res n - sget 0 s.pw.calT n).natAbs < s.get R.CAL_CFG_STEP then s else s.setCalW n (res n)
        let s := s.thermal.sensors
        match s.pw.cal with
        | some r => let c := s.calCheck r.sectors r.point; if c.1 ≠ 0 then s.calEnd c.1 c.2 else s
        | none => s)

/-- A reading of a stack's sensor; at 95 °C the stack's trip comparator fires (R188, R417). -/
def execStackTempRead (sec : Sector) (temp : Option Int) (s : State) : Res State :=
  .next (
    let s := s.stackTemp sec.val temp
    if s.board.por ∧ temp.any fun v => decide (95 ≤ v) then s.trip else s)

/-! ### PROG_EN (R490) -/

/-- No batch has followed within 1 ms: PROG_EN goes low. -/
def execProgEnIdle (s : State) : Res State :=
  .next (
    if s.board.progEn ∧ !(s.ws.jobs.any fun j => !j.batch.isEmpty) ∧ s.ws.progAt + msTicks 1 ≤ s.now then
      { s with board := { s.board with progEn := false } }
    else s)

end Sys2Proof.Machine
end

