-- ==== Sys2Proof/Machine/Security.lean ====
section
/-! DEFINITION. Security messages, attestation, zeroisation, the debug lock, the management port and firmware update (R456 to R478). -/

namespace Sys2Proof.Machine

open Sys2Proof

/-! ### Transports and responses (R465, R466, R477) -/

/-- RC codes (R465). -/
def rcOK : Nat := 0
/-- INVALID. -/
def rcINVALID : Nat := 1
/-- BUSY. -/
def rcBUSY : Nat := 2
/-- DENIED. -/
def rcDENIED : Nat := 3
/-- NO_IDENTITY. -/
def rcNOID : Nat := 4
/-- ENTROPY. -/
def rcENTROPY : Nat := 5
/-- HOLDUP. -/
def rcHOLDUP : Nat := 6

/-- The mailbox a transport is, if it is one. -/
def mboxOf : Transport → Option Nat
  | .mailboxA => some 0 | .mailboxB => some 1 | .doeA | .doeB | .mctp => none

/-- The partner behind a transport, as TOP.SETUP_LOCK names it (R294). -/
def viaLock : Transport → Nat
  | .mailboxA | .doeA => 1 | .mailboxB | .doeB => 2 | .mctp => 3

/-- A port's mailbox changed. -/
def State.onMbox (s : State) (via : Transport) (f : Mailbox → Mailbox) : State :=
  match mboxOf via with
  | some p => { s with secu := { s.secu with mbox := supd Mailbox.init s.secu.mbox p f } }
  | none => s

/-- A response: CODE, RC, TAG, LEN and payload, in a mailbox with DONE (R465, R477). -/
def State.secSend (s : State) (m : SecMsg) (code rc : Nat) (data : List Byte) : State :=
  (s.emit (.secResp m.via code m.tag.toNat rc data)).onMbox m.via fun b =>
    { b with busy := false, done := true, resp := leBytes 1 code ++ leBytes 1 rc ++ leBytes 2 m.tag.toNat ++ leBytes 4 data.length ++ data }

/-- A message is answered: counted as served, and DENIED for itself (R478). -/
def State.secAnswer (s : State) (m : SecMsg) (code rc : Nat) (data : List Byte) : State :=
  let s := (s.secSend m code rc data).bump R.MSG_CNT
  let s := { s with secu := { s.secu with serving := none } }
  if rc = rcDENIED then s.bumpEvt R.DENIED_CNT R.SECU_EVT_DENIED else s

/-- An MCTP message: discarded before step 4, else counted and handed on (R472, R478). -/
def State.mctp (s : State) (k : State → State) : State :=
  if !s.board.por then s
  else if s.get R.STATE_STEP < 4 then (s.bump R.MCTP_RX_CNT).bump R.MCTP_DROP_CNT
  else k (s.bump R.MCTP_RX_CNT)

/-- Exactly `n` bytes. -/
def fixLen (n : Nat) (l : List Byte) : List Byte := (l ++ List.replicate n 0).take n

/-- The debug port is UNLOCKED (R471). -/
def State.unlocked (s : State) : Bool := s.get R.SECU_STAT_DEBUG == 1

/-- The entropy source has failed (R468). -/
def State.noEntropy (s : State) : Bool := s.get R.SECU_STAT_RNG_OK == 0

/-! ### GET_INFO and GET_CERT (R462, R465) -/

/-- The running image. -/
def State.runImage (s : State) : List Byte × List Byte := s.image (s.get R.SECU_STAT_IMAGE)

/-- PKG_ID and PKG_VER of the stored fleet package, or 0. -/
def State.pkgIds (s : State) : List Byte :=
  match s.cfg.pkg with | some p => leBytes 4 p.id ++ leBytes 4 p.ver | none => leBytes 8 0

/-- GET_INFO: SERIAL, SIREV, running image, SVN, COUNTER, debug state, PKG_ID and PKG_VER, in that order (log entry 8). -/
def State.getInfo (m : SecMsg) (s : State) : State :=
    s.secAnswer m 1 rcOK (fixLen 16 Config.serial ++ leBytes 1 0xB0 ++ leBytes 1 (s.get R.SECU_STAT_IMAGE) ++ leBytes 4 (imgSvn s.runImage) ++
      leBytes 4 s.cfg.boot.counter ++ leBytes 1 (s.get R.SECU_STAT_DEBUG) ++ s.pkgIds)

/-- GET_CERT: the bytes asked for, INVALID outside a certificate of Table 15-2 (log entry 8). -/
def State.getCert (m : SecMsg) (s : State) : State :=
    let i := numAt m.payload 0 1
    let off := numAt m.payload 1 4
    let len := numAt m.payload 5 2
    if 3 < i ∨ 4032 < len ∨ (Config.cert i).length < off + len then s.secAnswer m 2 rcINVALID []
    else s.secAnswer m 2 rcOK (((Config.cert i).drop off).take len)

/-! ### GET_REPORT (R467) -/

/-- A calibration set as numbers, for CAL_DIGEST. -/
def CalSet.numbers (c : CalSet) : List Int :=
  [(c.seq : Int)] ++ c.tcap ++ c.lclass.map (fun (n : Nat) => (n : Int)) ++
    c.src.map (fun (o : Option Nat) => match o with | some n => (n : Int) + 1 | none => 0) ++ [c.gcorr]

/-- The manifest of a slot, loaded or being loaded. -/
def State.slotMan (s : State) (k : Nat) : Option Manif :=
  match sget none s.ws.mans k with
  | some m => some m
  | none => match s.ws.load with | some l => if l.slot = k ∧ !l.restore then some l.man else none | none => none

/-- SLOT0 or SLOT1 of a report (Table 15-4). -/
def State.slotReport (s : State) (k : Nat) : List Byte :=
  if s.slotSt k = slFREE then List.replicate 80 0
  else
    leBytes 4 (s.get (R.SLOT_VERSION k)) ++ leBytes 4 (s.get (R.SLOT_PLACE_ID k)) ++ leBytes 1 (s.slotSt k) ++ leBytes 7 0 ++
      (match s.slotMan k with
        | some m => fixLen 16 m.modelId ++ fixLen 48 m.digest
        | none => fixLen 64 (Config.lostSlot (s.free + k)))

/-- Bytes 0x000 to 0x25F of a report, one snapshot (Table 15-4). -/
def State.report (s : State) (nonce : List Byte) : List Byte :=
  let img := s.runImage
  leBytes 2 1 ++ leBytes 2 704 ++ leBytes 4 s.secu.seq ++ fixLen 16 Config.serial ++ leBytes 1 0xB0 ++ leBytes 1 (s.get R.SECU_STAT_IMAGE) ++ leBytes 2 0 ++
    leBytes 4 s.cfg.boot.counter ++ fixLen 48 nonce ++ leBytes 8 s.tm.time ++ leBytes 8 (s.get R.STEP_NOW_N) ++
    fixLen 48 (sha384 (img.1 ++ img.2.take (hdr img.1 0xC 4))) ++ leBytes 4 (imgSvn img) ++ leBytes 4 (hdr img.1 8 4) ++
    fixLen 48 (sha384 (Config.calBytes ((List.range 32).map fun n => (s.calSet n).numbers))) ++ s.pkgIds ++
    (match s.cfg.pkg with | some p => fixLen 48 (sha384 p.bytes) | none => List.replicate 48 0) ++ s.slotReport 0 ++ s.slotReport 1 ++
    ((List.range 4).map fun i => match sget none s.cfg.keys i with | some k => fixLen 48 (sha384 k) | none => List.replicate 48 0).flatten

/-- GET_REPORT: signed with the identity key; NO_IDENTITY while the debug port is UNLOCKED, ENTROPY without a nonce for the signature (R467, R468). -/
def State.getReport (m : SecMsg) (s : State) : State :=
    if s.unlocked then s.secAnswer m 3 rcNOID []
    else if s.noEntropy then s.secAnswer m 3 rcENTROPY []
    else
      let s := { s with secu := { s.secu with seq := (s.secu.seq + 1) % 2 ^ 32 } }
      let body := s.report m.payload
      let r := (s.draw 2).signed (sha384 body)
      (r.2.bump R.REPORT_CNT).secAnswer m 3 rcOK (body ++ r.1)

/-! ### ENROL_KEY (R463) -/

/-- SECU.STAT.KEYS as the slots stand. -/
def State.showKeys (s : State) : State :=
  s.put R.SECU_STAT_KEYS (((List.range 4).map fun i => (sget none s.cfg.keys i).isSome.toNat * 2 ^ i).sum)

/-- Whether AUTH permits a change of an occupied slot. -/
def State.authOk (s : State) (m : SecMsg) (slot : Nat) (old new : List Byte) : Bool :=
  ecdsaVerify old
    (sha384 (fixLen 16 Config.serial ++ leBytes 1 slot ++ new ++ leBytes 4 (sget 0 s.cfg.seqs slot))) ((m.payload.drop 99).take 96)

/-- ENROL_KEY: an empty slot is filled from the partner that holds the lock, an occupied one changed under AUTH; the change waits for its hold-up check. -/
def State.enrolKey (m : SecMsg) (s : State) : State :=
    let slot := numAt m.payload 0 1
    let remove := numAt m.payload 1 1
    let key := (m.payload.drop 2).take 97
    let new := if remove = 1 then none else some key
    let begin_ (s : State) : State :=
      ({ s with secu := { s.secu with serving := some m } }.onMbox m.via fun b => { b with busy := true }).hold (.enrol m slot new)
    if 4 ≤ slot ∨ 2 ≤ remove then s.secAnswer m 4 rcINVALID []
    else
      match sget none s.cfg.keys slot with
      | none =>
        if remove = 1 then s.secAnswer m 4 rcINVALID []
        else if s.get R.SETUP_LOCK_HOLDER = viaLock m.via then begin_ s
        else s.secAnswer m 4 rcDENIED []
      | some old =>
        if s.authOk m slot old (if remove = 1 then List.replicate 97 0 else key) then begin_ s else s.secAnswer m 4 rcDENIED []

/-- The hold-up check of an enrolment has passed: the slot changes and ENROL_SEQ increments. -/
def State.enrolled (s : State) (m : SecMsg) (slot : Nat) (key : Option (List Byte)) : State :=
  let n := (sget 0 s.cfg.seqs slot + 1) % 2 ^ 32
  let s := { s with cfg := { s.cfg with keys := sset none s.cfg.keys slot key, seqs := sset 0 s.cfg.seqs slot n } }
  (s.showKeys.set1 R.SECU_EVT_ENROL).secAnswer m 4 rcOK (leBytes 4 n)

/-! ### Random numbers (R468) -/

/-- GET_RANDOM. -/
def State.getRandom (m : SecMsg) (s : State) : State :=
    let n := numAt m.payload 0 1
    if n = 0 ∨ 48 < n then s.secAnswer m 8 rcINVALID []
    else if s.noEntropy then s.secAnswer m 8 rcENTROPY []
    else (s.random n).2.secAnswer m 8 rcOK (s.random n).1

/-- A health test of the entropy source fails; only a device reset restarts it. -/
def execHealthTestFailure (s : State) : Res State :=
  .next (
    if s.noEntropy then s
    else ((s.put R.SECU_STAT_RNG_OK 0).bumpEvt R.RNG_FAIL_CNT R.SECU_EVT_RNG_FAIL).fault 0x19 0x1FF)

/-! ### Zeroisation (R469, R470) -/

/-- Region `k` of every stack written with zero (Table 6-3). -/
def State.zeroRegion (s : State) (k : Nat) : State :=
  let inside (n o : Nat) : Bool :=
    decide (s.get (R.MREG_BASE_MIB n k) * 2 ^ 20 ≤ o) && decide (o < (s.get (R.MREG_BASE_MIB n k) + s.get (R.MREG_SIZE_MIB n k)) * 2 ^ 20)
  let s' := { s with stk := s.stk.filter fun e => !inside (e.1 / 2 ^ 33) (e.1 % 2 ^ 33) }
  s'.each (List.range 32) fun s n => s.onSec n fun c => { c with bad := c.bad.filter fun w => !inside n (32 * w), soft := c.soft.filter fun w => !inside n (32 * w) }

/-- A refresh given up; its site is no longer BUSY with it. -/
def State.refreshDrop (s : State) (j : Job) : State :=
  let s := s.dropJob j
  { s with fe := { s.fe with busy := s.fe.busy.filter fun b => !(b.1 == (s.siteOf j.tile).val && b.2.1 == 3) } }

/-- Programming stops for a zeroisation: refreshes end, an interrupted spare is a device fault with cause REF (R470). -/
def State.zeroProg (s : State) : State :=
  let s := s.each (s.ws.jobs.filter fun j => j.what == .refresh) fun s j => s.refreshDrop j
  match s.ws.jobs.find? fun j => j.what == .spare with
  | some j => (s.dropJob j).deviceFault 6 (s.siteOf j.tile).val
  | none => s

/-- Scope MODEL: every slot FREE, REF and EXP of every stack zero. -/
def State.zeroModel (s : State) : State :=
  let s := s.switchFail wsABANDONED
  let s := s.each s.ws.jobs fun s j => s.dropJob j
  let s := { s with ws := { s.ws with queue := [] }, fe := { s.fe with repairs := [] } }
  let s := s.each [0, 1] fun s k => if s.slotSt k = slFREE then s else s.slotFree k
  (s.zeroRegion 1).zeroRegion 2

/-- ZEROISE with a scope: it takes precedence over every other activity; scope 0 does nothing. -/
def State.zeroise (s : State) (scope : Nat) : State :=
  let on (i : Nat) : Bool := scope.testBit i
  if scope % 16 = 0 then s
  else
    let s := if on 0 || on 3 then s.loadFail wsABANDONED else s
    let s := s.zeroProg
    let s := if on 1 || on 2 || on 3 then
        (if s.isIngress then s.endAll stFAULT 0x1C else s.emit (.toIngress "zeroised" [scope % 16]))
      else s
    let s := if on 0 then { s.seedDrbg with ws := { s.ws with keys := [] } } else s
    let s := if on 1 then { s with sp := [], ws := { s.ws with scrubbed := true } } else s
    let s := if on 2 then s.zeroRegion 7 else s
    let s := if on 3 then s.zeroModel else s
    s.serveJudge.bumpEvt R.ZEROISE_CNT R.SECU_EVT_ZEROISE

/-- ZEROISE as a message (R469). -/
def State.zeroiseMsg (m : SecMsg) (s : State) : State :=
  (s.zeroise (numAt m.payload 0 1)).secAnswer m 7 rcOK (leBytes 1 (numAt m.payload 0 1 % 16))

/-! ### The debug lock (R471) -/

/-- DEBUG_CHALLENGE. -/
def State.debugChallenge (m : SecMsg) (s : State) : State :=
    if s.noEntropy then s.secAnswer m 5 rcENTROPY []
    else
      let r := s.random 48
      { r.2 with secu := { r.2.secu with challenge := some r.1 } }.secAnswer m 5 rcOK r.1

/-- DEBUG_UNLOCK: authority, then every slot FREE, then KEYS, SCRATCH and KV zeroised, the private keys cleared and the port open. -/
def State.debugUnlock (m : SecMsg) (s : State) : State :=
    let key := m.payload.take 97
    let ok := match s.secu.challenge with
      | some c =>
        sha384 key == Config.debugDigestOf s.runImage.2 &&
          ecdsaVerify key (sha384 (fixLen 16 Config.serial ++ c)) (m.payload.drop 97)
      | none => false
    if !ok then s.secAnswer m 6 rcDENIED []
    else if s.slotSt 0 ≠ slFREE ∨ s.slotSt 1 ≠ slFREE then s.secAnswer m 6 rcBUSY []
    else ((((s.zeroise 7).put R.SECU_STAT_ID_OK 0).put R.SECU_STAT_DEBUG 1).set1 R.SECU_EVT_DEBUG).secAnswer m 6 rcOK []

/-! ### DEVICE_RESET and the DOE abort (R465, R466) -/

/-- DEVICE_RESET: over MCTP only, with its key; the reset follows the response. -/
def State.deviceResetMsg (m : SecMsg) (s : State) : State :=
  if m.via ≠ .mctp ∨ numAt m.payload 0 2 ≠ 0xA5C3 then s.secAnswer m 9 rcINVALID [] else (s.secAnswer m 9 rcOK []).deviceReset

/-! ### Service (R465, R466) -/

/-- Length of the request payload of a message (Table 15-3); none for an unknown CODE. -/
def secLen (code : Nat) : Option Nat :=
  if code = 1 ∨ code = 5 then some 0
  else if code = 2 then some 7
  else if code = 3 then some 48
  else if code = 4 then some 195
  else if code = 6 then some 193
  else if code = 7 ∨ code = 8 then some 1
  else if code = 9 then some 2
  else none

/-- What the message of a CODE does. -/
def secDo (code : Nat) (m : SecMsg) (s : State) : State :=
  if code = 1 then s.getInfo m
  else if code = 2 then s.getCert m
  else if code = 3 then s.getReport m
  else if code = 4 then s.enrolKey m
  else if code = 5 then s.debugChallenge m
  else if code = 6 then s.debugUnlock m
  else if code = 7 then s.zeroiseMsg m
  else if code = 8 then s.getRandom m
  else s.deviceResetMsg m

/-- The service of a message: INVALID for an unknown CODE, a bad VER, or a payload of another length than Table 15-3 gives, which no request of more than 4,096 bytes has (R465). -/
def State.secServe (s : State) (code : Nat) (m : SecMsg) : State :=
  if m.ver ≠ 1 ∨ secLen code ≠ some m.payload.length then s.secAnswer m code rcINVALID [] else secDo code m s

/-- A request comes on its transport: BUSY while that transport's request is unanswered, shown beside the mailbox's response; else served, or waiting for the requests that came before it on any transport (R466). -/
def State.secTake (s : State) (code : Nat) (m : SecMsg) : State :=
  if s.secu.serving.any (fun x => x.via == m.via) || s.secu.wait.any fun e => e.2.via == m.via then
    s.emit (.secResp m.via code m.tag.toNat rcBUSY [])
  else if s.secu.serving.isSome || !s.secu.wait.isEmpty then
    ({ s with secu := { s.secu with wait := s.secu.wait ++ [(code, m)] } }).onMbox m.via fun b => { b with busy := true }
  else s.secServe code m

/-- A security message of a CODE: over MCTP counted, or discarded before step 4 (R472, R478). -/
def State.secMsg (s : State) (code : Nat) (m : SecMsg) : State :=
  if m.via = .mctp then s.mctp fun s => s.secTake code m
  else if !s.board.por ∨ s.get R.STATE_STEP < 4 then s
  else s.secTake code m

/-- The next request that waits is served once the one before is answered (R466). -/
def State.secNext (s : State) : State :=
  match s.secu.serving, s.secu.wait with
  | none, (code, m) :: r => { s with secu := { s.secu with wait := r } }.secServe code m
  | _, _ => s

/-- GET_INFO. -/
def execGetInfo (m : SecMsg) (s : State) : Res State := .next (s.secMsg 1 m)
/-- GET_CERT. -/
def execGetCert (m : SecMsg) (s : State) : Res State := .next (s.secMsg 2 m)
/-- GET_REPORT. -/
def execGetReport (m : SecMsg) (s : State) : Res State := .next (s.secMsg 3 m)
/-- ENROL_KEY. -/
def execEnrolKey (m : SecMsg) (s : State) : Res State := .next (s.secMsg 4 m)
/-- DEBUG_CHALLENGE. -/
def execDebugChallenge (m : SecMsg) (s : State) : Res State := .next (s.secMsg 5 m)
/-- DEBUG_UNLOCK. -/
def execDebugUnlock (m : SecMsg) (s : State) : Res State := .next (s.secMsg 6 m)
/-- GET_RANDOM. -/
def execGetRandom (m : SecMsg) (s : State) : Res State := .next (s.secMsg 8 m)
/-- DEVICE_RESET. -/
def execDeviceReset (m : SecMsg) (s : State) : Res State := .next (s.secMsg 9 m)

/-- ZEROISE, as a ring command or as a message (R469). -/
def execZeroise (via : ZeroVia) (s : State) : Res State :=
  .next (
    match via with
    | .ring c => s.ringCmd 0x07 c fun s => (s.zeroise (cf c 64 4)).complete c { Done.st stDONE 0 with result := cf c 64 4 }
    | .msg m => s.secMsg 7 m)

/-- A DOE abort discards the pending request of that mailbox (R466). -/
def execDoeAbort (p : Port) (s : State) : Res State :=
  .next (
    let d : Transport := if p.val = 0 then .doeA else .doeB
    let s := { s with secu := { s.secu with wait := s.secu.wait.filter fun e => e.2.via != d } }
    match s.secu.serving with
    | some m =>
      if m.via = d then
        { s with secu := { s.secu with serving := none }
                 hu := s.hu.filter fun (e : HuItem × Nat × Nat) => match e.1 with | .enrol x _ _ => x != m | _ => true }
      else s
    | none => s)

/-! ### The management port (R472 to R474) -/

/-- A response to an MCTP control or PLDM command. -/
def State.reply (s : State) (what : String) (code : Nat) (vals : List Int := []) : State := s.emit (.pldm what code vals)

/-- SETDASA with the part's static address 0x30 + MGMT_ADDR (R472). -/
def execSetdasa (stat dyn : BitVec 7) (s : State) : Res State :=
  .next (if s.board.aonAt.isSome ∧ stat.toNat = 0x30 + s.board.mgmtAddr then s.put R.MGMT_STAT_DADDR dyn.toNat else s)

/-- ENTDAA gives an address to a target that has none (R472). -/
def execEntdaa (dyn : BitVec 7) (s : State) : Res State :=
  .next (if s.board.aonAt.isSome ∧ s.get R.MGMT_STAT_DADDR = 0 then s.put R.MGMT_STAT_DADDR dyn.toNat else s)

/-- Set Endpoint ID; 0x00 and 0xFF name no endpoint (R472, log entry 9). -/
def execSetEndpointId (eid : BitVec 8) (s : State) : Res State :=
  .next (s.mctp fun s =>
    if eid = 0 ∨ eid = 0xFF then s.reply "SetEndpointID" 2 else (s.put R.MGMT_STAT_EID eid.toNat).reply "SetEndpointID" 0 [eid.toNat])

/-- GetSensorReading: the value of the latest slow round (R473). -/
def execGetSensorReading (id : BitVec 16) (s : State) : Res State :=
  .next (s.mctp fun s =>
    if sensorIds.contains id.toNat then s.reply "GetSensorReading" 0 [sget 0 s.secu.sens id.toNat] else s.reply "GetSensorReading" 0x80)

/-- SetEventReceiver (R474). -/
def execSetEventReceiver (eid : BitVec 8) (s : State) : Res State :=
  .next (s.mctp fun s => { s with secu := { s.secu with receiver := some eid.toNat } }.reply "SetEventReceiver" 0)

/-- The receiver acknowledges an event; the next one held is sent (R474). -/
def execPlatformEventMessageAck (s : State) : Res State :=
  .next (s.mctp fun s =>
    if !s.secu.unacked then s
    else
      match s.secu.events with
      | [] => { s with secu := { s.secu with unacked := false } }
      | e :: r => { s with secu := { s.secu with events := r } }.emit (.event e.1 e.2))

/-- The profile set through effecter 0x0002, as a set-up write from MGMT; 3 is reserved and substituted (R293, R314, R473). -/
def State.setProfile (s : State) (v : Nat) : State :=
  regWrite .mgmt 0x100000 4 v s fun s =>
    let p := if v = 0 ∨ v = 2 then v else 1
    let s := if p = v then s else s.clampLog 0x100000 3 .subst 3 2 v p
    { s with pw := { s.pw with want := p } }.follow

/-- An effecter write (R473). -/
def execEffecterWrite (id : BitVec 16) (v : BitVec 32) (s : State) : Res State :=
  .next (s.mctp fun s =>
    if id = 1 then (s.barWrite .mgmt 0x100004 4 v.toNat fun _ _ s => s).reply "SetEffecter" 0
    else if id = 2 then (s.setProfile v.toNat).reply "SetEffecter" 0
    else s.reply "SetEffecter" 0x80)

/-! ### Firmware update (R475) -/

/-- The update in progress replaced; UPDATE shows whether there is one. -/
def State.setUpdate (s : State) (u : Option Update) : State :=
  { s with secu := { s.secu with update := u } }.put R.MGMT_STAT_UPDATE u.isSome.toNat

/-- The image slot that is not running. -/
def State.otherImage (s : State) : Nat := 1 - s.get R.SECU_STAT_IMAGE

/-- RequestUpdate: refused during an update, or for no component of the part; the header of the slot not running is zeroed first (R475). -/
def execRequestUpdate (comp : BitVec 16) (len : Nat) (s : State) : Res State :=
  .next (s.mctp fun s =>
    if s.secu.update.isSome then s.reply "RequestUpdate" 0x81
    else if !(comp = 1 ∨ comp = 2) ∨ len = 0 ∨ 8388608 < len then s.reply "RequestUpdate" 0x8A
    else
      let s := (s.setUpdate (some ⟨comp.toNat, len, [], false, false⟩)).reply "RequestUpdate" 0
      (if comp = 1 then s.hold (.fwHead true) else s).emit (.wantData 0 (min 4096 len)))

/-- The update ends without effect. -/
def State.updateFail (s : State) (stage : String) : State := (s.setUpdate none).reply stage 1

/-- The last byte has come: VerifyComplete, then the header, or the package under R440, is written (R475). -/
def State.updateVerify (s : State) (u : Update) : State :=
  if u.comp = 1 then
    if imgOk s.cfg.boot (u.got.take 512, u.got.drop 512) then (s.reply "VerifyComplete" 0).hold (.fwHead false) else s.updateFail "VerifyComplete"
  else
    let s := s.reply "VerifyComplete" 0
    match s.parseFleet u.got with
    | none => s.updateFail "ApplyComplete"
    | some p => if s.cfg.pkg.any fun q => decide (p.ver ≤ q.ver) then s.updateFail "ApplyComplete" else s.hold (.fleet none p)

/-- A transfer that was asked for: its body bytes are written, the next is requested (R475). -/
def execRequestFirmwareData (data : List Byte) (s : State) : Res State :=
  .next (s.mctp fun s =>
    match s.secu.update with
    | none => s
    | some u =>
      if u.len ≤ u.got.length ∨ data.length ≠ min 4096 (u.len - u.got.length) then s
      else
        let at_ := u.got.length
        let u := { u with got := u.got ++ data }
        let s := s.setUpdate (some u)
        let s := if u.comp = 1 then s.hold (.fwBody (at_ - 512) (if at_ = 0 then data.drop 512 else data)) else s
        if u.got.length < u.len then s.emit (.wantData u.got.length (min 4096 (u.len - u.got.length))) else s.updateVerify u)

/-- The body of the image slot not running with bytes written at an offset. -/
def State.putBody (s : State) (off : Nat) (data : List Byte) : State :=
  let i := s.otherImage
  let m := s.image i
  let body := (fixLen off m.2) ++ data ++ m.2.drop (off + data.length)
  { s with cfg := { s.cfg with images := sset none s.cfg.images i (some ⟨m.1, body⟩) } }

/-- The header of the image slot not running: zero, or as received, which ends the transfer of the image. -/
def State.putHead (s : State) (zero : Bool) : State :=
  let i := s.otherImage
  let m := s.image i
  let set (s : State) (h : List Byte) : State := { s with cfg := { s.cfg with images := sset none s.cfg.images i (some ⟨h, m.2⟩) } }
  if zero then set s (List.replicate 512 0)
  else
    match s.secu.update with
    | none => s
    | some u =>
      if u.failed then s.updateFail "ApplyComplete"
      else ((set s (u.got.take 512)).setUpdate (some { u with applied := true })).reply "ApplyComplete" 0

/-- A configuration-area write of an update is refused: ApplyComplete fails (R475). -/
def State.updateRefused (s : State) (last : Bool) : State :=
  match s.secu.update with
  | none => s
  | some u => if last then s.updateFail "ApplyComplete" else s.setUpdate (some { u with failed := true })

/-- ActivateFirmware: PREF names the new slot and its TRIES is 0, once written; 152 ms is the estimated time (R475). -/
def execActivateFirmware (s : State) : Res State :=
  .next (s.mctp fun s =>
    match s.secu.update with
    | none => s.reply "ActivateFirmware" 0x80
    | some u =>
      if !u.applied then s.reply "ActivateFirmware" 0x84
      else if u.comp = 1 then s.hold .activate
      else (s.setUpdate none).reply "ActivateFirmware" 0 [152])

/-- The activation is written. -/
def State.activated (s : State) : State :=
  let i := s.otherImage
  let s := { s with cfg := { s.cfg with boot := { s.cfg.boot with pref := i }.setTries i 0 } }
  (s.setUpdate none).reply "ActivateFirmware" 0 [152]

end Sys2Proof.Machine
end

