-- ==== Sys2Proof/Machine/Startup.lean ====
section
/-! DEFINITION. Supplies and the start-up sequence (R287, R396, R400 to R402, R445, R459, R488 to R490, R498). -/

namespace Sys2Proof.Machine

open Sys2Proof

/-! ### Supplies (R488, R489) -/

/-- VDD_AON comes into range: a supply reset, which keeps the arrays and the configuration area; powered seconds go on from those stored (R287, R432, R488). -/
def execSupplyRamp (s : State) : Res State :=
  .next (
    let z := { State.reset with
      pending := s.pending, now := s.now, cells := s.cells, cfg := s.cfg, free := s.free, out := s.out
      fe := { Engine.init with hist := s.cfg.hist }
      board := { Board.init with aonAt := some s.now, laserOff := s.board.laserOff } }
    z.put R.POWERED_S_S s.cfg.powered)

/-- PWR_REQ is released 1 ms after VDD_AON came into range (R488). -/
def execPwrReqRelease (s : State) : Res State :=
  .next (
    match s.board.aonAt with
    | some t =>
      if s.board.pwrReq.isNone ∧ !s.board.pgFailed ∧ t + msTicks 1 ≤ s.now then { s with board := { s.board with pwrReq := some s.now } } else s
    | none => s)

/-- The board asserts RAILS_PG, within 50 ms of the release of PWR_REQ (R488). -/
def execRailsPgAssert (s : State) : Res State :=
  .next (
    match s.board.pwrReq with
    | some t => if s.board.railsPg.isNone ∧ s.now ≤ t + msTicks 50 then { s with board := { s.board with railsPg := some s.now } } else s
    | none => s)

/-- A start-up step has failed: FAULT with its cause, STEP as it stands (R400, R452). -/
def State.startFail (s : State) (cause : Nat) : State := s.showFault cause 0x1FF

/-- RAILS_PG has not come within 50 ms: step 1 has failed, PWR_REQ goes low until the next ramp (R488). -/
def execRailsPgTimeout (s : State) : Res State :=
  .next (
    match s.board.pwrReq with
    | some t =>
      if s.board.railsPg.isNone ∧ t + msTicks 50 ≤ s.now then
        { s with board := { s.board with pwrReq := none, pgFailed := true } }.startFail 0x0B
      else s
    | none => s)

/-- 1 ms after RAILS_PG power-on reset is released, the straps sampled, and step 2 begins (R279, R472, R488). -/
def execPowerOnResetRelease (hostBif : Bool) (mgmtAddr : BitVec 2) (s : State) : Res State :=
  .next (
    match s.board.railsPg with
    | some t =>
      if !s.board.por ∧ t + msTicks 1 ≤ s.now then
        (({ s with board := { s.board with por := true, x8 := hostBif, mgmtAddr := mgmtAddr.toNat } }.put R.STATE_MODE hostBif.toNat).put
          R.STATE_STEP 1).bootRom
      else s
    | none => s)

/-- RAILS_PG is deasserted: the part behaves as on a trip (R489). -/
def execRailsPgDeassert (s : State) : Res State := .next (if s.board.railsPg.isSome then s.powerDown false else s)

/-- LASER_EN_N changes (R498). -/
def execLaserEnN (high : Bool) (s : State) : Res State := .next { s with board := { s.board with laserOff := high } }

/-! ### Steps 5 to 7 (R192, R259, R262, R277, R400, R401, R459) -/

/-- Step `n` is complete; the next one begins now. -/
def State.stepDone (s : State) (n : Nat) : State := { s.put R.STATE_STEP n with pw := { s.pw with stepAt := s.now } }

/-- The root PLL locks: the clocks switch, TIME and CYCLE start from 0; TRIES of the running image is to be incremented (R401, R459). -/
def execRootPllLock (s : State) : Res State :=
  .next (
    if s.get R.STATE_STATE ≠ devSTART ∨ s.get R.STATE_STEP ≠ 4 then s
    else
      let s := ((s.stepDone 5).put R.PWR_STAT_PLL_LOCK 1).put R.PWR_STAT_CLK_SRC 1
      { s with tm := { s.tm with time := 0 }, cycle0 := some s.now }.hold .tries)

/-- TRIES has been incremented, to 3 at most: step 6 begins with the training of every stack (R192, R458, R459). -/
def State.triesDone (s : State) : State :=
  let i := s.get R.SECU_STAT_IMAGE
  let s := { s with cfg := { s.cfg with boot := s.cfg.boot.setTries i (min 3 (s.cfg.boot.tries i + 1)) } }
  if s.get R.STATE_STATE = devSTART ∧ s.get R.STATE_STEP = 5 then s.each (List.range 32) fun s n => s.put (R.MC_STAT_STATE n) 1 else s

/-- TOP.FAB_CFG from a stored value. -/
def State.fabRestore (s : State) (v : Nat) : State :=
  s.each [R.FAB_CFG_VX, R.FAB_CFG_VY, R.FAB_CFG_VZ, R.FAB_CFG_TX1, R.FAB_CFG_TY1, R.FAB_CFG_TZ1, R.FAB_CFG_ROLE, R.FAB_CFG_POD] fun s f =>
    s.put f (bits v f.lsb f.w)

/-- Step 7 begins: TOP.FAB_CFG is restored and every enabled link in use trains (R259, R277). -/
def State.linksBegin (s : State) : State :=
  let s := s.fabRestore s.cfg.fab
  { s with fab := s.fabCfg }.each (List.range 64) fun s l => s.trainIfUsed l

/-- An enabled link whose training has not ended (R259). -/
def State.linkBusy (s : State) (l : Nat) : Bool :=
  s.get (R.LNK_CTL_EN l) == 1 && s.dirUsed (linkDir l) && decide (s.get (R.LNK_STAT_STATE l) < lkACTIVE)

/-- Every direction in use has its working links (R262). -/
def State.linksEnough (s : State) : Bool :=
  (List.range 7).all fun d => !s.dirUsed d || decide (dirNeed d ≤ (s.workingLinks d).length)

/-- Step 7 ends: SCHEDULED lattice mode for the self-test, and the sectors begin to wake (R210, R399, R400); or too few links work (R262). -/
def State.linksOver (s : State) : State :=
  if (List.range 64).any s.linkBusy then s
  else if !s.linksEnough then s.startFail 3
  else
    let s := ((s.stepDone 7).put R.LAT_STAT_MODE 1).bumpEvt R.LAT_SWITCH_CNT R.NET_EVT_MODE_CHG
    { s with pw := { s.pw with wake := some (0, s.now) } }

/-- The sequence goes on when what it waits for in step 6 or 7 has ended. -/
def State.startAdvance (s : State) : State :=
  if s.get R.STATE_STATE ≠ devSTART then s
  else if s.get R.STATE_STEP = 5 then
    if (List.range 32).any fun n => s.get (R.MC_STAT_STATE n) == 5 then s.startFail 2
    else if (List.range 32).all fun n => s.get (R.MC_STAT_STATE n) == mcREADY then (s.stepDone 6).linksBegin.linksOver
    else s
  else if s.get R.STATE_STEP = 6 then s.linksOver
  else s

/-- Training of a stack ends (R192, R193). -/
def execStackTrainingComplete (sec : Sector) (lanes : List Nat) (s : State) : Res State := .next (s.stackTrained sec.val lanes).startAdvance

/-- Zero initialisation of a stack ends (R183, R192). -/
def execStackInitialisationComplete (sec : Sector) (s : State) : Res State := .next (s.stackInit sec.val).startAdvance

/-- A training state of a link completes, or its partner starts again (R259, Table 9-3). -/
def execLinkTrainingStage (l : LinkIx) (id : PartnerId) (s : State) : Res State := .next (s.linkStage l.val id).startAdvance

/-- The training limit of a link (R259). -/
def execLinkTrainingLimit (l : LinkIx) (s : State) : Res State := .next (s.linkLimit l.val).startAdvance

/-! ### Step 8 (R399, R400, R445) -/

/-- The adoptions of the remap record restored, each a change of TOP.REMAP (R154), with the sites it shows retired (R445). -/
def State.remapRestore (s : State) : State :=
  let perm (s : State) (t : Nat) : State := if s.isPerm t then s else s.makePerm t
  let s := s.each s.cfg.remap fun s l =>
    let t := s.siteOf l
    perm (((s.put (R.REMAP_SITE l) (spareSite t.val).val).put (R.REMAP_ADOPTED l) 1).bump R.REMAP_GEN_GEN) t.val
  s.each ((List.range 32).filter fun n => sget 0 s.cfg.spares n = 2) fun s n => perm s (9 * n + 8)

/-- A logical tile adopts its sector's spare without a scratchpad copy (R445). -/
def State.adoptLate (s : State) (l : Nat) : State :=
  let s := ((s.put (R.REMAP_SITE l) (spareSite (s.siteOf l).val).val).put (R.REMAP_ADOPTED l) 1).bump R.REMAP_GEN_GEN
  { s with ws := { s.ws with spares := s.ws.spares ++ [(l, s.now, false, true)] } }.hold .remap

/-- The logical tiles whose site is PERMANENT. -/
def State.homeless (s : State) : List Nat := (List.range 256).filter fun l => s.isPerm (s.siteOf l).val

/-- A logical tile has no passing site: its sector's spare is taken, or wanted twice (R445). -/
def State.noSite (s : State) (l : Nat) : Bool := s.spareState (l / 8) != 0 || s.homeless.any fun k => k / 8 == l / 8 && k != l

/-- Sector wake and tile self-test are over, with the sites that failed (R400, R445). -/
def execTileSelfTestComplete (failed : List Site) (s : State) : Res State :=
  .next (
    if s.get R.STATE_STATE ≠ devSTART ∨ s.get R.STATE_STEP ≠ 7 ∨ (s.pw.wake.any fun w => decide (w.1 < 32)) then s
    else
      let s := s.remapRestore.each failed fun s t => (s.fault 0x08 t.val).makePerm t.val
      if s.homeless.any s.noSite then s.startFail 0x0B
      else
        let s := s.each s.homeless fun s l => s.adoptLate l
        let s := { s.stepDone 8 with sp := [] }
        s.each ((List.finRange 288).filter s.unmapped) fun s t => s.tileToP2 t)

/-! ### Steps 9 and 10 (R357, R402, R419, R421, R459) -/

/-- Slots as R357 leaves them: the table restored, a switch not confirmed completed, other slots but ACTIVE ones FREE. -/
def State.slotsBack (s : State) : State :=
  let s := s.tableBack
  let s := match s.cfg.record with
    | some (_, k) =>
      let s := s.each ([0, 1].filter fun i => i ≠ k ∧ s.slotSt i ≠ slFREE) fun s i => s.slotFree i
      ((s.put (R.SLOT_STATE k) slACTIVE).hold .table).hold .confirm
    | none => s
  let s := s.each ([0, 1].filter fun k => s.slotSt k ≠ slFREE ∧ s.slotSt k ≠ slACTIVE) fun s k => s.slotFree k
  s.each [0, 1] fun s k => (s.put (R.SLOT_REF_VALID k) 0).put (R.SLOT_EXP_VALID k) 0

/-- Step 9: calibration sets in the trim stores, the slots, trims interpolated (R357, R419, R421). -/
def State.step9 (s : State) : State :=
  let s := s.slotsBack
  let s := s.put R.GCORR_GCORR (unsx 16 s.cfg.gcorr)
  let s := s.each (List.range 32) fun s n =>
    { s with pw := { s.pw with trims := sset none s.pw.trims n (some (s.calSet n)) } }.setCalW n (s.sectorTemp n)
  let s := if s.neededSlots.isEmpty then { s with ws := { s.ws with spares := [] } } else s
  s.stepDone 9

/-- The conditions of R402, the lattice apart. -/
def State.mayReady (s : State) : Bool :=
  ((List.range 32).all fun n => s.get (R.MC_STAT_STATE n) == mcREADY) && s.linksEnough && s.homeless.isEmpty

/-- Step 9 completes and the part enters READY, the lattice back in the mode selected for service, or FAULT (R402). -/
def execReady (s : State) : Res State :=
  .next (
    if s.get R.STATE_STATE ≠ devSTART ∨ s.get R.STATE_STEP ≠ 8 ∨ s.get R.LAT_STAT_SWITCHING = 1 then s
    else
      let s := s.step9
      if !s.mayReady then s.startFail 0x0B
      else
        let m := s.get R.LAT_CTL_MODE_REQ
        let s := if m = s.get R.LAT_STAT_MODE then s else (s.put R.LAT_STAT_MODE m).bumpEvt R.LAT_SWITCH_CNT R.NET_EVT_MODE_CHG
        (((s.stepDone 10).setDevState devREADY).hold .commit).serveJudge)

/-- The boot record after READY was first entered: TRIES 0, then the commit, or PREF set to the image that fell back (R459). -/
def State.commitBoot (s : State) : State :=
  let i := s.get R.SECU_STAT_IMAGE
  let h := s.image i
  let b := s.cfg.boot.setTries i 0
  if b.pref = i then
    let revoke := hdr h.1 3 1 % 2 = 1
    let b := { b with counter := max b.counter (imgSvn h), revoked := if revoke then Nat.lor b.revoked (2 ^ (1 - hdr h.1 2 1)) else b.revoked }
    { s with cfg := { s.cfg with boot := b } }.put R.SVN_COUNTER b.counter
  else ({ s with cfg := { s.cfg with boot := { b with pref := i } } }).set1 R.SECU_EVT_FALLBACK

/-- The limit of the step in progress, in microseconds (Table 13-5). -/
def stepLimit (done : Nat) : Option Nat :=
  if done = 4 then some 50 else if done = 5 then some 12000 else if done = 6 then some 20000 else if done = 7 then some 60000
  else if done = 8 then some 10000 else none

/-- A step has exceeded its limit (R400). -/
def execStartupStepTimeout (s : State) : Res State :=
  .next (
    match stepLimit (s.get R.STATE_STEP) with
    | some n => if s.get R.STATE_STATE = devSTART ∧ s.pw.stepAt + usTicks n ≤ s.now then s.startFail 0x0B else s
    | none => s)

/-- REFCLK or the lock of the root PLL is lost after step 5 (R396). -/
def execClkFail (s : State) : Res State :=
  .next (
    if s.get R.STATE_STEP < 5 ∨ s.get R.PWR_STAT_PLL_LOCK = 0 then s
    else
      let s := ((s.stopClocks.put R.PWR_STAT_PLL_LOCK 0).put R.PWR_STAT_CLK_SRC 0).set1 R.PWR_EVT_CLK_FAIL
      (s.fault 0x16 0x1FF).deviceFault 8 0x1FF)

end Sys2Proof.Machine
end

