-- ==== Sys2Proof/Machine/Holdup.lean ====
section
/-! DEFINITION. The hold-up check, and what follows when it passes or refuses (R357, R377, R490). -/

namespace Sys2Proof.Machine

open Sys2Proof

/-- An entry of the waiting list. -/
abbrev HuEnt := HuItem × Nat × Nat

/-- Twice 256,000,000 times the energy in µJ above VMIN, from the sum of the 16 samples in mV (R377). -/
def State.huScaled (s : State) : Int :=
  let v := s.ws.vhu.sum
  s.get R.HU_CAP_C_UF * ((v * v : Nat) - (256 * s.get R.HU_CAP_VMIN_MV * s.get R.HU_CAP_VMIN_MV : Nat))

/-- Sixteen samples have been taken within the last millisecond. -/
def State.huFresh (s : State) : Bool := s.ws.vhu.length == 16 && decide (s.now ≤ s.ws.vhuAt + msTicks 1)

/-- Whether the stored energy is at least twice an estimate in µJ; a C_UF of 0 refuses all work (R377). -/
def State.huEnough (s : State) (est : Nat) : Bool :=
  s.huFresh && s.get R.HU_CAP_C_UF != 0 && decide ((2 * est * 512000000 : Nat) ≤ s.huScaled)

/-- The latest check as WSTORE.HU_STAT shows it (R388). -/
def State.huShow (s : State) (pass : Bool) : State :=
  ((s.put R.HU_STAT_V_MV (s.ws.vhu.sum / 16)).put R.HU_STAT_E_UJ (Int.fdiv s.huScaled 512000000).toNat).put R.HU_STAT_PASS pass.toNat

/-- VDD_PROG lies within 2.50 V ± 2 % on channel 44 (R485, R490). -/
def State.progRail (s : State) : Bool := decide (2450000 ≤ sxNat 32 (s.get (R.VAL 44))) && decide (sxNat 32 (s.get (R.VAL 44)) ≤ 2550000)

/-- The estimate of a piece of work, in µJ (R377). -/
def State.huEst (s : State) (i : HuItem) : Nat :=
  if i = .batch then
    (match s.nextJob.bind fun j => s.ws.jobs[j]? with | some j => (s.nextBatch j).length | none => 0) * s.get R.HU_EST_EARR_UJ + s.get R.HU_EST_EFIX_UJ
  else s.get R.HU_EST_ECFG_UJ

/-- Writes of the part's own records: retried until they succeed (R377, R432, R437). -/
def HuItem.own : HuItem → Bool
  | .table | .hist _ | .remap | .powered | .devRec | .tries | .commit | .confirm | .entry .. => true
  | .batch | .fab _ | .switchRec .. | .enrol .. | .fleet .. | .cal | .fwHead _ | .fwBody .. | .activate => false

/-- Writes of a firmware update, made in their order (R475). -/
def HuItem.fw : HuItem → Bool
  | .fwHead _ | .fwBody .. | .activate => true
  | _ => false

/-- The remap record as it is now (R445). -/
def State.writeRemap (s : State) : State :=
  let l := (List.range 256).filter fun l => s.get (R.REMAP_ADOPTED l) = 1
  { s with cfg := { s.cfg with remap := l, spares := (List.range 32).foldl (fun (m : Sparse Nat) n => sset 0 m n (s.spareState n)) s.cfg.spares } }

/-- A piece of work starts, its check having passed. -/
def State.huDo (s : State) (i : HuItem) : State :=
  match i with
  | .batch => s.startBatch
  | .table => { s with cfg := { s.cfg with table := s.tableNow } }
  | .hist t => { s with cfg := { s.cfg with hist := sset Hist.init s.cfg.hist t (s.histOf t) } }
  | .remap => s.writeRemap
  | .powered => { s with cfg := { s.cfg with powered := s.powered } }
  | .devRec =>
    { s with cfg := { s.cfg with fault := some (s.get R.FLT_CAUSE_CAUSE, s.get R.FLT_CAUSE_SITE, s.fe.log.drop (s.fe.log.length - 8)) } }
  | .tries => s.triesDone
  | .commit => s.commitBoot
  | .confirm => { s with cfg := { s.cfg with record := none } }
  | .fab v => { s with cfg := { s.cfg with fab := v } }
  | .switchRec n k => { s with cfg := { s.cfg with record := some (n, k) }, ws := { s.ws with record := some (n, k) } }.switchAck 0
  | .enrol m slot key => s.enrolled m slot key
  | .fleet c p =>
    let s := { s with cfg := { s.cfg with pkg := some p } }
    match c with
    | some c => s.complete c (.st stDONE 0)
    | none => (match s.secu.update with | some u => s.setUpdate (some { u with applied := true }) | none => s).reply "ApplyComplete" 0
  | .cal => s.calDone
  | .entry t a k =>
    if s.fe.repairs.contains (t, a, k) then
      let s := s.repairDone t a k
      { s with cfg := { s.cfg with table := s.tableNow } }
    else s
  | .fwHead zero => s.putHead zero
  | .fwBody off data => s.putBody off data
  | .activate => s.activated

/-- A batch is refused: its load, refresh or spare programming fails (R377); a column repair stays pending (R437). -/
def State.batchRefused (s : State) : State :=
  match s.nextJob.bind fun i => s.ws.jobs[i]? with
  | none => s
  | some j =>
    let s := match j.what with
      | .load => s.loadFail wsHOLDUP
      | .refresh => s.refreshDrop j
      | .spare => s.dropJob j
      | .column _ => s
    s.wantBatch

/-- A piece of work is refused: the operation that needed it fails as its own rule states (R377). -/
def State.huRefused (s : State) (i : HuItem) : State :=
  match i with
  | .batch => s.batchRefused
  | .switchRec .. => s.switchFail wsHOLDUP
  | .enrol m .. => s.secAnswer m 4 rcHOLDUP []
  | .fleet (some c) _ => s.complete c (.st stFAULT wsHOLDUP)
  | .fleet none _ => s.updateRefused true
  | .cal => s.calEnd 4 0
  | .fwHead zero => s.updateRefused (!zero)
  | .fwBody .. => s.updateRefused false
  | .activate => s.reply "ActivateFirmware" 1
  | .fab _ | .table | .hist _ | .remap | .powered | .devRec | .tries | .commit | .confirm | .entry .. => s

/-- The waiting list without its entry `e`. -/
def State.huDrop (s : State) (e : HuEnt) : State := { s with hu := s.hu.filter fun (x : HuEnt) => x.1 != e.1 }

/-- The waiting list with entry `e` to be checked again in 1 ms, its wait counting from `since`. -/
def State.huAgain (s : State) (e : HuEnt) (since : Nat) : State :=
  { s with hu := s.hu.map fun (x : HuEnt) => if x.1 = e.1 then (x.1, since, s.now + msTicks 1) else x }

/-- A refusal counted (R377). -/
def State.huCount (s : State) : State := s.bumpEvt R.HOLDUP_REFUSE_CNT R.WS_EVT_HOLDUP_REFUSE

/-- A check has failed: refused at WAIT_MS, or at once when VDD_PROG alone is at fault (R490); else repeated in 1 ms. -/
def State.huFail (s : State) (e : HuEnt) (rail : Bool) : State :=
  if rail || decide (e.2.1 + msTicks (s.get R.HU_EST_WAIT_MS) ≤ s.now) then
    if e.1.own then s.huCount.huAgain e s.now else (s.huCount.huDrop e).huRefused e.1
  else (s.bump R.HOLDUP_WAIT_CNT).huAgain e e.2.1

/-- The entry to be checked next: the first one due, writes of a firmware update in their order. -/
def huNext (now : Nat) : List HuEnt → Bool → Option HuEnt
  | [], _ => none
  | e :: r, fw => if decide (e.2.2 ≤ now) && !(fw && e.1.fw) then some e else huNext now r (fw || e.1.fw)

/-- The hold-up check of the work that is due: it passes, waits 1 ms, or refuses. PROG_EN goes high before the check of a batch (R490). -/
def execHoldupCheck (s : State) : Res State :=
  .next (
    match huNext s.now s.hu false with
    | none => s
    | some e =>
      if e.1 = .batch ∧ s.nextJob.isNone then s.huDrop e
      else if e.1 = .batch ∧ !s.board.progEn then
        { s with board := { s.board with progEn := true }, ws := { s.ws with progAt := s.now } }.huAgain e e.2.1
      else
        let enough := s.huEnough (s.huEst e.1)
        let pass := enough && (e.1 != .batch || s.progRail)
        let s := s.huShow pass
        if pass then (s.huDrop e).huDo e.1 else s.huFail e enough)

end Sys2Proof.Machine
end

