-- ==== Sys2Proof/Machine/RegSpace.lean ====
section
/-! DEFINITION. Writes of registers by offset: counter clears, re-arming of captures, TOP.FAB_CFG.SAVE, any other register, the debug port (R49, R84, R95, R119, R194, R195, R220, R250, R252, R277, R278, R290, R318, R353, R389, R425, R455, R471, R478). -/

namespace Sys2Proof.Machine

open Sys2Proof

/-! ### Counter clears -/

/-- Counters cleared when CLR, bit 0 of `w`, is written as 1. -/
def State.clrIf (s : State) (w : Nat) (l : List FRef) : State := if bits w 0 1 = 1 then s.zero l else s

/-- Every counter of the array sequencer of a tile, with ARRERR (R49). -/
def ctrSeqAll (t : Nat) : List FRef := ctrAseq t ++ (List.range 64).flatMap fun a => ctrArrerr t a

/-- Every counter of the networks (R220). -/
def ctrNetAll : List FRef := ctrNet ++ (List.range 288).flatMap ctrRouter

/-- ASEQ_CNT_CLR (R49). -/
def execAseqCntClr (src : Partner) (t : Site) (v : BitVec 32) (s : State) : Res State :=
  .next (s.barWrite src (tileOff t 0x2018) 4 v.toNat fun _ w s => s.clrIf w (ctrSeqAll t.val))
/-- RQU_CNT_CLR (R84). -/
def execRquCntClr (src : Partner) (t : Site) (v : BitVec 32) (s : State) : Res State :=
  .next (s.barWrite src (tileOff t 0x2100) 4 v.toNat fun _ w s => s.clrIf w (ctrRqu t.val))
/-- TILE_CNT_CLR (R119). -/
def execTileCntClr (src : Partner) (t : Site) (v : BitVec 32) (s : State) : Res State :=
  .next (s.barWrite src (tileOff t 0x5C) 4 v.toNat fun _ w s => s.clrIf w (ctrTile t.val))
/-- MC_CNT_CLR (R195). -/
def execMcCntClr (src : Partner) (sec : Sector) (v : BitVec 32) (s : State) : Res State :=
  .next (s.barWrite src (0x1004028 + 0x10000 * sec.val) 4 v.toNat fun _ w s => s.clrIf w (ctrMc sec.val))
/-- NET_CNT_CLR (R220). -/
def execNetCntClr (src : Partner) (v : BitVec 32) (s : State) : Res State :=
  .next (s.barWrite src 0x400C 4 v.toNat fun _ w s => s.clrIf w ctrNetAll)
/-- SYNC_CNT_CLR (R250). -/
def execSyncCntClr (src : Partner) (v : BitVec 32) (s : State) : Res State :=
  .next (s.barWrite src 0x50001C 4 v.toNat fun _ w s => s.clrIf w ctrSync)
/-- DMA_CNT_CLR: the channels' BYTES too (R252). -/
def execDmaCntClr (src : Partner) (v : BitVec 32) (s : State) : Res State :=
  .next (s.barWrite src 0x60000C 4 v.toNat fun _ w s => s.clrIf w (ctrDma ++ ctrBytes))
/-- LNK_CNT_CLR (R278). -/
def execLnkCntClr (src : Partner) (l : LinkIx) (v : BitVec 32) (s : State) : Res State :=
  .next (s.barWrite src (0xC0001C + 0x1000 * l.val) 4 v.toNat fun _ w s => s.clrIf w (ctrLnk l.val))
/-- FAB_CNT_CLR (R278). -/
def execFabCntClr (src : Partner) (v : BitVec 32) (s : State) : Res State :=
  .next (s.barWrite src 0x5040 4 v.toNat fun _ w s => s.clrIf w ctrFab)
/-- HQ_CNT_CLR (R318). -/
def execHqCntClr (src : Partner) (p : Port) (v : BitVec 32) (s : State) : Res State :=
  .next (s.barWrite src (0x601C + 0x100 * p.val) 4 v.toNat fun _ w s => s.clrIf w (ctrHq p.val))
/-- SERVE_CNT_CLR (R353). -/
def execServeCntClr (src : Partner) (v : BitVec 32) (s : State) : Res State :=
  .next (s.barWrite src 0x700020 4 v.toNat fun _ w s => s.clrIf w ctrServe)
/-- WSTORE_CNT_CLR (R389). -/
def execWstoreCntClr (src : Partner) (v : BitVec 32) (s : State) : Res State :=
  .next (s.barWrite src 0x800074 4 v.toNat fun _ w s => s.clrIf w ctrWs)
/-- PWR_CNT_CLR (R425). -/
def execPwrCntClr (src : Partner) (v : BitVec 32) (s : State) : Res State :=
  .next (s.barWrite src 0x100034 4 v.toNat fun _ w s => s.clrIf w ctrPwr)
/-- HK_CNT_CLR (R425). -/
def execHkCntClr (src : Partner) (v : BitVec 32) (s : State) : Res State :=
  .next (s.barWrite src 0x200034 4 v.toNat fun _ w s => s.clrIf w ctrHk)
/-- FLT_CNT_CLR (R455). -/
def execFltCntClr (src : Partner) (v : BitVec 32) (s : State) : Res State :=
  .next (s.barWrite src 0xA01C 4 v.toNat fun _ w s => s.clrIf w ctrFlt)
/-- SECU_CNT_CLR (R478). -/
def execSecuCntClr (src : Partner) (v : BitVec 32) (s : State) : Res State :=
  .next (s.barWrite src 0x30000C 4 v.toNat fun _ w s => s.clrIf w ctrSecu)
/-- MGMT_CNT_CLR (R478). -/
def execMgmtCntClr (src : Partner) (v : BitVec 32) (s : State) : Res State :=
  .next (s.barWrite src 0x400008 4 v.toNat fun _ w s => s.clrIf w ctrMgmt)

/-! ### Captures (R95, R194) -/

/-- SPEVT.SP_OWNER written as 1 re-arms the capture of SPERR (R95). -/
def State.rearmSp (s : State) (t w : Nat) : State := if bits w 0 1 = 1 then s.put (R.SPERR_VALID t) 0 else s

/-- MC_EVT.UE written as 1 re-arms the capture of UE_ADDR and UE_TAG; VALID clears at once (R194). -/
def State.rearmUe (s : State) (n w : Nat) : State := if bits w 1 1 = 1 then s.put (R.UE_ADDR_VALID n) 0 else s

/-- A write of SPEVT. -/
def execSpevtSpOwnerClear (src : Partner) (t : Site) (v : BitVec 32) (s : State) : Res State :=
  .next (s.barWrite src (tileOff t 0x1C) 4 v.toNat fun _ w s => s.rearmSp t.val w)

/-- A write of MC_EVT. -/
def execMcEvtUeClear (src : Partner) (sec : Sector) (v : BitVec 32) (s : State) : Res State :=
  .next (s.barWrite src (0x1004010 + 0x10000 * sec.val) 4 v.toNat fun _ w s => s.rearmUe sec.val w)

/-! ### TOP.FAB_CFG (R277) -/

/-- SAVE stores the register in the configuration area, once its hold-up check passes. -/
def State.fabSave (s : State) (w : Nat) : State := if bits w 63 1 = 1 then s.hold (.fab s.fabCfg) else s

/-- A write of TOP.FAB_CFG. -/
def execFabCfgSave (src : Partner) (v : BitVec 64) (s : State) : Res State :=
  .next (s.barWrite src 0x5000 8 v.toNat fun _ w s => s.fabSave w)

/-! ### Any register (R284, R290) -/

/-- LNK[l].CTL.EN takes a link out of service, its packets going on the rest of its direction, or lets it train (Table 9-3); a FAILED link stays FAILED (R258), an OFF one counts as none (R254). -/
def State.lnkCtl (s : State) (l : Nat) : State :=
  let st := s.get (R.LNK_STAT_STATE l)
  if st = lkFAILED then s
  else if s.get (R.LNK_CTL_EN l) = 1 then (if 6 ≤ s.get R.STATE_STEP then s.trainIfUsed l else s)
  else if st = lkOFF then s
  else
    let s := ((s.unuse l).put (R.LNK_STAT_STATE l) lkOFF).onLnk l fun k => { k with misAt := none, trainAt := none }
    (s.resend (linkDir l) l).startAdvance

/-- LAT_CTL: a MODE_REQ that differs from the mode in force starts a switch (R209). -/
def State.latCtl (s : State) : State :=
  if s.get R.LAT_CTL_MODE_REQ ≠ s.get R.LAT_STAT_MODE ∧ s.get R.LAT_STAT_SWITCHING = 0 then
    { s.put R.LAT_STAT_SWITCHING 1 with latSw := some s.now }
  else s

/-- The action bits of a DMA channel's CTL; ENABLE lets a pending chain start (R237, R246, R251). -/
def State.chCtlBits (s : State) (c w : Nat) : State :=
  let s := if bits w 1 1 = 1 then s.chResume c else s
  let s := if bits w 2 1 = 1 then s.chFlush c else s
  let s := if bits w 3 1 = 1 then s.chAbort c else s
  s.chanNext c

/-- What a write of a DMA channel's register does besides: `o` is its offset within the channel. -/
def State.chHook (s : State) (src c o w : Nat) : State :=
  if o = 0 then s.chCtlBits c w else if o = 8 then s.chanKick src c w else s

/-- What a write of a tile's register `o` does besides. -/
def State.tileHook (s : State) (src : Nat) (t : Site) (o w : Nat) : State :=
  if o = 4 then s.tileCtl t w
  else if o = 0x10 then s.spownSet src t w
  else if o = 0x14 then s.spretSet t w
  else if o = 0x1C then s.rearmSp t.val w
  else if o = 0x5C then s.clrIf w (ctrTile t.val)
  else if o = 0x2018 then s.clrIf w (ctrSeqAll t.val)
  else if o = 0x2100 then s.clrIf w (ctrRqu t.val)
  else s

/-- What a write of register `o` of sector `n` does besides: REF2X_FORCE of MC_CTL acts at once (R189). -/
def State.sctHook (s : State) (src n o w : Nat) : State :=
  if o = 0x4000 then s.refRate n false
  else if o = 0x4010 then s.rearmUe n w
  else if o = 0x4028 then s.clrIf w (ctrMc n)
  else if 0x6000 ≤ o ∧ o < 0x6200 then s.chHook src (8 * n + (o - 0x6000) / 0x40) (o % 0x40) w
  else s

/-- What a write of a register of TOP does besides. -/
def State.topHook (s : State) (src : Partner) (b w : Nat) : State :=
  if b = 0x30 then s.rstCtl src w
  else if b = 0x34 then s.setupLock src w
  else if b = 0x4000 then s.latCtl
  else if b = 0x400C then s.clrIf w ctrNetAll
  else if b = 0x5000 then s.fabSave w
  else if b = 0x5028 then s.stepMark (srcCode src) w
  else if b = 0x5040 then s.clrIf w ctrFab
  else if b = 0x6014 ∨ b = 0x6114 then (let p := (b - 0x6000) / 0x100; if bits w 0 1 = 1 then s.aqEnable p else s.aqDisable p)
  else if b = 0x601C ∨ b = 0x611C then s.clrIf w (ctrHq ((b - 0x6000) / 0x100))
  else if b = 0xA01C then s.clrIf w ctrFlt
  else s

/-- What a write of a register of the other blocks does besides. -/
def State.blockHook (s : State) (src b w : Nat) : State :=
  if b = 0x100020 then s.calGo w
  else if b = 0x100034 then s.clrIf w ctrPwr
  else if b = 0x200020 then s.droopCtl w
  else if b = 0x200034 then s.clrIf w ctrHk
  else if b = 0x30000C then s.clrIf w ctrSecu
  else if b = 0x400008 then s.clrIf w ctrMgmt
  else if b = 0x500000 then s.objCmd src w
  else if b = 0x500008 then s.hostSig src w
  else if b = 0x50001C then s.clrIf w ctrSync
  else if b = 0x60000C then s.clrIf w (ctrDma ++ ctrBytes)
  else if 0x601000 ≤ b ∧ b < 0x601400 then s.chHook src (256 + (b - 0x601000) / 0x40) (b % 0x40) w
  else if b = 0x700020 then s.clrIf w ctrServe
  else if b = 0x800074 then s.clrIf w ctrWs
  else if b = 0x800078 then (if bits w 31 1 = 1 then s.queueRefresh (bits w 0 8) else s)
  else s

/-- What a write of the register at `b` does besides holding its fields: the effect that a row of its own gives it. -/
def State.regHook (s : State) (src : Partner) (b w : Nat) : State :=
  if 0x2000000 ≤ b then s.tileHook (srcCode src) (Fin.ofNat 288 ((b - 0x2000000) / 0x10000)) (b % 0x10000) w
  else if 0x1000000 ≤ b then s.sctHook (srcCode src) ((b - 0x1000000) / 0x10000) (b % 0x10000) w
  else if 0xC00000 ≤ b then
    (if b % 0x1000 = 0 then s.lnkCtl ((b - 0xC00000) / 0x1000)
     else if b % 0x1000 = 0x1C then s.clrIf w (ctrLnk ((b - 0xC00000) / 0x1000)) else s)
  else if b < 0x100000 then s.topHook src b w
  else s.blockHook (srcCode src) b w

/-! ### BAR4 of a port: the mailbox and the MSI-X table (R281, R283, R304, R465, R477) -/

/-- The transport of a port's mailbox. -/
def mboxVia (p : Nat) : Transport := if p = 0 then .mailboxA else .mailboxB

/-- The mailbox of a port. -/
def State.mboxAt (s : State) (p : Nat) : Mailbox := sget Mailbox.init s.secu.mbox p

/-- The CODE and the message in a request buffer: VER in byte 1, TAG in bytes 2 and 3, LEN in bytes 4 to 7 and the payload; of one whose LEN passes the buffer nothing is taken but its header, with a VER that is answered INVALID (R465). -/
def mboxMsg (p : Nat) (b : Sparse Byte) : Nat × SecMsg :=
  let at_ (o n : Nat) : List Byte := (List.range n).map fun i => sget 0 b (o + i)
  let len := leNat (at_ 4 4)
  let fits := decide (len + 8 ≤ 4096)
  (leNat (at_ 0 1), ⟨mboxVia p, if fits then sget 0 b 1 else 0, BitVec.ofNat 16 (leNat (at_ 2 2)), if fits then at_ 8 len else []⟩)

/-- MB_CTL.GO submits what the request buffer holds (R477). -/
def State.mboxGo (s : State) (p : Nat) : State :=
  let e := mboxMsg p (s.mboxAt p).buf
  s.secMsg e.1 e.2

/-- MB_STAT.DONE, written as 1, clears (R477). -/
def State.mboxDone (s : State) (p w : Nat) : State :=
  if bits w 1 1 = 1 then s.onMbox (mboxVia p) fun b => { b with done := false } else s

/-- Bytes written into the request buffer from its offset `o` (R477). -/
def State.mboxPut (s : State) (p o : Nat) (l : List Byte) : State :=
  s.onMbox (mboxVia p) fun b => { b with buf := l.zipIdx.foldl (fun (m : Sparse Byte) (e : Byte × Nat) => sset 0 m (o + e.2) e.1) b.buf }

/-- A vector left pending is sent once neither it nor the function is masked (R304). -/
def State.msixFlush (s : State) (p v : Nat) : State :=
  let x := s.port p
  if x.msixEn && !x.msixFm && !(sget Vec.init x.vecs v).masked && (sget Vec.init x.vecs v).pend then
    (s.onPort p fun x => { x with vecs := supd Vec.init x.vecs v fun e => { e with pend := false } }).msixSend p v
  else s

/-- Every vector left pending, looked at again. -/
def State.msixFlushAll (s : State) (p : Nat) : State := s.each ((s.port p).vecs.map (·.1)) fun s v => s.msixFlush p v

/-- Word `i` of the MSI-X table, four to a vector: address, its upper half, data, and the mask in bit 0 (R281; layout PRESUMED, PCI Express, log entry 89). -/
def State.msixWord (s : State) (p i w : Nat) : State :=
  let v := i / 4
  let set (f : Vec → Vec) (s : State) : State := s.onPort p fun x => { x with vecs := supd Vec.init x.vecs v f }
  match i % 4 with
  | 0 => set (fun e => { e with addr := e.addr / 2 ^ 32 * 2 ^ 32 + w }) s
  | 1 => set (fun e => { e with addr := e.addr % 2 ^ 32 + w * 2 ^ 32 }) s
  | 2 => set (fun e => { e with data := w }) s
  | _ => (set (fun e => { e with masked := w % 2 == 1 }) s).msixFlush p v

/-- A write of BAR4 of port `p`: MB_CTL, MB_STAT, the request buffer, discarded and logged while BUSY, or the MSI-X table; nothing else there is written (Table 10-1, R477). -/
def State.bar4Write (s : State) (p off size v : Nat) : State :=
  if off = 0 then (if v % 2 = 1 then s.mboxGo p else s)
  else if off = 4 then s.mboxDone p v
  else if 0x100 ≤ off ∧ off + size ≤ 0x1100 then
    (if (s.mboxAt p).busy then s.clampLog off p .discard 0 (8 * size) v (leNat ((List.range size).map fun i => sget 0 (s.mboxAt p).buf (off - 0x100 + i)))
     else s.mboxPut p (off - 0x100) (leBytes size v))
  else if 0x10000 ≤ off ∧ off + size ≤ 0x18000 ∧ off % 4 = 0 ∧ size % 4 = 0 then
    s.each (List.range (size / 4)) fun s i => s.msixWord p ((off - 0x10000) / 4 + i) (bits v (32 * i) 32)
  else s

/-- A write of a field of port `p`'s configuration space (R281): sizes by their codes, at most 512 and 4,096 bytes; power state 3 is D3hot (PRESUMED, PCI Express, log entry 89). -/
def State.cfgWrite (s : State) (p : Nat) (f : CfgField) (v : Nat) : State :=
  match f with
  | .msixEnable => (s.onPort p fun x => { x with msixEn := v % 2 == 1 }).msixFlushAll p
  | .msixMask => (s.onPort p fun x => { x with msixFm := v % 2 == 1 }).msixFlushAll p
  | .payload => s.onPort p fun x => { x with mps := 128 * 2 ^ min v 2 }
  | .readReq => s.onPort p fun x => { x with mrrs := 128 * 2 ^ min v 5 }
  | .power => s.onPort p fun x => if v % 4 = 3 then { x with d3 := true } else if v % 4 = 0 then { x with d3 := false } else x
  | .aspm => s.onPort p fun x => { x with aspm := bits v 1 1 == 1 }

/-- The port a host reaches the part through. -/
def portOf : Partner → Option Nat
  | .portA => some 0 | .portB => some 1 | .firmware | .mgmt => none

/-- A write of BAR0 at any offset: checked, clamped, discarded or applied, with what the register does besides (R284 to R295); or, through a port, of its BAR4 (R477) or its configuration space (R281). -/
def execRegisterWrite (src : Partner) (off size v : Nat) (s : State) (sp : RegSpace := .bar0) : Res State :=
  .next (
    match sp, portOf src with
    | .bar0, _ => s.barWrite src off size v fun b w s => s.regHook src b w
    | .bar4, some p => if s.portOn p then s.bar4Write p off size (v % 2 ^ (8 * size)) else s
    | .cfg f, some p => if s.portIs p then s.cfgWrite p f v else s
    | .bar4, none => s
    | .cfg _, none => s)

/-! ### The debug port (R471) -/

/-- An access through the debug port: refused while LOCKED; while UNLOCKED it reaches tile registers and scratchpads, and the control cores, whose contents the model does not hold. -/
def execDebugAccess (x : DbgAcc) (s : State) : Res State :=
  .next (
    if !s.unlocked then s
    else
      match x with
      | .tileReg t off none => s.emit (.debugData (s.regRaw (tileOff t off.toNat) 4))
      | .tileReg t off (some v) => s.barWrite .firmware (tileOff t off.toNat) 4 v.toNat fun b w s => s.regHook .firmware b w
      | .scratch t a none => s.emit (.debugData (leNat (s.spBytes t a.toNat 1)))
      | .scratch t a (some b) => s.spPut t a.toNat [b]
      | .core _ => s)

end Sys2Proof.Machine
end

