-- ==== Sys2Proof/Machine/Clock.lean ====
section
/-! DEFINITION. The passing of a tick: what the step does while no command waits (R12, R20, R30, R45, R99, R119, R195, R220, R233, R256, R272, R274, R311, R399, R404, R416, R429, R432, R466). -/

namespace Sys2Proof.Machine

open Sys2Proof

/-- Whether the root clock runs: from step 5 on, until it is lost (R396, R400). -/
def State.rooted (s : State) : Bool := decide (5 ≤ s.get R.STATE_STEP) && s.get R.PWR_STAT_CLK_SRC == 1

/-- The time counter advances; a slew of one tick is taken every 1,000,000 / SLEW_PPM ticks (R272, R274). -/
def State.tickTime (s : State) : State :=
  if !s.rooted then s
  else
    let due := decide (8 ≤ s.tm.slew.natAbs) && s.now % (1000000 / s.get R.TC_CTL_SLEW_PPM) == 0
    let up := decide (0 ≤ s.tm.slew)
    let t := if due then (if up then s.tm.time + 2 else s.tm.time) else s.tm.time + 1
    { s with tm := { s.tm with time := t % 2 ^ 64, slew := if due then (if up then s.tm.slew - 8 else s.tm.slew + 8) else s.tm.slew } }

/-- Powered seconds count while VDD_AON is up (R432). -/
def State.tickPowered (s : State) : State :=
  if s.board.aonAt.isNone then s
  else if s.fe.frac + 1 < 940000000 then { s with fe := { s.fe with frac := s.fe.frac + 1 } }
  else { s with fe := { s.fe with frac := 0 } }.bump R.POWERED_S_S

/-- Work that nothing but the issue gate may withhold: an ARR.MVM or TU.MMA at the head of its queue, or a block of the RQU.QV in progress (R404). -/
def Tile.gateWork (x : Tile) : Bool :=
  x.awake &&
    ((x.qArr.head == .free && match x.qArr.ents with | e :: _ => (match e.op with | .arrMvm .. => true | _ => false) | [] => false) ||
     (x.qTu.head == .free && x.tu.isNone && match x.qTu.ents with | e :: _ => (match e.op with | .tuMma .. => true | _ => false) | [] => false) ||
     (match x.rqu with | some r => (match r.e.op with | .rquQv _ _ _ _ _ _ nb => decide (r.blk < nb) | _ => false) | none => false))

/-- The arrays whose final promotion waits for their edge output buffer (R87). -/
def Tile.stalled (x : Tile) : Nat :=
  (x.arr.filter fun e => e.2.edge.isSome && match e.2.op with | some op => op.test.isNone && e.2.draining op | none => false).length

/-- The cycle counters of tile `t` (R119, R220, R404); EDGE_STALL_CYC counts a cycle for each array delayed (DESIGN CHOICE, log entry 86). -/
def State.tickTile (s : State) (t : Nat) (x : Tile) : State :=
  let up (c : Bool) (f : FRef) (s : State) : State := if c then s.bump f else s
  let s := s.bump (R.EDGE_STALL_CYC t) x.stalled
  let s := up (decide (16 ≤ x.ejFlits)) (R.RT_EJ_FULL_CYC t) s
  let s := up (x.gateWork && !s.gateOpen (Fin.ofNat 288 t)) R.THROTTLE_CYC s
  up x.tu.isSome (R.TU_BUSY_CYC t) (up x.qSync.waits (R.SYNC_HW_CYC t) (up x.qDma.waits (R.DMA_HW_CYC t)
    (up x.qTu.waits (R.TU_HW_CYC t) (up x.qArr.waits (R.ARR_HW_CYC t) (up (x.vc == .issueStall) (R.VC_ISTALL_CYC t) s)))))

/-- An array controller as time passes: LOAD gives way to CONV, or to DRAIN with no bit plane to convert, once its first plane is counted, 2 cycles after acceptance (R30); a programming slot ends after its 32 cycles (R20, Table 1-10). -/
def ArrCtl.pass (now : Nat) (c : ArrCtl) : ArrCtl :=
  match c.st with
  | .load => if c.loadAt + 2 ≤ now then { c with st := match c.op with | some op => if op.plan.isEmpty then .drain else .conv | none => .idle } else c
  | .prog => if c.slotEnd ≤ now then { c with st := .idle } else c
  | .idle | .conv | .rerun | .drain | .test | .halt => c

/-- A tile as time passes: its controllers, and since when it has been parked (R45, R233). -/
def Tile.pass (now : Nat) (x : Tile) : Tile :=
  let x := x.arr.foldl (fun (x : Tile) (e : Nat × ArrCtl) => x.onCtl e.1 (ArrCtl.pass now)) x
  { x with parked := if x.isParked then (match x.parked with | some n => some n | none => some now) else none }

/-- Ownership changes executed 8 cycles ago take effect, if they have not yet (R99). -/
def State.ownDue (s : State) (t : Site) : State :=
  s.each (List.range 8) fun s b => if ((s.tile t).bank b).chg.any fun c => decide (c.time + 8 ≤ s.now) then s.ownEffect t b else s

/-- What passes in tile `t` in a tick. -/
def State.passTile (s : State) (t : Nat) : State :=
  let u : Site := Fin.ofNat 288 t
  if (s.tile u).clkOff then s else (s.onTile u (Tile.pass s.now)).ownDue u

/-- The tail of what waits on a link leaves (R256). -/
def State.tickLinks (s : State) : State :=
  s.each (s.lnks.filter fun e => !e.2.wait.isEmpty) fun s e => s.linkPump e.1 true (s.lnk e.1).pumps

/-- With no ACTIVE torus link there is no beacon to wait for: the fabric uses the binding at once (R311; DESIGN CHOICE, log entry 86). -/
def State.tickBind (s : State) : State :=
  if (List.range 48).any fun l => s.get (R.LNK_STAT_STATE l) == lkACTIVE then s else { s with fbind := s.bind }

/-- The milliseconds that stacks spend at the double refresh rate (R195). -/
def State.tickMs (s : State) : State :=
  if s.now % msTicks 1 ≠ 0 then s
  else s.each (List.range 32) fun s n => if s.get (R.MC_STAT_REF2X n) = 1 then s.bump (R.REF2X_MS n) else s

/-- What the part's own engines do when they have something to do: the end of a wake, decisions of the fault engine, ends of requests, the judgement of the slice, an orderly stop. -/
def State.tickWork (s : State) : State :=
  let s := if s.pw.wake.isSome then s.wakeEnd else s
  let s := if s.fe.deciding.isNone && s.fe.pend.isEmpty && s.fe.repairs.isEmpty && s.ws.spares.isEmpty then s else s.engineRun
  let s := if s.fails.isEmpty then s else s.endFailed
  let s := if s.serve.reqs.any fun e => e.2.waitEnd.isSome then s.postEnds else s
  let s := if s.bind.isSome then s.serveJudge else s
  let s := if s.secu.wait.isEmpty then s else s.secNext
  let s := if s.ws.load.any fun l => l.whole l.got.length then s.chunkTurn else s
  if s.pw.stopAt.isSome then s.stopCheck else s

/-- After a droop a sector's clock omits one edge in every 16: that of the ticks that 16 divides (R394; which one, DESIGN CHOICE, log entry 86). -/
def State.omits (s : State) (t : Nat) : Bool := (s.sec (t / 9)).droop && s.now % 16 == 0

/-- One tick of 940 MHz. -/
def State.tick (s : State) : State :=
  let s := (({ s with now := s.now + 1 }.tickTime).tickPowered).tickMs
  let s := s.each s.tiles fun s e => if s.omits e.1 then s else (s.tickTile e.1 e.2).passTile e.1
  (s.tickLinks.tickBind).tickWork

end Sys2Proof.Machine
end

