-- ==== Sys2Proof/Machine/Tensor.lean ====
section
/-! DEFINITION. The tensor unit (R105 to R110, R141). -/

namespace Sys2Proof.Machine

open Sys2Proof

/-- Operand classes of Table 3-4: FP8, MX, INT8, 16-bit; none for other formats. -/
def tuClass (f : Nat) : Option Nat :=
  if f = 3 ∨ f = 4 then some 0 else if f = 6 ∨ f = 7 then some 1 else if f = 5 then some 2
  else if f = 1 ∨ f = 2 then some 3 else none

/-- Whether a result format is listed for a class (Table 3-4). -/
def tuResultOk (cls fc : Nat) : Bool := if cls = 2 then decide (fc ≤ 1) else decide (fc ≤ 4)

/-- Element width in a K-slot. -/
def tuBits (f : Nat) : Nat := if f = 6 then 4 else if f = 1 ∨ f = 2 then 16 else 8

/-- Bytes of a K-slot: 64 times the rate factor (R141). -/
def slotBytes (f : Nat) : Nat := if f = 1 ∨ f = 2 then 128 else 64

/-- The reads of an operand of `rows` vectors of `kb` slots at `a`: its elements, and the scale bytes of an MX operand from the next 64-byte boundary on (R141). -/
def operandReads (f a rows kb : Nat) : List (Nat × Nat) :=
  let n := rows * kb * slotBytes f
  (a, n) :: if f = 6 ∨ f = 7 then [(up64 (a + n), rows * kb * 2)] else []

/-- Element k of vector r of an operand held as one number, its scale bytes following its elements. -/
def tuElem (f : Nat) (v : Nat) (rows kb r k : Nat) : FVal :=
  let code := bits v (8 * ((r * kb + k / 64) * slotBytes f) + tuBits f * (k % 64)) (tuBits f)
  let e8 := if f = 6 ∨ f = 7 then bits v (8 * (rows * kb * slotBytes f + r * kb * 2 + k / 32)) 8 else 0
  elemVal f 0 code e8

/-- The exact sum of the products of one K-block (R107). -/
def tuBlock (x y : Nat → FVal) (k0 n : Nat) : FVal :=
  ((List.range n).map fun i => (fmul (x (k0 + i)) (y (k0 + i))).1).foldl (fun (a : Option FVal) p =>
    some (match a with | none => p | some b => (fadd b p).1)) none |>.getD FVal.zero

/-- One result of the floating classes: K-blocks rounded to FP32 and added in ascending order (R107). -/
def tuDot (x y : Nat → FVal) (c : FVal) (k : Nat) : FVal :=
  (List.range ((k + 63) / 64)).foldl (fun acc j =>
    let b := f32dec (f32enc (tuBlock x y (64 * j) (min 64 (k - 64 * j)))).1
    f32dec (f32enc (fadd acc b).1).1) c

/-- One result of the INT8 class: an exact sum (R107). An accumulated FP32 or BF16 C is added to it exactly, and the whole is rounded once (DESIGN CHOICE, log entry 86). -/
def tuDotInt (x y : Nat → FVal) (c : FVal) (k : Nat) : FVal :=
  (fadd c ((List.range k).foldl (fun a i => (fadd a (fmul (x i) (y i)).1).1) FVal.zero)).1

/-- Width in bytes of a result format (Table 2-1). -/
def resBytes (fc : Nat) : Nat := if fc = 1 ∨ fc = 2 then 2 else if fc = 3 ∨ fc = 4 then 1 else 4

/-- The reads of a product through the TU's ports, in the order X, Y, C (Table 3-3). -/
def State.tuReads (s : State) (t : Site) (l : List (Nat × Nat)) : State × Option (List (List Byte)) :=
  match l with
  | [] => (s, some [])
  | (a, n) :: r =>
    let p := s.spLoad t 2 a n
    match p.2 with
    | none => (p.1, none)
    | some b =>
      let q := p.1.tuReads t r
      (q.1, q.2.map (b :: ·))

/-- The TU.MMA at the head of the TU queue starts once the issue gate is open and the banks it reads are awake: operands read and the product formed; its results wait in the tensor unit (R103, R105 to R107, R110, R141, R404). A product of two classes skips the reads of X and Y; one with an operand format that Table 3-4 does not list is treated in the same way (DESIGN CHOICE, log entry 86). -/
def execTuMmaStart (t : Site) (s : State) : Res State :=
  .next (
    let x := s.tile t
    match x.qTu.ents with
    | e :: _ =>
      match e.op with
      | .tuMma xa ya ca m k n0 fx fy fc acc eba rnd ieee =>
        if !(x.awake && x.qTu.head == .free && x.tu.isNone && s.get (R.TILE_CTL_TU_EN t.val) == 1 && s.gateOpen t) then s
        else
          let base := ca % 4096
          let clamp := eba && decide (4096 - base < m * n0)
          let n := if clamp then (4096 - base) / m else n0
          let cls := tuClass fx
          let same := cls.isSome && cls == tuClass fy
          let kb := (k + 63) / 64
          let ok := if same then tuResultOk (cls.getD 0) fc else decide (fc ≤ 4)
          let size := if ok then resBytes fc else 4
          let row := up64 (n * size)
          let useC := acc && !eba
          let xr := if same then operandReads fx xa m kb else []
          let yr := if same then operandReads fy ya n kb else []
          let cr := if useC then (List.range m).map fun i => (ca + i * row, n * size) else []
          s.awake t 2 ((xr ++ yr ++ cr).flatMap fun r => spWords r.1 r.2) fun s =>
          let s := if clamp then s.bump (R.TU_CLAMP_CNT t.val) else s
          let s := if same then s else (s.set1 (R.SPEVT_TU_FMT t.val)).bump (R.TU_CLAMP_CNT t.val)
          let rd := (s.spend t (Config.eventEnergy 0)).tuReads t (xr ++ yr ++ cr)
          match rd.2 with
          | none => rd.1.abortHead t 1 e .spOwner
          | some ds =>
            let xv := leNat (ds.take xr.length).flatten
            let yv := leNat ((ds.drop xr.length).take yr.length).flatten
            let cv := (ds.drop (xr.length + yr.length)).map leNat
            let elem (i j : Nat) : FVal :=
              let c0 := if useC then (if ok then fdec (flay fc) (bits (cv.getD i 0) (8 * size * j) (8 * size)) else FVal.zero)
                else FVal.zero
              if !same then c0
              else if cls = some 2 then tuDotInt (tuElem fx xv m kb i) (tuElem fy yv n kb j) c0 k
              else tuDot (tuElem fx xv m kb i) (tuElem fy yv n kb j) c0 k
            let code (i j : Nat) : Nat :=
              if ok then (fenc fc rnd ieee (elem i j)).1 else (Config.tuResult (s.free + i * n + j)).toNat
            let run : TuRun := if eba then
                ⟨e, [], (List.range m).flatMap fun i => (List.range n).map fun j =>
                  (base + i * n + j, BitVec.ofNat 32 (fenc 0 (if cls = some 2 then rnd else 0) true (elem i j)).1)⟩
              else ⟨e, (List.range m).map fun i => (ca + i * row, (List.range n).flatMap fun j => leBytes size (code i j)), []⟩
            let s := if ok || eba then rd.1 else rd.1.draw (m * n)
            s.onTile t fun x => { x.popQueue 1 .free with tu := some run }
      | _ => s
    | [] => s)

/-- The tensor unit's writes, in order; false when one was dropped. -/
def State.tuWrites (s : State) (t : Site) (l : List (Nat × List Byte)) : State × Bool :=
  match l with
  | [] => (s, true)
  | (a, bs) :: r =>
    let p := s.spStore t 2 0 a bs
    if p.2 then p.1.tuWrites t r else p

/-- A TU.MMA writes its results, or has had its last partial accepted by the EBA, and is counted (R105, R119, Table 3-2). -/
def execTuMmaComplete (t : Site) (s : State) : Res State :=
  .next (
    let x := s.tile t
    match x.tu with
    | none => s
    | some r =>
      if !(x.awake && r.parts.isEmpty) then s
      else
        s.awake t 2 (r.out.flatMap fun o => spWords o.1 o.2.length) fun s =>
          let w := s.tuWrites t r.out
          let s := if w.2 then w.1 else w.1.vcExc t .spOwner r.e.pc r.e.ord
          (s.bump (R.TU_OP_CNT t.val)).onTile t fun x => { x with tu := none })

end Sys2Proof.Machine
end

