-- ==== Sys2Proof/Machine/Dispatch.lean ====
section
/-! DEFINITION. The effect of every command on everything but the queue: one arm per constructor. -/

namespace Sys2Proof.Machine

open Sys2Proof

/-- The effect of a command on the state. -/
def exec (i : Instr) (s : State) : Host.Outcome State Fault Refusal :=
  match i with
  | .nop t f => Sys2Proof.Machine.execNop t f s
  | .add t f => Sys2Proof.Machine.execAdd t f s
  | .sub t f => Sys2Proof.Machine.execSub t f s
  | .mul t f => Sys2Proof.Machine.execMul t f s
  | .and t f => Sys2Proof.Machine.execAnd t f s
  | .or t f => Sys2Proof.Machine.execOr t f s
  | .xor t f => Sys2Proof.Machine.execXor t f s
  | .shl t f => Sys2Proof.Machine.execShl t f s
  | .shr t f => Sys2Proof.Machine.execShr t f s
  | .sra t f => Sys2Proof.Machine.execSra t f s
  | .slt t f => Sys2Proof.Machine.execSlt t f s
  | .sltu t f => Sys2Proof.Machine.execSltu t f s
  | .movi t f => Sys2Proof.Machine.execMovi t f s
  | .movhi t f => Sys2Proof.Machine.execMovhi t f s
  | .faddS t f => Sys2Proof.Machine.execFaddS t f s
  | .fmulS t f => Sys2Proof.Machine.execFmulS t f s
  | .ldS t f => Sys2Proof.Machine.execLdS t f s
  | .stS t f => Sys2Proof.Machine.execStS t f s
  | .beq t f => Sys2Proof.Machine.execBeq t f s
  | .bne t f => Sys2Proof.Machine.execBne t f s
  | .blt t f => Sys2Proof.Machine.execBlt t f s
  | .bge t f => Sys2Proof.Machine.execBge t f s
  | .jmp t f => Sys2Proof.Machine.execJmp t f s
  | .jr t f => Sys2Proof.Machine.execJr t f s
  | .halt t f => Sys2Proof.Machine.execHalt t f s
  | .brk t f => Sys2Proof.Machine.execBrk t f s
  | .rds t f => Sys2Proof.Machine.execRds t f s
  | .wrs t f => Sys2Proof.Machine.execWrs t f s
  | .vadd t f => Sys2Proof.Machine.execVadd t f s
  | .vsub t f => Sys2Proof.Machine.execVsub t f s
  | .vmul t f => Sys2Proof.Machine.execVmul t f s
  | .vfma t f => Sys2Proof.Machine.execVfma t f s
  | .vfms t f => Sys2Proof.Machine.execVfms t f s
  | .vmin t f => Sys2Proof.Machine.execVmin t f s
  | .vmax t f => Sys2Proof.Machine.execVmax t f s
  | .vabs t f => Sys2Proof.Machine.execVabs t f s
  | .vneg t f => Sys2Proof.Machine.execVneg t f s
  | .vsel t f => Sys2Proof.Machine.execVsel t f s
  | .vmov t f => Sys2Proof.Machine.execVmov t f s
  | .vbcst t f => Sys2Proof.Machine.execVbcst t f s
  | .vcmpeq t f => Sys2Proof.Machine.execVcmpeq t f s
  | .vcmpne t f => Sys2Proof.Machine.execVcmpne t f s
  | .vcmplt t f => Sys2Proof.Machine.execVcmplt t f s
  | .vcmple t f => Sys2Proof.Machine.execVcmple t f s
  | .vand t f => Sys2Proof.Machine.execVand t f s
  | .vor t f => Sys2Proof.Machine.execVor t f s
  | .vxor t f => Sys2Proof.Machine.execVxor t f s
  | .vcvt t f => Sys2Proof.Machine.execVcvt t f s
  | .vexp t f => Sys2Proof.Machine.execVexp t f s
  | .vexp2 t f => Sys2Proof.Machine.execVexp2 t f s
  | .vlog2 t f => Sys2Proof.Machine.execVlog2 t f s
  | .vrcp t f => Sys2Proof.Machine.execVrcp t f s
  | .vrsqrt t f => Sys2Proof.Machine.execVrsqrt t f s
  | .vsqrt t f => Sys2Proof.Machine.execVsqrt t f s
  | .vtanh t f => Sys2Proof.Machine.execVtanh t f s
  | .vsigm t f => Sys2Proof.Machine.execVsigm t f s
  | .vgelu t f => Sys2Proof.Machine.execVgelu t f s
  | .vsilu t f => Sys2Proof.Machine.execVsilu t f s
  | .vrsum t f => Sys2Proof.Machine.execVrsum t f s
  | .vrmax t f => Sys2Proof.Machine.execVrmax t f s
  | .vrmin t f => Sys2Proof.Machine.execVrmin t f s
  | .vramax t f => Sys2Proof.Machine.execVramax t f s
  | .vrsumsq t f => Sys2Proof.Machine.execVrsumsq t f s
  | .vld t f => Sys2Proof.Machine.execVld t f s
  | .vst t f => Sys2Proof.Machine.execVst t f s
  | .vldx t f => Sys2Proof.Machine.execVldx t f s
  | .vstx t f => Sys2Proof.Machine.execVstx t f s
  | .vgather t f => Sys2Proof.Machine.execVgather t f s
  | .vscatter t f => Sys2Proof.Machine.execVscatter t f s
  | .mand t f => Sys2Proof.Machine.execMand t f s
  | .mor t f => Sys2Proof.Machine.execMor t f s
  | .mxor t f => Sys2Proof.Machine.execMxor t f s
  | .mnot t f => Sys2Proof.Machine.execMnot t f s
  | .mset t f => Sys2Proof.Machine.execMset t f s
  | .mget t f => Sys2Proof.Machine.execMget t f s
  | .rquQv t f => Sys2Proof.Machine.execRquQv t f s
  | .arrMvm t f => Sys2Proof.Machine.execArrMvm t f s
  | .ebaOpen t f => Sys2Proof.Machine.execEbaOpen t f s
  | .tuMma t f => Sys2Proof.Machine.execTuMma t f s
  | .signal t f => Sys2Proof.Machine.execSignal t f s
  | .wait t f => Sys2Proof.Machine.execWait t f s
  | .acquire t f => Sys2Proof.Machine.execAcquire t f s
  | .reset t f => Sys2Proof.Machine.execReset t f s
  | .spOwn t f => Sys2Proof.Machine.execSpOwn t f s
  | .dmaKick t f => Sys2Proof.Machine.execDmaKick t f s
  | .illegalOpcode t w => Sys2Proof.Machine.execIllegalOpcode t w s
  | .issueStallResume t => Sys2Proof.Machine.execIssueStallResume t s
  | .queueEntryExecute t q => Sys2Proof.Machine.execQueueEntryExecute t q s
  | .qstall t q => Sys2Proof.Machine.execQstall t q s
  | .vcRunSet src t => Sys2Proof.Machine.execVcRunSet src t s
  | .vcRunClear src t => Sys2Proof.Machine.execVcRunClear src t s
  | .qFlush src t => Sys2Proof.Machine.execQFlush src t s
  | .spownWrite src t v => Sys2Proof.Machine.execSpownWrite src t v s
  | .ownershipChangeEffect t b => Sys2Proof.Machine.execOwnershipChangeEffect t b s
  | .spretWrite src t v => Sys2Proof.Machine.execSpretWrite src t v s
  | .bankRetentionEntry t b => Sys2Proof.Machine.execBankRetentionEntry t b s
  | .bankWakeComplete t b => Sys2Proof.Machine.execBankWakeComplete t b s
  | .bankIdleRetention t b => Sys2Proof.Machine.execBankIdleRetention t b s
  | .arrayOperationLoad t => Sys2Proof.Machine.execArrayOperationLoad t s
  | .conversion t a => Sys2Proof.Machine.execConversion t a s
  | .arrayOperationDrain t a => Sys2Proof.Machine.execArrayOperationDrain t a s
  | .progSlot t a k => Sys2Proof.Machine.execProgSlot t a k s
  | .referenceRowTest t a plane codes => Sys2Proof.Machine.execReferenceRowTest t a plane codes s
  | .rquStart t => Sys2Proof.Machine.execRquStart t s
  | .rquBlock t => Sys2Proof.Machine.execRquBlock t s
  | .rquQvComplete t => Sys2Proof.Machine.execRquQvComplete t s
  | .ebaOpenComplete t => Sys2Proof.Machine.execEbaOpenComplete t s
  | .ebaPartial t source => Sys2Proof.Machine.execEbaPartial t source s
  | .edgeWriteback t => Sys2Proof.Machine.execEdgeWriteback t s
  | .tuMmaStart t => Sys2Proof.Machine.execTuMmaStart t s
  | .tuMmaComplete t => Sys2Proof.Machine.execTuMmaComplete t s
  | .latticeWrite dst p ecc err => Sys2Proof.Machine.execLatticeWrite dst p ecc s err
  | .latticeRead dst p ecc err => Sys2Proof.Machine.execLatticeRead dst p s ecc err
  | .latticeRdrsp c p err => Sys2Proof.Machine.execLatticeRdrsp c p s err
  | .latticeRderr c r err => Sys2Proof.Machine.execLatticeRderr c r s err
  | .partW t p err => Sys2Proof.Machine.execPartW t p s err
  | .partF t p err => Sys2Proof.Machine.execPartF t p s err
  | .modeReqWrite src v => Sys2Proof.Machine.execModeReqWrite src v s
  | .latticeModeSwitch => Sys2Proof.Machine.execLatticeModeSwitch s
  | .quiesceTo => Sys2Proof.Machine.execQuiesceTo s
  | .val t m err => Sys2Proof.Machine.execVal t m err s
  | .objCmdAllocate src v => Sys2Proof.Machine.execObjCmdAllocate src v s
  | .objCmdFree src v => Sys2Proof.Machine.execObjCmdFree src v s
  | .stopSignal h n full err => Sys2Proof.Machine.execStopSignal h n full s err
  | .stopWait h n w full err => Sys2Proof.Machine.execStopWait h n w full s err
  | .stopAcquire h n w full err => Sys2Proof.Machine.execStopAcquire h n w full s err
  | .stopReset h n full err => Sys2Proof.Machine.execStopReset h n full s err
  | .release w err => Sys2Proof.Machine.execRelease w s err
  | .refuse w err => Sys2Proof.Machine.execRefuse w s err
  | .refuseRetry t q => Sys2Proof.Machine.execRefuseRetry t q s
  | .hostSigSignal src v => Sys2Proof.Machine.execHostSigSignal src v s
  | .hostSigReset src v => Sys2Proof.Machine.execHostSigReset src v s
  | .tilePark t => Sys2Proof.Machine.execTilePark t s
  | .reclaimComplete t => Sys2Proof.Machine.execReclaimComplete t s
  | .kick src c ptr => Sys2Proof.Machine.execKick src c ptr s
  | .chainAccept t => Sys2Proof.Machine.execChainAccept t s
  | .descriptorFetch c host ecc => Sys2Proof.Machine.execDescriptorFetch c host s ecc
  | .dmaPacket c host ecc => Sys2Proof.Machine.execDmaPacket c host s ecc
  | .resume src c => Sys2Proof.Machine.execResume src c s
  | .flush src c => Sys2Proof.Machine.execFlush src c s
  | .abort src c => Sys2Proof.Machine.execAbort src c s
  | .rspTimeout c => Sys2Proof.Machine.execRspTimeout c s
  | .stackAccess x => Sys2Proof.Machine.execStackAccess x s
  | .patrolScrub sec off ecc => Sys2Proof.Machine.execPatrolScrub sec off ecc s
  | .stackTempRead sec temp => Sys2Proof.Machine.execStackTempRead sec temp s
  | .bankRefresh sec pc bank => Sys2Proof.Machine.execBankRefresh sec pc bank s
  | .stackTrainingComplete sec lanes => Sys2Proof.Machine.execStackTrainingComplete sec lanes s
  | .stackInitialisationComplete sec => Sys2Proof.Machine.execStackInitialisationComplete sec s
  | .dataFlit l f => Sys2Proof.Machine.execDataFlit l f s
  | .nak l ack credVc credN => Sys2Proof.Machine.execNak l ack credVc credN s
  | .laneSignalLoss l lane => Sys2Proof.Machine.execLaneSignalLoss l lane s
  | .linkTrainingStage l id => Sys2Proof.Machine.execLinkTrainingStage l id s
  | .linkTrainingLimit l => Sys2Proof.Machine.execLinkTrainingLimit l s
  | .miswiredRetry l => Sys2Proof.Machine.execMiswiredRetry l s
  | .miswiredLimit l => Sys2Proof.Machine.execMiswiredLimit l s
  | .fabricWrite spine p => Sys2Proof.Machine.execFabricWrite spine p s
  | .fabricRead spine p => Sys2Proof.Machine.execFabricRead spine p s
  | .fabricSig spine p => Sys2Proof.Machine.execFabricSig spine p s
  | .wack p => Sys2Proof.Machine.execWack p s
  | .wnak p => Sys2Proof.Machine.execWnak p s
  | .fabricRdrsp p => Sys2Proof.Machine.execFabricRdrsp p s
  | .fabricRderr p => Sys2Proof.Machine.execFabricRderr p s
  | .beacon l b => Sys2Proof.Machine.execBeacon l b s
  | .mgmt l r => Sys2Proof.Machine.execMgmt l r s
  | .beaconTransmit l => Sys2Proof.Machine.execBeaconTransmit l s
  | .delayMeasurement l t1 t2 t3 t4 => Sys2Proof.Machine.execDelayMeasurement l t1 t2 t3 t4 s
  | .holdover => Sys2Proof.Machine.execHoldover s
  | .stepMark src v => Sys2Proof.Machine.execStepMark src v s
  | .stepMarkApply => Sys2Proof.Machine.execStepMarkApply s
  | .fabCfgSave src v => Sys2Proof.Machine.execFabCfgSave src v s
  | .supplyRamp => Sys2Proof.Machine.execSupplyRamp s
  | .pwrReqRelease => Sys2Proof.Machine.execPwrReqRelease s
  | .railsPgAssert => Sys2Proof.Machine.execRailsPgAssert s
  | .railsPgTimeout => Sys2Proof.Machine.execRailsPgTimeout s
  | .powerOnResetRelease hostBif mgmtAddr => Sys2Proof.Machine.execPowerOnResetRelease hostBif mgmtAddr s
  | .railsPgDeassert => Sys2Proof.Machine.execRailsPgDeassert s
  | .sysRstN => Sys2Proof.Machine.execSysRstN s
  | .rstCtl src v => Sys2Proof.Machine.execRstCtl src v s
  | .rootPllLock => Sys2Proof.Machine.execRootPllLock s
  | .startupStepTimeout => Sys2Proof.Machine.execStartupStepTimeout s
  | .tileSelfTestComplete failed => Sys2Proof.Machine.execTileSelfTestComplete failed s
  | .ready => Sys2Proof.Machine.execReady s
  | .clkFail => Sys2Proof.Machine.execClkFail s
  | .laserEnN high => Sys2Proof.Machine.execLaserEnN high s
  | .portReset p => Sys2Proof.Machine.execPortReset p s
  | .portLinkUp p rate width flit => Sys2Proof.Machine.execPortLinkUp p rate width flit s
  | .registerWrite src off size v sp => Sys2Proof.Machine.execRegisterWrite src off size v s sp
  | .setupLock src v => Sys2Proof.Machine.execSetupLock src v s
  | .aqCtlEnable src p => Sys2Proof.Machine.execAqCtlEnable src p s
  | .aqCtlDisable src p => Sys2Proof.Machine.execAqCtlDisable src p s
  | .sqTailDoorbell p q v => Sys2Proof.Machine.execSqTailDoorbell p q v s
  | .cqHeadDoorbell p q v => Sys2Proof.Machine.execCqHeadDoorbell p q v s
  | .tqHeadDoorbell p q v => Sys2Proof.Machine.execTqHeadDoorbell p q v s
  | .sqFetch p q ok entries => Sys2Proof.Machine.execSqFetch p q ok entries s
  | .msixCoalesceTimeout p tq id => Sys2Proof.Machine.execMsixCoalesceTimeout p tq id s
  | .createRing c => Sys2Proof.Machine.execCreateRing c s
  | .deleteRing c => Sys2Proof.Machine.execDeleteRing c s
  | .sliceBind c => Sys2Proof.Machine.execSliceBind c s
  | .memLayout c => Sys2Proof.Machine.execMemLayout c s
  | .hostDma c => Sys2Proof.Machine.execHostDma c s
  | .powerState c => Sys2Proof.Machine.execPowerState c s
  | .zeroise via => Sys2Proof.Machine.execZeroise via s
  | .submit c => Sys2Proof.Machine.execSubmit c s
  | .admission p host => Sys2Proof.Machine.execAdmission p host s
  | .cancel c => Sys2Proof.Machine.execCancel c s
  | .prefixCreate c => Sys2Proof.Machine.execPrefixCreate c s
  | .prefixRelease c => Sys2Proof.Machine.execPrefixRelease c s
  | .tenantSet c => Sys2Proof.Machine.execTenantSet c s
  | .grammarLoad c host => Sys2Proof.Machine.execGrammarLoad c host s
  | .unload c => Sys2Proof.Machine.execUnload c s
  | .launch m => Sys2Proof.Machine.execLaunch m s
  | .rowReturn req => Sys2Proof.Machine.execRowReturn req s
  | .commitPoint m rows => Sys2Proof.Machine.execCommitPoint m rows s
  | .orbitTo m => Sys2Proof.Machine.execOrbitTo m s
  | .shardLoad c man => Sys2Proof.Machine.execShardLoad c man s
  | .restore c man => Sys2Proof.Machine.execRestore c man s
  | .keyImport c blob => Sys2Proof.Machine.execKeyImport c blob s
  | .chunkArrival ix res => Sys2Proof.Machine.execChunkArrival ix res s
  | .holdupCheck => Sys2Proof.Machine.execHoldupCheck s
  | .programmingBatchComplete => Sys2Proof.Machine.execProgrammingBatchComplete s
  | .stagedReport k reason => Sys2Proof.Machine.execStagedReport k reason s
  | .loadDeadline => Sys2Proof.Machine.execLoadDeadline s
  | .versionSwitch c => Sys2Proof.Machine.execVersionSwitch c s
  | .switchRecordAck k refused => Sys2Proof.Machine.execSwitchRecordAck k refused s
  | .switchAckTimeout => Sys2Proof.Machine.execSwitchAckTimeout s
  | .abandon c => Sys2Proof.Machine.execAbandon c s
  | .drainEnd c => Sys2Proof.Machine.execDrainEnd c s
  | .drainTimeout => Sys2Proof.Machine.execDrainTimeout s
  | .refreshAge l => Sys2Proof.Machine.execRefreshAge l s
  | .refreshReq src v => Sys2Proof.Machine.execRefreshReq src v s
  | .refreshStart => Sys2Proof.Machine.execRefreshStart s
  | .refreshComplete l => Sys2Proof.Machine.execRefreshComplete l s
  | .spareProgrammed l => Sys2Proof.Machine.execSpareProgrammed l s
  | .spareTime l => Sys2Proof.Machine.execSpareTime l s
  | .railTelemetry mw => Sys2Proof.Machine.execRailTelemetry mw s
  | .vddCoreTargetUpdate mv => Sys2Proof.Machine.execVddCoreTargetUpdate mv s
  | .profileChangeComplete => Sys2Proof.Machine.execProfileChangeComplete s
  | .droop sec => Sys2Proof.Machine.execDroop sec s
  | .droopEnd sec => Sys2Proof.Machine.execDroopEnd sec s
  | .tileP2Entry t => Sys2Proof.Machine.execTileP2Entry t s
  | .sectorWake sec => Sys2Proof.Machine.execSectorWake sec s
  | .budgetPeriod want => Sys2Proof.Machine.execBudgetPeriod want s
  | .slowRound vals histMv => Sys2Proof.Machine.execSlowRound vals histMv s
  | .warnClear => Sys2Proof.Machine.execWarnClear s
  | .stopLim => Sys2Proof.Machine.execStopLim s
  | .loadClassCheck => Sys2Proof.Machine.execLoadClassCheck s
  | .droopCtlWrite src v => Sys2Proof.Machine.execDroopCtlWrite src v s
  | .droopCaptureEnd samples => Sys2Proof.Machine.execDroopCaptureEnd samples s
  | .calCtlGo src v => Sys2Proof.Machine.execCalCtlGo src v s
  | .calibrationRunComplete => Sys2Proof.Machine.execCalibrationRunComplete s
  | .progEnIdle => Sys2Proof.Machine.execProgEnIdle s
  | .faultEvent e err full => Sys2Proof.Machine.execFaultEvent e s err full
  | .scratchpadCopyComplete sec => Sys2Proof.Machine.execScratchpadCopyComplete sec s
  | .columnRepairComplete t a col => Sys2Proof.Machine.execColumnRepairComplete t a col s
  | .ebaStall t b => Sys2Proof.Machine.execEbaStall t b s
  | .knownSumTest t a => Sys2Proof.Machine.execKnownSumTest t a s
  | .knownSumTestResult t a => Sys2Proof.Machine.execKnownSumTestResult t a s
  | .fleetTest => Sys2Proof.Machine.execFleetTest s
  | .fleetPackage c pkg => Sys2Proof.Machine.execFleetPackage c pkg s
  | .tmrUpset r => Sys2Proof.Machine.execTmrUpset r s
  | .parityScrub off bad => Sys2Proof.Machine.execParityScrub off bad s
  | .poweredSStore => Sys2Proof.Machine.execPoweredSStore s
  | .getInfo m => Sys2Proof.Machine.execGetInfo m s
  | .getCert m => Sys2Proof.Machine.execGetCert m s
  | .getReport m => Sys2Proof.Machine.execGetReport m s
  | .enrolKey m => Sys2Proof.Machine.execEnrolKey m s
  | .debugChallenge m => Sys2Proof.Machine.execDebugChallenge m s
  | .debugUnlock m => Sys2Proof.Machine.execDebugUnlock m s
  | .getRandom m => Sys2Proof.Machine.execGetRandom m s
  | .deviceReset m => Sys2Proof.Machine.execDeviceReset m s
  | .doeAbort p => Sys2Proof.Machine.execDoeAbort p s
  | .healthTestFailure => Sys2Proof.Machine.execHealthTestFailure s
  | .setdasa stat dyn => Sys2Proof.Machine.execSetdasa stat dyn s
  | .entdaa dyn => Sys2Proof.Machine.execEntdaa dyn s
  | .setEndpointId eid => Sys2Proof.Machine.execSetEndpointId eid s
  | .getSensorReading id => Sys2Proof.Machine.execGetSensorReading id s
  | .setEventReceiver eid => Sys2Proof.Machine.execSetEventReceiver eid s
  | .platformEventMessageAck => Sys2Proof.Machine.execPlatformEventMessageAck s
  | .effecterWrite id v => Sys2Proof.Machine.execEffecterWrite id v s
  | .requestUpdate comp len => Sys2Proof.Machine.execRequestUpdate comp len s
  | .requestFirmwareData data => Sys2Proof.Machine.execRequestFirmwareData data s
  | .activateFirmware => Sys2Proof.Machine.execActivateFirmware s
  | .aseqCntClr src t v => Sys2Proof.Machine.execAseqCntClr src t v s
  | .rquCntClr src t v => Sys2Proof.Machine.execRquCntClr src t v s
  | .tileCntClr src t v => Sys2Proof.Machine.execTileCntClr src t v s
  | .mcCntClr src sec v => Sys2Proof.Machine.execMcCntClr src sec v s
  | .netCntClr src v => Sys2Proof.Machine.execNetCntClr src v s
  | .syncCntClr src v => Sys2Proof.Machine.execSyncCntClr src v s
  | .dmaCntClr src v => Sys2Proof.Machine.execDmaCntClr src v s
  | .lnkCntClr src l v => Sys2Proof.Machine.execLnkCntClr src l v s
  | .fabCntClr src v => Sys2Proof.Machine.execFabCntClr src v s
  | .hqCntClr src p v => Sys2Proof.Machine.execHqCntClr src p v s
  | .serveCntClr src v => Sys2Proof.Machine.execServeCntClr src v s
  | .wstoreCntClr src v => Sys2Proof.Machine.execWstoreCntClr src v s
  | .pwrCntClr src v => Sys2Proof.Machine.execPwrCntClr src v s
  | .hkCntClr src v => Sys2Proof.Machine.execHkCntClr src v s
  | .fltCntClr src v => Sys2Proof.Machine.execFltCntClr src v s
  | .secuCntClr src v => Sys2Proof.Machine.execSecuCntClr src v s
  | .mgmtCntClr src v => Sys2Proof.Machine.execMgmtCntClr src v s
  | .spevtSpOwnerClear src t v => Sys2Proof.Machine.execSpevtSpOwnerClear src t v s
  | .mcEvtUeClear src sec v => Sys2Proof.Machine.execMcEvtUeClear src sec v s
  | .pseudoChannelTrainingLoss sec pc => Sys2Proof.Machine.execPseudoChannelTrainingLoss sec pc s
  | .idleFlit l ack credVc credN => Sys2Proof.Machine.execIdleFlit l ack credVc credN s
  | .tileP2Exit t => Sys2Proof.Machine.execTileP2Exit t s
  | .peerStateReport k r => Sys2Proof.Machine.execPeerStateReport k r s
  | .rowFaultReport req reason => Sys2Proof.Machine.execRowFaultReport req reason s
  | .debugAccess x => Sys2Proof.Machine.execDebugAccess x s
  | .suspectExpiry t => Sys2Proof.Machine.execSuspectExpiry t s

end Sys2Proof.Machine
end

