-- ==== Sys2Proof/Safety.lean ====
section
/-! DEFINITION. What the statements say about a command: that it completes, what it may change, and when a vector core can issue. -/

namespace Sys2Proof.Machine

open Sys2Proof

/-- The command completes, in a state of which `P` holds. -/
def Leads (i : Instr) (s : State) (P : State → Prop) : Prop := ∃ u, exec i s = .next u ∧ P u

/-- Of the register file at most the fields of `l` differ. -/
def RegsBut (l : List FRef) (s u : State) : Prop := ∀ k : Nat, (∀ f ∈ l, k ≠ f.key) → sget 0 u.regs k = sget 0 s.regs k

/-- Only the register file differs, and of it at most the fields of `l`. -/
def OnlyRegs (l : List FRef) (s u : State) : Prop := u = { s with regs := u.regs } ∧ RegsBut l s u

/-- Field `f` has counted `n`, saturating; nothing to count may leave it alone. -/
def Counted (f : FRef) (n : Nat) (s u : State) : Prop := u.get f = min (s.get f + n) (2 ^ f.w - 1) ∨ (n = 0 ∧ u.get f = s.get f)

/-- Every tile but `t` is as it was. -/
def OtherTiles (t : Site) (s u : State) : Prop := ∀ t' : Site, t' ≠ t → u.tile t' = s.tile t'

/-- Every link but `l` is as it was. -/
def OtherLinks (l : Nat) (s u : State) : Prop := ∀ l', l' ≠ l → u.lnk l' = s.lnk l'

/-- A bank that takes accesses: not in retention and not waking (R102). -/
def Awake (s : State) (t : Site) (b : Nat) : Prop := ((s.tile t).bank b).pst ≠ .ret ∧ ((s.tile t).bank b).pst ≠ .waking

/-- The vector core of tile `t` issues the instruction at its PC: it is in RUN with its clock running (R111), the fetch address has 21 bits (R135), and its bank is owned by the vector core (R146) and awake (R103). -/
def VcReady (s : State) (t : Site) : Prop :=
  (s.tile t).vc = .run ∧ (s.tile t).clkOff = false ∧ (s.tile t).pc < 2 ^ 21 ∧ s.owner t (bankOf (s.tile t).pc) = 1 ∧
    Awake s t (bankOf (s.tile t).pc)

/-- The instruction of a vector core's command is the one fetched: the word at PC spells it, opcode and fields (R123, R124); of an unlisted opcode it is the word itself. -/
def Fetched (i : Instr) (t : Site) (s : State) : Prop :=
  match i with
  | .illegalOpcode _ w => s.vcWord t = w ∧ bviDecode t w = none
  | _ => bviDecode t (s.vcWord t) = some i

/-- Where the word at PC spells the instruction, it completes, in a state of which `P` holds. -/
def Runs (i : Instr) (t : Site) (s : State) (P : State → Prop) : Prop := Fetched i t s → Leads i s P

/-- The message `o` has left node `src` for node `dst` in class `cls`, on the way of R213 and with the least latency of R214, and nothing else has left. -/
def Posted (src dst cls : Nat) (o : Out) (s u : State) : Prop :=
  u.out = s.out ++ [o] ∧
    u.tan = s.tan ++ [⟨s.tanStop src, s.tanStop dst, cls, o, tanLegs (s.tanStop src) (s.tanStop dst),
      s.now + 2 * tanLatency (tanLegs (s.tanStop src) (s.tanStop dst))⟩]

/-- An access of `n` bytes at `a` that the vector core may make: within 21 bits, its banks its own and awake (R95, R103, R144). -/
def VcMay (s : State) (t : Site) (a n : Nat) : Prop :=
  a + n ≤ 2 ^ 21 ∧ ∀ k, k < n → s.owner t (bankOf (a + k)) = 1 ∧ Awake s t (bankOf (a + k))

/-- No write port of tile `t` has written in this tick (R98). -/
def PortsQuiet (s : State) (t : Site) : Prop := (s.tile t).wTick ≠ s.now

/-- What one instruction of a vector core writes beside the issue itself. -/
structure VcDelta where
  /-- A scalar register. -/
  sd : Option (BitVec 5 × Word64) := none
  /-- A vector register. -/
  vd : Option (BitVec 5 × BitVec 1024) := none
  /-- An X-tag. -/
  xd : Option (BitVec 5 × BitVec 64) := none
  /-- A mask register. -/
  md : Option (Nat × BitVec 512) := none
  /-- Scratchpad bytes, as writes in order: a later one stands over an earlier one. -/
  mem : List (Nat × List Byte) := []
  /-- VFLAGS, from what it was. -/
  flags : Flags → Flags := fun f => f
  /-- Counters beside VC_INSTR_CNT. -/
  counts : List (FRef × Nat) := []
  /-- The state of the vector core. -/
  vc : VcState := .run
  /-- PC. -/
  npc : Nat

/-- What an instruction that issues does: the registers, flags, counters and bytes it writes have their new values, PC moves, VC_INSTR_CNT counts; every other register, flag, byte, bank, queue, unit and tile, and everything outside the tile and the register file, is as it was. Of the tile, the marks of the ports and of the banks' last accesses may differ. -/
def VcDone (d : VcDelta) (t : Site) (s u : State) : Prop :=
  (∀ i, (u.tile t).s i = match d.sd with | some (r, v) => if i = r ∧ r ≠ 0 then v else (s.tile t).s i | none => (s.tile t).s i) ∧
  (∀ i, (u.tile t).v i = match d.vd with | some (r, v) => if i = r then v else (s.tile t).v i | none => (s.tile t).v i) ∧
  (∀ i, (u.tile t).x i = match d.xd with | some (r, v) => if i = r then v else (s.tile t).x i | none => (s.tile t).x i) ∧
  (∀ i, (u.tile t).m i =
    match d.md with | some (r, v) => if i % 8 = r % 8 ∧ r % 8 ≠ 0 then v else (s.tile t).m i | none => (s.tile t).m i) ∧
  (u.tile t).vflags = d.flags (s.tile t).vflags ∧ (u.tile t).pc = d.npc ∧ (u.tile t).vc = d.vc ∧
  (∀ b, (u.tile t).bank b = { (s.tile t).bank b with last := ((u.tile t).bank b).last }) ∧
  u.tile t = { s.tile t with
    sr := (u.tile t).sr, vr := (u.tile t).vr, xt := (u.tile t).xt, mr := (u.tile t).mr, vflags := (u.tile t).vflags,
    pc := (u.tile t).pc, vc := (u.tile t).vc, ord := (s.tile t).ord + 1, banks := (u.tile t).banks, w0 := (u.tile t).w0,
    w1 := (u.tile t).w1, wTick := (u.tile t).wTick } ∧
  OtherTiles t s u ∧
  (∀ k, sget 0 u.sp k =
    match d.mem.reverse.find? (fun e => decide (spKey t e.1 ≤ k) && decide (k < spKey t e.1 + e.2.length)) with
    | some (a, bs) => bs.getD (k - spKey t a) 0
    | none => sget 0 s.sp k) ∧
  Counted (R.VC_INSTR_CNT t.val) 1 s u ∧ (∀ p ∈ d.counts, Counted p.1 p.2 s u) ∧
  RegsBut (R.VC_INSTR_CNT t.val :: d.counts.map (·.1)) s u ∧
  u = { s with regs := u.regs, tiles := u.tiles, sp := u.sp }

/-- An instruction placed in issue queue `q` (R89, R125): its entry is the last, PC and VC_INSTR_CNT move on, and nothing else changes but the marks of the banks' last accesses. -/
def VcQueued (q : Nat) (op : QOp) (t : Site) (s u : State) : Prop :=
  (u.tile t).queue q =
    { (s.tile t).queue q with ents := ((s.tile t).queue q).ents ++ [⟨(s.tile t).pc, (s.tile t).ord, op⟩] } ∧
  (∀ q', q' < 4 → q' ≠ q → (u.tile t).queue q' = (s.tile t).queue q') ∧
  (∀ b, (u.tile t).bank b = { (s.tile t).bank b with last := ((u.tile t).bank b).last }) ∧
  u.tile t = { s.tile t with
    pc := (s.tile t).pc + 8, ord := (s.tile t).ord + 1, qArr := (u.tile t).qArr, qTu := (u.tile t).qTu,
    qDma := (u.tile t).qDma, qSync := (u.tile t).qSync, banks := (u.tile t).banks } ∧
  OtherTiles t s u ∧ Counted (R.VC_INSTR_CNT t.val) 1 s u ∧ RegsBut [R.VC_INSTR_CNT t.val] s u ∧
  u = { s with regs := u.regs, tiles := u.tiles }

/-- The vector core stalled on the full queue `q`, the instruction still to be placed (R89). -/
def VcStalled (q : Nat) (op : QOp) (t : Site) (s u : State) : Prop :=
  (∀ b, (u.tile t).bank b = { (s.tile t).bank b with last := ((u.tile t).bank b).last }) ∧
  u.tile t = { s.tile t with
    vc := .issueStall, stall := some (.queue q ⟨(s.tile t).pc, (s.tile t).ord, op⟩), banks := (u.tile t).banks } ∧
  OtherTiles t s u ∧ u = { s with tiles := u.tiles }

/-- What the issue of an instruction into queue `q` leads to: the entry, or a stall when the queue is full (Table 3-2). -/
def VcIssues (q : Nat) (op : QOp) (t : Site) (s u : State) : Prop :=
  if ((s.tile t).queue q).ents.length < queueDepth q then VcQueued q op t s u else VcStalled q op t s u

/-- An exception of the instruction at PC (R146): FAULT, cause and address recorded (VC_STAT.FPC has 21 bits), SPEVT.VC_FAULT set; nothing else of the tile but the marks of its banks' last accesses, and nothing outside it. -/
def VcStopped (c : Cause) (t : Site) (s u : State) : Prop :=
  (u.tile t).vc = .fault ∧ u.get (R.VC_STAT_CAUSE t.val) = c.code ∧ u.get (R.VC_STAT_FPC t.val) = (s.tile t).pc % 2 ^ 21 ∧
  u.get (R.SPEVT_VC_FAULT t.val) = 1 ∧
  u.tile t = { s.tile t with
    vc := .fault, banks := (u.tile t).banks, stall := none, inwait := none, vcResume := false,
    faultAt := some (s.now, (s.tile t).ord) } ∧
  (∀ b, (u.tile t).bank b = { (s.tile t).bank b with last := ((u.tile t).bank b).last }) ∧
  OtherTiles t s u ∧ RegsBut [R.VC_STAT_CAUSE t.val, R.VC_STAT_FPC t.val, R.SPEVT_VC_FAULT t.val] s u ∧
  u = { s with regs := u.regs, tiles := u.tiles }

/-- The tile whose vector core fetches the instruction; none for every other command. -/
def coreOf (i : Instr) : Option Site :=
  match i with
  | .nop t _ | .add t _ | .sub t _ | .mul t _ | .and t _ | .or t _ | .xor t _ | .shl t _ | .shr t _ | .sra t _ | .slt t _ 
  | .sltu t _ | .movi t _ | .movhi t _ | .faddS t _ | .fmulS t _ | .ldS t _ | .stS t _ | .beq t _ | .bne t _ | .blt t _ 
  | .bge t _ | .jmp t _ | .jr t _ | .halt t _ | .brk t _ | .rds t _ | .wrs t _ | .vadd t _ | .vsub t _ | .vmul t _ | .vfma t _ 
  | .vfms t _ | .vmin t _ | .vmax t _ | .vabs t _ | .vneg t _ | .vsel t _ | .vmov t _ | .vbcst t _ | .vcmpeq t _ | .vcmpne t _ 
  | .vcmplt t _ | .vcmple t _ | .vand t _ | .vor t _ | .vxor t _ | .vcvt t _ | .vexp t _ | .vexp2 t _ | .vlog2 t _ | .vrcp t _ 
  | .vrsqrt t _ | .vsqrt t _ | .vtanh t _ | .vsigm t _ | .vgelu t _ | .vsilu t _ | .vrsum t _ | .vrmax t _ | .vrmin t _ 
  | .vramax t _ | .vrsumsq t _ | .vld t _ | .vst t _ | .vldx t _ | .vstx t _ | .vgather t _ | .vscatter t _ | .mand t _ 
  | .mor t _ | .mxor t _ | .mnot t _ | .mset t _ | .mget t _ | .rquQv t _ | .arrMvm t _ | .ebaOpen t _ | .tuMma t _ 
  | .signal t _ | .wait t _ | .acquire t _ | .reset t _ | .spOwn t _ | .dmaKick t _ => some t
  | .illegalOpcode t _ => some t
  | _ => none

/-- Beside tile `t` and the fields of `l`, nothing differs. -/
def TileOnly (t : Site) (l : List FRef) (s u : State) : Prop :=
  u = { s with tiles := u.tiles, regs := u.regs } ∧ OtherTiles t s u ∧ RegsBut l s u

/-- Beside tile `t`, the fields of `l` and what is sent, nothing differs. -/
def TileSends (t : Site) (l : List FRef) (s u : State) : Prop :=
  u = { s with tiles := u.tiles, regs := u.regs, out := u.out, tan := u.tan } ∧ OtherTiles t s u ∧ RegsBut l s u

/-- A write of `size` bytes at `off` in LNK, SCT or TILE has travelled as a CTRL message, a CRSP message answering it (R217), and TAN_MSG_CNT has counted both (R220). -/
def CtrlSent (off size v : Nat) (s u : State) : Prop := u.out = s.out ++ [.ctrl off size v, .crsp off] ∧ Counted R.TAN_MSG_CNT 2 s u

/-- What a performed write at `off` sends: the two messages where the register lies in LNK, SCT or TILE, nothing elsewhere (R217). -/
def Told (off size v : Nat) (s u : State) : Prop :=
  if 0xC00000 ≤ off then CtrlSent off size v s u else u.out = s.out

/-- A set-up write of tile `t` is performed: beside the tile, the fields of `l` and the two messages, nothing differs. -/
def TileSet (t : Site) (off size v : Nat) (l : List FRef) (s u : State) : Prop :=
  u = { s with tiles := u.tiles, regs := u.regs, out := u.out } ∧ OtherTiles t s u ∧ RegsBut (R.TAN_MSG_CNT :: l) s u ∧ CtrlSent off size v s u

/-- The message that a fault event makes has left for the fault engine (R426), its event having the properties of `P`. -/
def Raised (P : FaultEv → Prop) (s u : State) : Prop :=
  ∃ e, P e ∧ Posted (faultNode e.kind.toNat e.site.toNat e.detail.toNat) 0x184 clEVT (.fault e) s u

/-- The turn of the message `o` has come, no earlier one of its stop, destination and class being on its way; `l` are those that remain (R215). -/
def TanTurn (o : Out) (s : State) (l : List TanFly) : Prop := ∃ e, s.tanTake o = some ({ s with tan := l }, e)

/-- The check bits of a packet or message let it go on (R218). -/
def Sound (err : NetErr) : Prop := ∀ h, err ≠ .uncorrectable h

/-- The registers that count a tangent message delivered (R218, R220). -/
def tanRegs : List FRef := [R.TAN_MSG_CNT, R.TAN_CE_CNT, R.NET_EVT_TAN_CE]

/-- A tangent message is delivered: counted, and a corrected error with it (R218, R220). -/
def TanCounted (err : NetErr) (s u : State) : Prop :=
  Counted R.TAN_MSG_CNT 1 s u ∧ ∀ h, err = .corrected h → Counted R.TAN_CE_CNT 1 s u ∧ u.get R.NET_EVT_TAN_CE = 1

/-- A message is delivered to tile `t`, `l` remaining on their way: beside the tile and its counts, nothing differs. -/
def TileHears (t : Site) (l : List TanFly) (err : NetErr) (s u : State) : Prop :=
  u = { s with tiles := u.tiles, regs := u.regs, tan := l } ∧ OtherTiles t s u ∧ RegsBut tanRegs s u ∧ TanCounted err s u

/-- A message met with an uncorrectable error is dropped: TAN_UE counts, its event bit is set and a fault event of kind 0x0E is raised; nothing else but what is on its way (R218). -/
def TanDropped (l : List TanFly) (s u : State) : Prop :=
  Counted R.TAN_UE_CNT 1 s u ∧ u.get R.NET_EVT_TAN_UE = 1 ∧ RegsBut [R.TAN_UE_CNT, R.NET_EVT_TAN_UE] s u ∧
    (∃ e n, e.kind = 0x0E ∧ Posted n 0x184 clEVT (.fault e) { s with tan := l } u) ∧ u = { s with regs := u.regs, out := u.out, tan := u.tan }

/-- A tangent message that is not handled leaves everything as it was but the count of its delivery and what is on its way. -/
def TanOnly (l : List TanFly) (err : NetErr) (f : List FRef) (s u : State) : Prop :=
  u = { s with regs := u.regs, tan := l } ∧ RegsBut (tanRegs ++ f) s u ∧ TanCounted err s u

/-- The messages `l`, each with the node it is for, have left node `src` in class `cls`, in order, and nothing else has left (R213, R214). -/
def PostedAll (src cls : Nat) (l : List (Nat × Out)) (s u : State) : Prop :=
  u.out = s.out ++ l.map (·.2) ∧
    u.tan = s.tan ++ l.map fun e => ⟨s.tanStop src, s.tanStop e.1, cls, e.2, tanLegs (s.tanStop src) (s.tanStop e.1),
      s.now + 2 * tanLatency (tanLegs (s.tanStop src) (s.tanStop e.1))⟩

/-- The turn of the packet `p` at the end `dst` has come: no slot holds it and no earlier one of its source, destination and virtual channel is on its way (R201, R208); `l` are those that remain, `e` is its flight. -/
def LatTurn (op : Nat) (dst : LatDst) (p : LatPkt) (s : State) (l : List LatFly) (e : LatFly) : Prop :=
  s.latTake op dst p = some ({ s with lat := l }, e)

/-- The registers that count a packet on its way (R208, R218, R220). -/
def latRegs (e : LatFly) (err : NetErr) : List FRef :=
  [R.NET_EVT_LAT_CE, R.NET_EVT_SLOT_VIOL] ++ e.path.map (fun r => R.RT_FLIT_CNT r) ++ e.viol.map (fun r => R.RT_SLOT_VIOL r) ++
    match err with | .corrected h => [R.RT_CE (e.path.getD (h % e.path.length) 0)] | _ => []

/-- A packet has counted its flits at each router of its path, each router at which it waited for a slot, and the router that corrected it (R208, R218, R220). -/
def LatCounted (e : LatFly) (err : NetErr) (s u : State) : Prop :=
  (e.path.Nodup → ∀ r ∈ e.path, Counted (R.RT_FLIT_CNT r) (flitsOf (latPayload e.op e.p)) s u) ∧
    (e.viol.Nodup → ∀ r ∈ e.viol, Counted (R.RT_SLOT_VIOL r) 1 s u ∧ u.get R.NET_EVT_SLOT_VIOL = 1) ∧
    ∀ h, err = .corrected h → Counted (R.RT_CE (e.path.getD (h % e.path.length) 0)) 1 s u ∧ u.get R.NET_EVT_LAT_CE = 1

/-- A packet met with an uncorrectable error at the `h`-th router of its path is dropped there: RT_UE counts, its event bit is set and a fault event of kind 0x0E names the router; nothing else but the flits counted before it and what is on its way (R218). -/
def LatDropped (h : Nat) (l : List LatFly) (e : LatFly) (s u : State) : Prop :=
  let r := e.path.getD (h % e.path.length) 0
  Counted (R.RT_UE r) 1 s u ∧ u.get R.NET_EVT_LAT_UE = 1 ∧ u = { s with regs := u.regs, out := u.out, tan := u.tan, lat := l } ∧
    (r < 288 → Raised (fun f => f.kind = 0x0E ∧ f.site.toNat = r) s u) ∧
    RegsBut (latRegs e .none ++ [R.RT_UE r, R.NET_EVT_LAT_UE]) s u

/-- The packet `p` has left its source: its destination resolved and its way along x and then y fixed (R155, R198, R200), no slot awaited in DYNAMIC mode; nothing else has left. While the lattice switches its mode it is held at its source (R209). -/
def Injected (op : Nat) (p : LatPkt) (tr : Option (Nat × Nat × Nat)) (s u : State) : Prop :=
  if s.get R.LAT_STAT_SWITCHING = 1 then u.latHold = s.latHold ++ [(op, p, tr)] ∧ u.out = s.out ∧ u.lat = s.lat
  else
    u.latHold = s.latHold ∧ u.out = s.out ++ [.lat op p] ∧
      ∃ f, u.lat = s.lat ++ [f] ∧ f.op = op ∧ f.p = p ∧ f.tr = tr ∧ f.dst = s.latExit p.dest.toNat ∧
        f.path = latPath (s.nodeSite p.src.toNat) (s.latRouter (s.latExit p.dest.toNat)) ∧
        (s.get R.LAT_STAT_MODE = 0 → f.viol = [] ∧ f.stuck = false)

/-- A set-up write by `src` at `off` is performed: by a partner that reaches the register (R316); firmware's always; a partner's outside TOP from start-up step 4 on (R286), while no other partner holds the lock (R294). -/
def Passes (src : Partner) (off : Nat) (s : State) : Prop :=
  s.reaches src off = true ∧ (src = .firmware ∨ ((off < 0x100000 ∨ 4 ≤ s.get R.STATE_STEP) ∧
    (s.get R.SETUP_LOCK_HOLDER = 0 ∨ s.get R.SETUP_LOCK_HOLDER = lockCode src)))

/-- An access of `n` bytes at `a` by unit `unit` that is made at once: within 21 bits, every byte in a bank the unit owns (R95) and that is awake (R103). -/
def UnitMay (s : State) (t : Site) (unit a n : Nat) : Prop :=
  a + n ≤ 2 ^ 21 ∧ ∀ k, k < n → s.owner t (bankOf (a + k)) = unit ∧ Awake s t (bankOf (a + k))

/-- Beside tile `t`, the fields of `l` and the energy counted for the issue gate (R404), nothing differs. -/
def TileSpends (t : Site) (l : List FRef) (s u : State) : Prop :=
  u = { s with tiles := u.tiles, regs := u.regs, pw := { s.pw with spent := u.pw.spent } } ∧ OtherTiles t s u ∧ RegsBut l s u

/-- Scratchpad after writes in order to tile `t`: a later write stands over an earlier one, every other byte is as it was. -/
def MemAfter (t : Site) (l : List (Nat × List Byte)) (s u : State) : Prop :=
  ∀ k, sget 0 u.sp k =
    match l.reverse.find? (fun e => decide (spKey t e.1 ≤ k) && decide (k < spKey t e.1 + e.2.length)) with
    | some (a, bs) => bs.getD (k - spKey t a) 0
    | none => sget 0 s.sp k

end Sys2Proof.Machine
end

