-- ==== Sys2Proof/WellFormed.lean ====
section
/-! DEFINITION. The operands a command may carry beyond what its types say: lengths and ranges that the spec's tables give. -/

namespace Sys2Proof

/-- A lattice packet: at most 8 words of 64 bytes, a payload that fits them (Table 7-4). -/
def LatPkt.wf (p : LatPkt) : Bool := decide (p.words ≤ 8) && decide (p.data.length ≤ 512)

/-- A fabric packet: at most 8 words of 64 bytes, a payload that fits them (Table 9-4). -/
def FabPkt.wf (p : FabPkt) : Bool := decide (p.words ≤ 8) && decide (p.data.length ≤ 512)

/-- A stack access: one 64-byte word at an address aligned to it (R171). -/
def StackAcc.wf (x : StackAcc) : Bool := decide (x.data.length ≤ 64) && decide (x.addr.toNat % 64 = 0)

/-- A VAL message: 1 to 16 bytes (R216). -/
def ValMsg.wf (m : ValMsg) : Bool := decide (1 ≤ m.data.length) && decide (m.data.length ≤ 16)

/-- The operands that a command's types leave open lie within what the spec's tables give. -/
def Instr.wf (i : Instr) : Bool :=
  match i with
  | .latticeWrite _ p _ _ => p.wf && decide (1 ≤ p.words)
  | .latticeRead _ p _ _ => p.wf && decide (1 ≤ p.words)
  | .latticeRdrsp _ p _ => p.wf && decide (1 ≤ p.words)
  | .partW _ p _ => p.wf && decide (1 ≤ p.parts.length) && decide (p.parts.length ≤ 128)
  | .partF _ p _ => p.wf && decide (1 ≤ p.parts.length) && decide (p.parts.length ≤ 128)
  | .val _ m _ => m.wf
  | .stackAccess x => x.wf
  | .stackTrainingComplete _ lanes => decide (lanes.length = 16)
  | .dataFlit _ f => f.pkts.all FabPkt.wf
  | .fabricWrite _ p => p.wf
  | .fabricRead _ p => p.wf
  | .fabricSig _ p => p.wf
  | .wack p => p.wf
  | .wnak p => p.wf
  | .fabricRdrsp p => p.wf
  | .fabricRderr p => p.wf
  | .referenceRowTest _ _ _ codes => decide (codes.length = 4) && codes.all fun c => decide (-8 ≤ c) && decide (c ≤ 7)
  | .portLinkUp _ _ width _ => width == 1 || width == 4 || width == 8 || width == 16
  | .registerWrite _ off size v _ => decide (off < 2 ^ 26) && decide (size ≤ 64) && decide (v < 2 ^ (8 * size))
  | .sqTailDoorbell _ q _ => decide (q < 2 ^ 18)
  | .cqHeadDoorbell _ q _ => decide (q < 2 ^ 18)
  | .tqHeadDoorbell _ q _ => decide (q < 2 ^ 18)
  | .sqFetch _ q _ entries => decide (q < 64) && decide (entries.length ≤ 8)
  | .railTelemetry mw => decide (mw.length = 9)
  | .vddCoreTargetUpdate mv => decide (mv.length = 32)
  | .slowRound vals histMv => decide (vals.length = 48) && decide (histMv.length = 16)
  | _ => true

end Sys2Proof
end

