-- ==== Sys2Proof/Certificates/Slice0/Obligations.lean ====
section
/-! DEFINITION. The statements for the provers. -/

open Sys2Proof Sys2Proof.Machine

/-! ### The vector core -/

/-- The scalar instructions that write s[SD], with the value the opcode table gives each (R137) and the special registers (R136). -/
def Sys2Proof.Machine.scalarTable : List ((Site → FmtS → Instr) × (State → Site → FmtS → Word64)) :=
  [(.add, fun s t f => (s.tile t).s f.sa + FmtS.b f (s.tile t)),
   (.sub, fun s t f => (s.tile t).s f.sa - FmtS.b f (s.tile t)),
   (.mul, fun s t f => (s.tile t).s f.sa * FmtS.b f (s.tile t)),
   (.and, fun s t f => (s.tile t).s f.sa &&& FmtS.b f (s.tile t)),
   (.or, fun s t f => (s.tile t).s f.sa ||| FmtS.b f (s.tile t)),
   (.xor, fun s t f => (s.tile t).s f.sa ^^^ FmtS.b f (s.tile t)),
   (.shl, fun s t f => (s.tile t).s f.sa <<< ((FmtS.b f (s.tile t)).toNat % 64)),
   (.shr, fun s t f => (s.tile t).s f.sa >>> ((FmtS.b f (s.tile t)).toNat % 64)),
   (.sra, fun s t f => ((s.tile t).s f.sa).sshiftRight ((FmtS.b f (s.tile t)).toNat % 64)),
   (.slt, fun s t f => if ((s.tile t).s f.sa).toInt < (FmtS.b f (s.tile t)).toInt then 1 else 0),
   (.sltu, fun s t f => if ((s.tile t).s f.sa).toNat < (FmtS.b f (s.tile t)).toNat then 1 else 0),
   (.movi, fun _ _ f => f.imm.signExtend 64),
   (.movhi, fun s t f => f.imm ++ ((s.tile t).s f.sd).truncate 32),
   (.rds, fun s t f =>
     if f.imm = 0 then ((s.tile t).vflags).zeroExtend 64
     else if f.imm = 1 then BitVec.ofNat 64 (s.tileId t)
     else if f.imm = 2 then BitVec.ofNat 64 (match s.cycle0 with | some c => s.now - c | none => 0)
     else if f.imm = 3 then BitVec.ofNat 64 s.tm.time
     else 0)]

/-- ADD to MOVHI and RDS: s[SD] takes the value of the opcode table, nothing when SD is 0, b being IMM32 sign-extended when I is 1; the frame is that of VcDone. -/
def Sys2Proof.Machine.ScalarInstructionsWriteTheirResultRule : Prop :=
  ∀ p ∈ scalarTable, ∀ (s : State) (t : Site) (f : FmtS), VcReady s t →
    Runs (p.1 t f) t s (VcDone { sd := some (f.sd, p.2 s t f), npc := (s.tile t).pc + 8 } t s)

/-- FADD.S and FMUL.S: the FP32 sum or product of the low words under RNE, bits [63:32] zero, its flags added to VFLAGS (R137, R146). -/
def Sys2Proof.Machine.ScalarFpInstructionsWriteTheirResultRule : Prop :=
  ∀ p ∈ ([(.faddS, fadd), (.fmulS, fmul)] : List ((Site → FmtS → Instr) × (FVal → FVal → FVal × Flags))),
    ∀ (s : State) (t : Site) (f : FmtS), VcReady s t →
      let r := p.2 (f32dec (((s.tile t).s f.sa).truncate 32)) (f32dec ((FmtS.b f (s.tile t)).truncate 32))
      Runs (p.1 t f) t s (VcDone
        { sd := some (f.sd, (f32enc r.1).1.zeroExtend 64), flags := fun v => v ||| (r.2 ||| (f32enc r.1).2),
          npc := (s.tile t).pc + 8 } t s)

/-- The branches with their conditions (R137). -/
def Sys2Proof.Machine.branchTable : List ((Site → FmtS → Instr) × (Tile → FmtS → Prop)) :=
  [(.beq, fun x f => x.s f.sa = x.s f.sb), (.bne, fun x f => x.s f.sa ≠ x.s f.sb),
   (.blt, fun x f => (x.s f.sa).toInt < (x.s f.sb).toInt), (.bge, fun x f => (x.s f.sb).toInt ≤ (x.s f.sa).toInt),
   (.jmp, fun _ _ => True)]

/-- R135: a taken branch moves PC to its own address + IMM32 x 8, one not taken to the next instruction; below address 0 that is an address with bits beyond 21; JR moves PC to s[SA], or raises ALIGN with PC unchanged when any of bits [2:0] of it is set; an instruction fetched beyond 21 bits raises ADDR. -/
def Obligations.BranchesMovePc : Prop :=
  (∀ p ∈ branchTable, ∀ (s : State) (t : Site) (f : FmtS), VcReady s t →
    let target := ((s.tile t).pc : Int) + f.imm.toInt * 8
    (p.2 (s.tile t) f → 0 ≤ target → Runs (p.1 t f) t s (VcDone { npc := target.toNat } t s)) ∧
    (p.2 (s.tile t) f → target < 0 → ∃ n, 2 ^ 21 ≤ n ∧ Runs (p.1 t f) t s (VcDone { npc := n } t s)) ∧
    (¬ p.2 (s.tile t) f → Runs (p.1 t f) t s (VcDone { npc := (s.tile t).pc + 8 } t s))) ∧
  (∀ (s : State) (t : Site) (f : FmtS), VcReady s t →
    (((s.tile t).s f.sa).toNat % 8 = 0 → Runs (.jr t f) t s (VcDone { npc := ((s.tile t).s f.sa).toNat } t s)) ∧
    (((s.tile t).s f.sa).toNat % 8 ≠ 0 → Runs (.jr t f) t s (VcStopped .align t s))) ∧
  (∀ (i : Instr) (s : State) (t : Site), coreOf i = some t → (s.tile t).vc = .run → (s.tile t).clkOff = false →
    2 ^ 21 ≤ (s.tile t).pc → Leads i s (VcStopped .addr t s))

/-- NOP, HALT and WRS complete: NOP writes nothing, HALT leaves the core in HALT (R137, R112), WRS writes VFLAGS from s[SA] and discards a write of any other special register (R136). -/
def Sys2Proof.Machine.ControlInstructionsCompleteRule : Prop :=
  ∀ (s : State) (t : Site) (f : FmtS), VcReady s t →
    Runs (.nop t f) t s (VcDone { npc := (s.tile t).pc + 8 } t s) ∧
    Runs (.halt t f) t s (VcDone { vc := .halt, npc := (s.tile t).pc + 8 } t s) ∧
    Runs (.wrs t f) t s (VcDone
      { flags := fun v => if f.imm = 0 then ((s.tile t).s f.sa).truncate 5 else v, npc := (s.tile t).pc + 8 } t s)

/-- Scalar instructions write their result and nothing else; NOP, HALT and WRS complete: ScalarInstructionsWriteTheirResultRule and ScalarFpInstructionsWriteTheirResultRule and ControlInstructionsCompleteRule. -/
def Obligations.ScalarInstructionsWriteTheirResult : Prop := ScalarInstructionsWriteTheirResultRule ∧ ScalarFpInstructionsWriteTheirResultRule ∧ ControlInstructionsCompleteRule

/-- BRK raises BREAK, and a fetched word whose opcode is not listed raises ILLEGAL (R137, R123, R146). -/
def Sys2Proof.Machine.BreakAndUnlistedOpcodeStopRule : Prop :=
  ∀ (s : State) (t : Site), VcReady s t →
    (∀ f, Runs (.brk t f) t s (VcStopped .brk t s)) ∧
    (∀ w, Runs (.illegalOpcode t w) t s (VcStopped .illegal t s))

/-- Where an instruction does not issue: outside RUN or with the clock stopped nothing changes (R111); a fetch from a bank the vector core does not own is dropped and raises SP_OWNER (R95, R146), one from a bank in retention starts its wake and stalls the core (R103), one from a waking bank stalls it; a word that spells another instruction leaves the core to that instruction (R123). -/
def Sys2Proof.Machine.FetchIsAnAccessOfTheCoreRule : Prop :=
  ∀ (i : Instr) (s : State) (t : Site), coreOf i = some t →
    let b := bankOf (s.tile t).pc
    ((s.tile t).vc ≠ .run ∨ (s.tile t).clkOff = true → exec i s = .next s) ∧ (VcReady s t → ¬ Fetched i t s → exec i s = .next s) ∧
    ((s.tile t).vc = .run → (s.tile t).clkOff = false → (s.tile t).pc < 2 ^ 21 → s.owner t b ≠ 1 →
      Leads i s fun u => (u.tile t).vc = .fault ∧ u.get (R.VC_STAT_CAUSE t.val) = 2 ∧ u.get (R.VC_STAT_FPC t.val) = (s.tile t).pc ∧
        u.get (R.SPEVT_SP_OWNER t.val) = 1 ∧ Counted (R.SP_OWNER_CNT t.val) 1 s u ∧ u.sp = s.sp ∧ OtherTiles t s u ∧
        (s.get (R.SPERR_VALID t.val) ≠ 1 → u.get (R.SPERR_WORD t.val) = (s.tile t).pc / 64 ∧ u.get (R.SPERR_UNIT t.val) = 1 ∧
          u.get (R.SPERR_HOLDER t.val) = s.owner t b % 8)) ∧
    ((s.tile t).vc = .run → (s.tile t).clkOff = false → (s.tile t).pc < 2 ^ 21 → s.owner t b = 1 → ¬ Awake s t b →
      Leads i s fun u => (u.tile t).vc = .issueStall ∧ (u.tile t).stall = some (.bank b) ∧ (u.tile t).pc = (s.tile t).pc ∧
        ((u.tile t).bank b).pst = .waking ∧ u.sp = s.sp ∧ OtherTiles t s u ∧
        (((s.tile t).bank b).pst = .ret → Counted (R.SP_WAKE_CNT t.val) 1 s u))

/-- LD.S, ST.S, VLD, VST, VLDX and VSTX (R133, R137): within the core's own awake banks and aligned as each requires, a load takes the little-endian value of its bytes, a store writes exactly its bytes; MSK and MZ play no part. The formats and widths that VLDX and VSTX refuse, and width field 7 for BSI, are excluded here and stated to raise ILLEGAL in MalformedVectorInstructionsAreIllegal. -/
def Sys2Proof.Machine.LoadsAndStoresMoveTheirBytesRule : Prop :=
  ∀ (s : State) (t : Site), VcReady s t →
    (∀ f : FmtS, let a := (scalarAddr (s.tile t) f).toNat
      a % 8 = 0 → VcMay s t a 8 →
        Runs (.ldS t f) t s
          (VcDone { sd := some (f.sd, BitVec.ofNat 64 (leNat (s.spBytes t a 8))), npc := (s.tile t).pc + 8 } t s) ∧
        (PortsQuiet s t →
          Runs (.stS t f) t s (VcDone { mem := [(a, leBytes 8 ((s.tile t).s f.sb).toNat)], npc := (s.tile t).pc + 8 } t s))) ∧
    (∀ f : FmtM, let a := (FmtM.addr f (s.tile t)).toNat
      ¬ (f.fmt = 8 ∧ f.nma = 7) → a % 128 = 0 → VcMay s t a 128 →
        Runs (.vld t f) t s
          (VcDone { vd := some (f.vd, BitVec.ofNat 1024 (leNat (s.spBytes t a 128))), npc := (s.tile t).pc + 8 } t s) ∧
        (PortsQuiet s t →
          Runs (.vst t f) t s
            (VcDone { mem := [(a, leBytes 128 ((s.tile t).v f.vd).toNat)], npc := (s.tile t).pc + 8 } t s))) ∧
    (∀ f : FmtM, let a := (FmtM.addr f (s.tile t)).toNat
      let n := blockCount f.fmt.toNat (f.nma.toNat + 2)
      isBlockFmt f.fmt.toNat = true → ¬ (f.fmt = 8 ∧ f.nma = 7) → VcMay s t a n →
        Runs (.vldx t f) t s
          (VcDone { xd := some (f.vd, BitVec.ofNat 64 (leNat (s.spBytes t a n))), npc := (s.tile t).pc + 8 } t s) ∧
        (PortsQuiet s t →
          Runs (.vstx t f) t s
            (VcDone { mem := [(a, leBytes n ((s.tile t).x f.vd).toNat)], npc := (s.tile t).pc + 8 } t s)))

/-- VGATHER and VSCATTER (R134, R128): element i of lanes 0 to 31 moves to or from s[SA] + IMM24 + idx_i x size; masked lanes move nothing; elements 32 and above of VD stay; lanes are written in ascending order, so the higher lane stands. That a gather leaves the X-tag zero is the model's (DEDUCED from R122, log entry 31). -/
def Sys2Proof.Machine.GatherAndScatterMoveLanesRule : Prop :=
  ∀ (s : State) (t : Site) (f : FmtM), VcReady s t → f.fmt.toNat ≤ 5 →
    let x := s.tile t
    let fm := f.fmt.toNat
    let z := elemBits fm 2 / 8
    let on (i : Nat) : Bool := decide (i < 32) && (x.m f.msk.toNat).getLsbD i
    let a (i : Nat) : Nat := (x.s f.sa + f.imm.signExtend 64 + BitVec.ofNat 64 (elemCode (x.v f.vb) 0 0 i * z)).toNat
    (∀ i, on i = true → VcMay s t (a i) z) →
      Runs (.vgather t f) t s (VcDone
        { vd := some (f.vd, pack (8 * z) ((List.range (elemCount fm 2)).map fun i =>
            if on i then leNat (s.spBytes t (a i) z) else if decide (i < 32) && f.mz then 0 else elemCode (x.v f.vd) fm 2 i)),
          xd := some (f.vd, 0), npc := x.pc + 8 } t s) ∧
      (PortsQuiet s t → Runs (.vscatter t f) t s (VcDone
        { mem := ((List.range 32).filter on).map fun i => (a i, leBytes z (elemCode (x.v f.vd) fm 2 i)), npc := x.pc + 8 } t s))

/-- Scalar, vector, gather and scatter accesses move exactly their bytes: LoadsAndStoresMoveTheirBytesRule and GatherAndScatterMoveLanesRule. -/
def Obligations.LoadsAndStoresMoveTheirBytes : Prop := LoadsAndStoresMoveTheirBytesRule ∧ GatherAndScatterMoveLanesRule

/-- What a vector instruction leaves that writes `res` in format `fmt` of width `n` to v[VD] (R126 step 3, R127): the codes and X-tag of the conversion, its flags beside the results' own, CVT_OVF and QREC_FIX. -/
def Sys2Proof.Machine.VecDone (t : Site) (f : FmtV) (fmt n bad : Nat) (res : List (Option (FVal × Flags))) (s u : State) : Prop :=
  let x := s.tile t
  let o := vwrite (x.v f.vd) (x.x f.vd) fmt n f.rnd.toNat f.ov f.mz (res.map fun r => r.map (·.1))
  VcDone
    { vd := some (f.vd, o.v), xd := some (f.vd, o.x),
      flags := fun v => v ||| (flagAll (res.map fun r => match r with | some p => p.2 | none => 0) ||| o.fl),
      counts := [(R.CVT_OVF t.val, o.ovf), (R.QREC_FIX t.val, bad)], npc := x.pc + 8 } t s u

/-- The element-wise instructions: the registers each reads as elements, and its operation on element i (R126, R131, R137). -/
def Sys2Proof.Machine.vectorTable : List ((Site → FmtV → Instr) × (FmtV → List (BitVec 5)) × (Tile → FmtV → Nat → FVal → FVal → FVal → FVal × Flags)) :=
  [(.vadd, regsAB, fun _ _ _ a b _ => fadd a b), (.vsub, regsAB, fun _ _ _ a b _ => fadd a b.neg),
   (.vmul, regsAB, fun _ _ _ a b _ => fmul a b), (.vfma, regsABC, fun _ _ _ a b c => ffma a b c),
   (.vfms, regsABC, fun _ _ _ a b c => ffma a b c.neg), (.vmin, regsAB, fun _ _ _ a b _ => fmin a b),
   (.vmax, regsAB, fun _ _ _ a b _ => fmax a b), (.vabs, regsA, fun _ _ _ a _ _ => (a.abs, 0)),
   (.vneg, regsA, fun _ _ _ a _ _ => (a.neg, 0)),
   (.vsel, regsAB, fun x f i a b _ => (if (x.m f.vc.toNat).getLsbD i then a else b, 0)),
   (.vbcst, fun _ => [], fun x f _ _ _ _ => (scalarVal f.fmt (x.s f.va), 0))]

/-- VADD, VSUB, VMUL, VFMA, VFMS, VMIN, VMAX, VABS, VNEG, VSEL and VBCST: each unmasked element of v[VD] becomes the operation on the widened elements, rounded once to FP32 (exact for INT8), then converted to FMT (R126, R128, R137). -/
def Sys2Proof.Machine.VectorArithmeticWritesItsResultRule : Prop :=
  ∀ p ∈ vectorTable, ∀ (s : State) (t : Site) (f : FmtV), VcReady s t → badFmt f.fmt f.nma = false →
    Runs (p.1 t f) t s (VecDone t f f.fmt.toNat (f.nma.toNat + 2) (((p.2.1 f).map (FmtV.bad f (s.tile t))).foldl (· + ·) 0)
      (vecRes f (s.tile t) (p.2.2 (s.tile t) f)) s)

/-- The transcendental instructions by function (R131). -/
def Sys2Proof.Machine.transTable : List ((Site → FmtV → Instr) × VFun) :=
  [(.vexp, .exp), (.vexp2, .exp2), (.vlog2, .log2), (.vrcp, .rcp), (.vrsqrt, .rsqrt), (.vsqrt, .sqrt), (.vtanh, .tanh), (.vsigm, .sigm),
   (.vgelu, .gelu), (.vsilu, .silu)]

/-- VEXP to VSILU complete with the function of each unmasked element, and VCVT with the elements of VA, each rounded and converted by R126 and R127; the function's value for an ordinary operand is free within the accuracy that R131 gives it, its value for a special operand that of IEEE 754. -/
def Sys2Proof.Machine.VectorFunctionsAndConversionWriteTheirResultRule : Prop :=
  (∀ p ∈ transTable, ∀ (s : State) (t : Site) (f : FmtV), VcReady s t → badFmt f.fmt f.nma = false →
    Runs (p.1 t f) t s (VecDone t f f.fmt.toNat (f.nma.toNat + 2) (FmtV.bad f (s.tile t) f.va)
      (vecRes f (s.tile t) fun _ a _ _ =>
        if f.fmt = 5 then ((roundSig 24 (some (-149)) (vfun p.2 a).1).1, (vfun p.2 a).2) else vfun p.2 a) s)) ∧
  (∀ (s : State) (t : Site) (f : FmtV), VcReady s t → badFmt f.fmt f.nma = false → badFmt f.fmt2 f.nmb = false →
    Runs (.vcvt t f) t s (VecDone t f f.fmt2.toNat (f.nmb.toNat + 2) (FmtV.bad f (s.tile t) f.va)
      ((List.range (elemCount f.fmt.toNat (f.nma.toNat + 2))).map fun i =>
        if FmtV.on f (s.tile t) i then some (valAt (FmtV.elems f (s.tile t) f.va) i, 0) else none) s))

/-- R128 in the formats that are not block formats: element i of v[VD] of an arithmetic, transcendental or bitwise instruction that is masked is left unchanged when MZ is 0 and written as zero when MZ is 1. -/
def Sys2Proof.Machine.MaskedElementsStayOrBecomeZeroRule : Prop :=
  ∀ c ∈ (vectorTable.map (·.1) ++ transTable.map (·.1) ++ ([.vand, .vor, .vxor, .vmov] : List (Site → FmtV → Instr))),
    ∀ (s : State) (t : Site) (f : FmtV), VcReady s t → f.fmt.toNat ≤ 5 →
      Runs (c t f) t s  fun u => ∀ i, i < elemCount f.fmt.toNat 2 → ((s.tile t).m f.msk.toNat).getLsbD i = false →
        elemCode ((u.tile t).v f.vd) f.fmt.toNat 2 i = if f.mz then 0 else elemCode ((s.tile t).v f.vd) f.fmt.toNat 2 i

/-- The compares: whether a quiet NaN raises no flag, the result for a NaN operand, the relation (R126, R130). -/
def Sys2Proof.Machine.compareTable : List ((Site → FmtV → Instr) × Bool × Bool × (FVal → FVal → Bool)) :=
  [(.vcmpeq, true, false, fun a b => !flt a b && !flt b a), (.vcmpne, true, true, fun a b => flt a b || flt b a),
   (.vcmplt, false, false, flt), (.vcmple, false, false, fun a b => !flt b a)]

/-- VCMPEQ, VCMPNE, VCMPLT and VCMPLE: bit i of m[VD] is the result for element i; masked elements and bits past the format's elements are 0; a NaN operand raises NV as the compare says (R126, R130); m0 is never written (R121). -/
def Sys2Proof.Machine.CompareWritesItsMaskRule : Prop :=
  ∀ p ∈ compareTable, ∀ (s : State) (t : Site) (f : FmtV), VcReady s t → badFmt f.fmt f.nma = false →
    let x := s.tile t
    let a (i : Nat) : FVal := valAt (FmtV.elems f x f.va) i
    let b (i : Nat) : FVal := valAt (FmtV.elemsB f x) i
    let on (i : Nat) : Bool := decide (i < FmtV.count f) && FmtV.on f x i
    ∃ m : BitVec 512,
      (∀ i, i < 512 → m.getLsbD i = (on i && if (a i).isNaN || (b i).isNaN then p.2.2.1 else p.2.2.2 (a i) (b i))) ∧
      Runs (p.1 t f) t s (VcDone
        { md := some (f.vd.toNat, m),
          flags := fun v => v ||| flagIf ((List.range (FmtV.count f)).any fun i =>
            on i && ((a i).isNaN || (b i).isNaN) && (!p.2.1 || (a i).isSig || (b i).isSig)) flagNV,
          counts := [(R.QREC_FIX t.val, ((regsAB f).map (FmtV.bad f x)).foldl (· + ·) 0)], npc := x.pc + 8 } t s)

/-- Vector functions, conversion and compares write their result: VectorFunctionsAndConversionWriteTheirResultRule and CompareWritesItsMaskRule. -/
def Obligations.VectorFunctionsAndComparesWriteTheirResult : Prop := VectorFunctionsAndConversionWriteTheirResultRule ∧ CompareWritesItsMaskRule

/-- VAND, VOR, VXOR and VMOV: unmasked element codes are the bitwise result, or the codes of VA; bits past the elements are zero; VMOV copies the X-tag, the bitwise instructions keep it, both as far as FMT uses it (R122, R126, R128, R137). -/
def Sys2Proof.Machine.BitwiseAndMoveWriteCodesRule : Prop :=
  ∀ (s : State) (t : Site) (f : FmtV), VcReady s t → badFmt f.fmt f.nma = false →
    let x := s.tile t
    let fm := f.fmt.toNat
    let n := f.nma.toNat + 2
    let b (i : Nat) : Nat :=
      if f.bs then
        (if elemBits fm n = 32 then ((x.s f.vb).truncate 32 : BitVec 32).toNat
         else Config.bitScalar fm ((x.s f.vb).truncate 32) % 2 ^ elemBits fm n)
      else elemCode (x.v f.vb) fm n i
    let done (c : Nat → Nat) (xt : BitVec 64) : VcDelta :=
      { vd := some (f.vd, pack (elemBits fm n) ((List.range (elemCount fm n)).map fun i =>
          if FmtV.on f x i then c i else if f.mz then 0 else elemCode (x.v f.vd) fm n i)),
        xd := some (f.vd, BitVec.ofNat 64 (xt.toNat % 2 ^ (8 * blockCount fm n))), npc := x.pc + 8 }
    (∀ p ∈ ([(.vand, Nat.land), (.vor, Nat.lor), (.vxor, Nat.xor)] : List ((Site → FmtV → Instr) × (Nat → Nat → Nat))),
      Runs (p.1 t f) t s (VcDone (done (fun i => p.2 (elemCode (x.v f.va) fm n i) (b i)) (x.x f.vd)) t s)) ∧
    Runs (.vmov t f) t s (VcDone (done (elemCode (x.v f.va) fm n) (x.x f.va)) t s)

/-- Vector arithmetic, its masking, and bitwise and move instructions write their elements: VectorArithmeticWritesItsResultRule and MaskedElementsStayOrBecomeZeroRule and BitwiseAndMoveWriteCodesRule. -/
def Obligations.VectorArithmeticWritesItsResult : Prop := VectorArithmeticWritesItsResultRule ∧ MaskedElementsStayOrBecomeZeroRule ∧ BitwiseAndMoveWriteCodesRule

/-- The reductions: what each element brings, how two combine, the result over no element (R132). -/
def Sys2Proof.Machine.reduceTable : List ((Site → FmtV → Instr) × (Bool → FVal → FVal × Flags) × (Bool → FVal → FVal → FVal × Flags) × (Bool → Word64)) :=
  [(.vrsum, fun _ a => (a, 0), add32, fun _ => 0), (.vrmax, fun _ a => (a, 0), fun _ => fmax, emptyMax),
   (.vrmin, fun _ a => (a, 0), fun _ => fmin, Config.emptyMin), (.vramax, fun _ a => (a.abs, 0), fun _ => fmax, emptyMax),
   (.vrsumsq, fun i a => mul32 i a a, add32, fun _ => 0)]

/-- VRSUM, VRMAX, VRMIN, VRAMAX and VRSUMSQ: the pairwise tree over the unmasked elements, in s[VD] as FP32 in the low word, or INT32 sign-extended for INT8 (R132). The result of VRMIN over no element is a free value. -/
def Sys2Proof.Machine.ReductionsWriteTheirScalarRule : Prop :=
  ∀ p ∈ reduceTable, ∀ (s : State) (t : Site) (f : FmtV), VcReady s t → badFmt f.fmt f.nma = false →
    let x := s.tile t
    let i8 : Bool := f.fmt == 5
    let e := (List.range (FmtV.count f)).map fun i =>
      if FmtV.on f x i then some (p.2.1 i8 (valAt (FmtV.elems f x f.va) i)) else none
    let r := treeFold (p.2.2.1 i8) 9 (e.map fun o => o.map (·.1))
    Runs (p.1 t f) t s (VcDone
      { sd := some (f.vd, match r.1 with | some v => redWord i8 v | none => p.2.2.2 i8),
        flags := fun v => v ||| (flagAll (e.map fun o => match o with | some q => q.2 | none => 0) ||| r.2),
        counts := [(R.QREC_FIX t.val, FmtV.bad f x f.va)], npc := x.pc + 8 } t s)

/-- MAND, MOR, MXOR, MNOT, MSET and MGET bit by bit (R137), m0 reading as all ones and discarding writes (R121); width field 7 for BSI is stated to raise ILLEGAL in MalformedVectorInstructionsAreIllegal. -/
def Sys2Proof.Machine.MaskInstructionsWriteTheirBitsRule : Prop :=
  ∀ (s : State) (t : Site) (f : FmtV), VcReady s t → ¬ (f.fmt = 8 ∧ f.nma = 7) →
    let x := s.tile t
    let a (i : Nat) : Bool := (x.m f.va.toNat).getLsbD i
    let b (i : Nat) : Bool := (x.m f.vb.toNat).getLsbD i
    let k := (x.s f.vb).toNat % 8
    (∀ p ∈ ([(.mand, fun i => a i && b i), (.mor, fun i => a i || b i), (.mxor, fun i => a i ^^ b i), (.mnot, fun i => !a i),
        (.mset, fun i => if i / 64 = k then (x.s f.va).getLsbD (i % 64) else (x.m f.vd.toNat).getLsbD i)] :
          List ((Site → FmtV → Instr) × (Nat → Bool))),
      ∃ m : BitVec 512, (∀ i, i < 512 → m.getLsbD i = p.2 i) ∧
        Runs (p.1 t f) t s (VcDone { md := some (f.vd.toNat, m), npc := x.pc + 8 } t s)) ∧
    (∃ v : Word64, (∀ j, j < 64 → v.getLsbD j = a (64 * k + j)) ∧
      Runs (.mget t f) t s (VcDone { sd := some (f.vd, v), npc := x.pc + 8 } t s))

/-- Reductions write their scalar, mask instructions their bits: ReductionsWriteTheirScalarRule and MaskInstructionsWriteTheirBitsRule. -/
def Obligations.ReductionsAndMaskInstructionsWriteTheirResult : Prop := ReductionsWriteTheirScalarRule ∧ MaskInstructionsWriteTheirBitsRule

/-- A reserved format code, or width field 7 for BSI, raises ILLEGAL in every vector instruction that widens or writes FMT; width field 7 for BSI in VLD, VST and the mask instructions too; a block format does in VGATHER and VSCATTER, a non-block format in VLDX and VSTX (R124, R133, R134, Table 4-8). -/
def Sys2Proof.Machine.MalformedVectorInstructionsAreIllegalRule : Prop :=
  ∀ (s : State) (t : Site), VcReady s t →
    (∀ c ∈ (vectorTable.map (·.1) ++ transTable.map (·.1) ++ compareTable.map (·.1) ++ reduceTable.map (·.1) ++
        ([.vand, .vor, .vxor, .vmov, .vcvt] : List (Site → FmtV → Instr))), ∀ f : FmtV,
      10 ≤ f.fmt.toNat ∨ (f.fmt = 8 ∧ f.nma = 7) → Runs (c t f) t s (VcStopped .illegal t s)) ∧
    (∀ f : FmtM, 6 ≤ f.fmt.toNat → Runs (.vgather t f) t s (VcStopped .illegal t s) ∧ Runs (.vscatter t f) t s (VcStopped .illegal t s)) ∧
    (∀ f : FmtM, isBlockFmt f.fmt.toNat = false ∨ (f.fmt = 8 ∧ f.nma = 7) →
      Runs (.vldx t f) t s (VcStopped .illegal t s) ∧ Runs (.vstx t f) t s (VcStopped .illegal t s)) ∧
    (∀ f : FmtM, f.fmt = 8 ∧ f.nma = 7 → Runs (.vld t f) t s (VcStopped .illegal t s) ∧ Runs (.vst t f) t s (VcStopped .illegal t s)) ∧
    (∀ c ∈ ([.mand, .mor, .mxor, .mnot, .mset, .mget] : List (Site → FmtV → Instr)), ∀ f : FmtV,
      f.fmt = 8 ∧ f.nma = 7 → Runs (c t f) t s (VcStopped .illegal t s)) ∧
    (∀ f : FmtV, 10 ≤ f.fmt2.toNat ∨ (f.fmt2 = 8 ∧ f.nmb = 7) → Runs (.vcvt t f) t s (VcStopped .illegal t s))

/-- BRK, unlisted opcodes, malformed vector instructions and fetches stop the core with their cause: BreakAndUnlistedOpcodeStopRule and FetchIsAnAccessOfTheCoreRule and MalformedVectorInstructionsAreIllegalRule. -/
def Obligations.ExceptionsStopTheCore : Prop := BreakAndUnlistedOpcodeStopRule ∧ FetchIsAnAccessOfTheCoreRule ∧ MalformedVectorInstructionsAreIllegalRule

/-- RQU.QV, ARR.MVM, EBA.OPEN, TU.MMA and DMA.KICK that pass the checks of R144 are placed in the ARR, TU or DMA queue with the register values they read, or stall the core on a full queue (R89, R125, R138 to R143). -/
def Sys2Proof.Machine.UnitInstructionsEnterTheirQueueRule : Prop :=
  ∀ (s : State) (t : Site) (f : FmtX), VcReady s t →
    let x := s.tile t
    let r (i : BitVec 5) : Nat := (x.s i).toNat
    let area := FmtX.area f x
    let fld := FmtX.fld f
    let low (l : List Nat) : Prop := ∀ a ∈ l, a < 2 ^ 21
    (f.sb.toNat ≤ 29 → low [r f.sa, area 0, area 1, area 2, r f.sc] →
      Runs (.rquQv t f) t s (VcIssues 0 (.rquQv (r f.sa) (area 0) (area 1) (area 2) (r f.sc) (r f.sd) (fld 28 8 + 1)) t s)) ∧
    (f.sb.toNat ≤ 29 → x.s f.sc ≠ 0 → fld 28 7 + r f.sd % 128 ≤ 127 → fld 38 4 = 8 ∨ fld 38 4 = 9 → fld 42 3 ≠ 7 →
      low [r f.sa, area 0, area 1, area 2] →
      Runs (.arrMvm t f) t s (VcIssues 0
        (.arrMvm (r f.sa) (area 0) (area 1) (area 2) (r f.sc) (fld 28 7 + r f.sd % 128) ((fld 35 1 == 1) ^^ (x.s f.sd).getLsbD 7)
          (fld 36 2) (fld 38 4) (fld 42 3) (fld 45 2) (if fld 47 2 = 3 then 0 else fld 47 2) (fld 49 3)) t s)) ∧
    (fld 28 5 + (fld 33 5 + 1) ≤ 32 → low [r f.sa, r f.sb, r f.sc] → r f.sb % 64 = 0 →
      Runs (.ebaOpen t f) t s (VcIssues 0
        (.ebaOpen (r f.sa) (r f.sb) (r f.sc) (r f.sd) (fld 28 5) (fld 33 5 + 1) (fld 38 15 + 1) (fld 54 8 + 1) (fld 53 1 == 1)) t s)) ∧
    (low [r f.sa, r f.sb] → (fld 41 1 = 1 ∨ r f.sc < 2 ^ 21) →
      Runs (.tuMma t f) t s (VcIssues 1
        (.tuMma (r f.sa) (r f.sb) (r f.sc) (bits (r f.sd) 0 8 + 1) (bits (r f.sd) 8 12 + 1) (bits (r f.sd) 20 12 + 1) (fld 28 4)
          (fld 32 4) (fld 36 4) (fld 40 1 == 1) (fld 41 1 == 1) (fld 42 2) (fld 44 1 == 1)) t s)) ∧
    Runs (.dmaKick t f) t s (VcIssues 2 (.dmaKick (r f.sa) (fld 28 3)) t s)

/-- The checks of R144 at the issue of a unit instruction, nothing being placed in a queue: a code area above s31, an ARR.MVM whose format is no INT8 or BSI code, whose fault field is 7, whose row count is zero or whose plane leaves 0 to 127, and an EBA.OPEN of blocks beyond 31 raise ILLEGAL; else an address of 2 MiB or more raises ADDR; else the exponent vector of EBA.OPEN off a 64-byte boundary raises ALIGN. The order of the three is the model's choice (log 21). -/
def Sys2Proof.Machine.UnitInstructionsAreCheckedRule : Prop :=
  ∀ (s : State) (t : Site) (f : FmtX), VcReady s t →
    let x := s.tile t
    let r (i : BitVec 5) : Nat := (x.s i).toNat
    let area := FmtX.area f x
    let fld := FmtX.fld f
    let high (l : List Nat) : Prop := ∃ a ∈ l, 2 ^ 21 ≤ a
    let badMvm : Prop := 29 < f.sb.toNat ∨ x.s f.sc = 0 ∨ 127 < fld 28 7 + r f.sd % 128 ∨ (fld 38 4 ≠ 8 ∧ fld 38 4 ≠ 9) ∨ fld 42 3 = 7
    (29 < f.sb.toNat → Runs (.rquQv t f) t s (VcStopped .illegal t s)) ∧
    (f.sb.toNat ≤ 29 → high [r f.sa, area 0, area 1, area 2, r f.sc] → Runs (.rquQv t f) t s (VcStopped .addr t s)) ∧
    (badMvm → Runs (.arrMvm t f) t s (VcStopped .illegal t s)) ∧
    (¬badMvm → high [r f.sa, area 0, area 1, area 2] → Runs (.arrMvm t f) t s (VcStopped .addr t s)) ∧
    (32 < fld 28 5 + (fld 33 5 + 1) → Runs (.ebaOpen t f) t s (VcStopped .illegal t s)) ∧
    (fld 28 5 + (fld 33 5 + 1) ≤ 32 → high [r f.sa, r f.sb, r f.sc] → Runs (.ebaOpen t f) t s (VcStopped .addr t s)) ∧
    (fld 28 5 + (fld 33 5 + 1) ≤ 32 → ¬high [r f.sa, r f.sb, r f.sc] → r f.sb % 64 ≠ 0 →
      Runs (.ebaOpen t f) t s (VcStopped .align t s)) ∧
    (high [r f.sa, r f.sb] ∨ (fld 41 1 = 0 ∧ 2 ^ 21 ≤ r f.sc) → Runs (.tuMma t f) t s (VcStopped .addr t s))

/-- SIGNAL, WAIT, ACQUIRE, RESET and SP.OWN: Q 0 to 3 places the operation in that queue; Q 4 executes it in line, SIGNAL and RESET sending their message to the object's stop, WAIT and ACQUIRE sending theirs and holding the core, SP.OWN requesting the change of owner and holding the core; Q 5 to 7 raises ILLEGAL (R142), and so do the owner codes 6 and 7 of SP.OWN, which the model reads as reserved (log 24). -/
def Sys2Proof.Machine.SynchronisationInstructionsIssueRule : Prop :=
  ∀ (s : State) (t : Site) (f : FmtY), VcReady s t →
    let x := s.tile t
    let h : Handle := if f.hi then f.immh else (x.s f.sh).truncate 23
    let n : BitVec 32 := if f.ni then f.immn.zeroExtend 32 else (x.s f.sn).truncate 32
    let bank := f.immn.toNat % 8
    let owner := f.immn.toNat / 16 % 8
    let moved (u : State) : Prop := (u.tile t).pc = x.pc + 8 ∧ Counted (R.VC_INSTR_CNT t.val) 1 s u ∧ OtherTiles t s u ∧
      RegsBut [R.VC_INSTR_CNT t.val] s u ∧ u.sp = s.sp ∧ (∀ q, (u.tile t).queue q = x.queue q)
    (∀ p ∈ ([(.signal, .signal h n), (.wait, .wait h n), (.acquire, .acquire h n), (.reset, .reset h n)] :
        List ((Site → FmtY → Instr) × QOp)),
      (f.q.toNat < 4 → Runs (p.1 t f) t s (VcIssues f.q.toNat p.2 t s)) ∧
      (4 < f.q.toNat → Runs (p.1 t f) t s (VcStopped .illegal t s))) ∧
    (f.q.toNat < 4 → owner < 6 → Runs (.spOwn t f) t s (VcIssues f.q.toNat (.spOwn bank owner) t s)) ∧
    (4 < f.q.toNat ∨ 6 ≤ owner → Runs (.spOwn t f) t s (VcStopped .illegal t s)) ∧
    (f.q = 4 →
      Runs (.signal t f) t s (fun u => moved u ∧ (u.tile t).vc = .run ∧ Posted (siteNode t) (stopNode h) clSIG (.sig h 0 n none) s u) ∧
      Runs (.reset t f) t s (fun u => moved u ∧ (u.tile t).vc = .run ∧ Posted (siteNode t) (stopNode h) clSIG (.sig h 3 n none) s u) ∧
      Runs (.wait t f) t s (fun u => moved u ∧ (u.tile t).vc = .wait ∧ (u.tile t).inwait = some (.obj false h n none) ∧
        Posted (siteNode t) (stopNode h) clSIG (.sig h 1 n (some (.tile t 4))) s u) ∧
      Runs (.acquire t f) t s (fun u => moved u ∧ (u.tile t).vc = .wait ∧ (u.tile t).inwait = some (.obj true h n none) ∧
        Posted (siteNode t) (stopNode h) clSIG (.sig h 2 n (some (.tile t 4))) s u) ∧
      (owner < 6 → Runs (.spOwn t f) t s (fun u => moved u ∧ (u.tile t).vc = .wait ∧ (u.tile t).inwait = some (.own bank) ∧ u.out = s.out ∧ u.tan = s.tan ∧
        ((u.tile t).bank bank).chg = (x.bank bank).chg.filter (fun d => d.time ≠ s.now ∨ d.rank ≤ 5) ++
          [⟨s.now, 5, owner⟩] ++ (x.bank bank).chg.filter (fun d => ¬(d.time ≠ s.now ∨ d.rank ≤ 5)))))

/-- Unit and synchronisation instructions are checked, then enter their issue queue or stall: UnitInstructionsEnterTheirQueueRule and UnitInstructionsAreCheckedRule and SynchronisationInstructionsIssueRule. -/
def Obligations.UnitInstructionsEnterTheirQueue : Prop := UnitInstructionsEnterTheirQueueRule ∧ UnitInstructionsAreCheckedRule ∧ SynchronisationInstructionsIssueRule

/-! ### Instruction words -/

/-- The scalar, control and branch instructions with their opcodes (Table 4-3), in format S. -/
def Sys2Proof.Machine.opcodesS : List (BitVec 8 × (Site → FmtS → Instr)) :=
  [(0x00, .nop), (0x01, .add), (0x02, .sub), (0x03, .mul), (0x04, .and), (0x05, .or), (0x06, .xor), (0x07, .shl),
   (0x08, .shr), (0x09, .sra), (0x0A, .slt), (0x0B, .sltu), (0x0C, .movi), (0x0D, .movhi), (0x0E, .faddS), (0x0F, .fmulS),
   (0x10, .ldS), (0x11, .stS), (0x12, .beq), (0x13, .bne), (0x14, .blt), (0x15, .bge), (0x16, .jmp), (0x17, .jr),
   (0x18, .halt), (0x19, .brk), (0x1A, .rds), (0x1B, .wrs)]

/-- The vector arithmetic, conversion, transcendental, reduction and mask instructions with their opcodes (Table 4-3), in format V. -/
def Sys2Proof.Machine.opcodesV : List (BitVec 8 × (Site → FmtV → Instr)) :=
  [(0x20, .vadd), (0x21, .vsub), (0x22, .vmul), (0x23, .vfma), (0x24, .vfms), (0x25, .vmin), (0x26, .vmax), (0x27, .vabs),
   (0x28, .vneg), (0x29, .vsel), (0x2A, .vmov), (0x2B, .vbcst), (0x2C, .vcmpeq), (0x2D, .vcmpne), (0x2E, .vcmplt),
   (0x2F, .vcmple), (0x30, .vand), (0x31, .vor), (0x32, .vxor), (0x40, .vcvt), (0x50, .vexp), (0x51, .vexp2),
   (0x52, .vlog2), (0x53, .vrcp), (0x54, .vrsqrt), (0x55, .vsqrt), (0x56, .vtanh), (0x57, .vsigm), (0x58, .vgelu),
   (0x59, .vsilu), (0x60, .vrsum), (0x61, .vrmax), (0x62, .vrmin), (0x63, .vramax), (0x64, .vrsumsq), (0x80, .mand),
   (0x81, .mor), (0x82, .mxor), (0x83, .mnot), (0x84, .mset), (0x85, .mget)]

/-- The vector load, store, gather and scatter instructions with their opcodes (Table 4-3), in format M. -/
def Sys2Proof.Machine.opcodesM : List (BitVec 8 × (Site → FmtM → Instr)) :=
  [(0x70, .vld), (0x71, .vst), (0x72, .vldx), (0x73, .vstx), (0x74, .vgather), (0x75, .vscatter)]

/-- The unit instructions with their opcodes (Table 4-3), in format X. -/
def Sys2Proof.Machine.opcodesX : List (BitVec 8 × (Site → FmtX → Instr)) :=
  [(0x90, .rquQv), (0x91, .arrMvm), (0x92, .ebaOpen), (0xA0, .tuMma), (0xC0, .dmaKick)]

/-- The synchronisation instructions with their opcodes (Table 4-3), in format Y. -/
def Sys2Proof.Machine.opcodesY : List (BitVec 8 × (Site → FmtY → Instr)) :=
  [(0xB0, .signal), (0xB1, .wait), (0xB2, .acquire), (0xB3, .reset), (0xB4, .spOwn)]

/-- R123, R124: the word that an opcode and the fields of its format make spells that instruction with those fields, whatever values they have; a word whose opcode no row of Table 4-3 lists spells none, and the reserved bits of a word play no part. -/
def Obligations.InstructionWordsDecode : Prop :=
  ∀ t : Site,
    (∀ p ∈ opcodesS, ∀ f, bviDecode t (FmtS.word p.1 f) = some (p.2 t f)) ∧ (∀ p ∈ opcodesV, ∀ f, bviDecode t (FmtV.word p.1 f) = some (p.2 t f)) ∧
    (∀ p ∈ opcodesM, ∀ f, bviDecode t (FmtM.word p.1 f) = some (p.2 t f)) ∧ (∀ p ∈ opcodesX, ∀ f, bviDecode t (FmtX.word p.1 f) = some (p.2 t f)) ∧
    (∀ p ∈ opcodesY, ∀ f, bviDecode t (FmtY.word p.1 f) = some (p.2 t f)) ∧
    (∀ w : BitVec 64, (bviDecode t w).isSome =
      (opcodesS.map (·.1) ++ opcodesV.map (·.1) ++ opcodesM.map (·.1) ++ opcodesX.map (·.1) ++ opcodesY.map (·.1)).contains (w.extractLsb' 0 8)) ∧
    (∀ w v : BitVec 64, w.extractLsb' 0 8 ∈ opcodesS.map (·.1) → (∀ i, i < 64 → (i < 24 ∨ 32 ≤ i) → w.getLsbD i = v.getLsbD i) →
      bviDecode t w = bviDecode t v) ∧
    (∀ w v : BitVec 64, w.extractLsb' 0 8 ∈ opcodesV.map (·.1) → (∀ i, i < 50 → w.getLsbD i = v.getLsbD i) → bviDecode t w = bviDecode t v) ∧
    (∀ w v : BitVec 64, w.extractLsb' 0 8 ∈ opcodesM.map (·.1) → (∀ i, i < 64 → (i < 23 ∨ 28 ≤ i) → i ≠ 39 → w.getLsbD i = v.getLsbD i) →
      bviDecode t w = bviDecode t v) ∧
    (∀ w v : BitVec 64, w.extractLsb' 0 8 ∈ opcodesY.map (·.1) → (∀ i, i < 63 → i ≠ 23 → w.getLsbD i = v.getLsbD i) →
      bviDecode t w = bviDecode t v)

/-! ### Tiles -/

/-- ISSUE_STALL_RESUME, QUEUE_ENTRY_EXECUTE and QSTALL: a stalled core places its entry and goes on when its queue has room (R89); a synchronisation or SP.OWN entry at the head of its queue executes once earlier entries are complete, a WAIT or ACQUIRE then holding the head (R90); a head held beyond QSTALL_LIM is counted and reported once (R92). -/
def Sys2Proof.Machine.IssueQueuesExecuteInOrderRule : Prop :=
  ∀ (s : State) (t : Site),
    (∀ q e, (s.tile t).vc = .issueStall → (s.tile t).stall = some (.queue q e) → (s.tile t).awake = true →
      ((s.tile t).queue q).ents.length < queueDepth q →
        Leads (.issueStallResume t) s fun u =>
          (u.tile t).queue q = { (s.tile t).queue q with ents := ((s.tile t).queue q).ents ++ [e] } ∧ (u.tile t).vc = .run ∧
            (u.tile t).stall = none ∧ (u.tile t).pc = (e.pc + 8) % 2 ^ 64 ∧ Counted (R.VC_INSTR_CNT t.val) 1 s u ∧
            TileOnly t [R.VC_INSTR_CNT t.val] s u) ∧
    (∀ (q : Fin 4) (e : QEntry) (r : List QEntry), ((s.tile t).queue q.val).ents = e :: r → (s.tile t).awake = true →
      (s.tile t).clear q.val = true →
        let leaves (u : State) : Prop := u.tile t = { (s.tile t).setQueue q.val ⟨r, .free⟩ with parked := none } ∧ TileSends t [] s u
        let holds (u : State) : Prop :=
          u.tile t = (s.tile t).setQueue q.val { (s.tile t).queue q.val with head := .waiting s.now false none } ∧ TileSends t [] s u
        let sent (h : Handle) (o : Out) (u : State) : Prop := Posted (siteNode t) (stopNode h) clSIG o s u
        (∀ h n, e.op = .signal h n →
          Leads (.queueEntryExecute t q) s fun u => leaves u ∧ sent h (.sig h 0 n none) u) ∧
        (∀ h n, e.op = .reset h n →
          Leads (.queueEntryExecute t q) s fun u => leaves u ∧ sent h (.sig h 3 n none) u) ∧
        (∀ h n, e.op = .wait h n →
          Leads (.queueEntryExecute t q) s fun u => holds u ∧ sent h (.sig h 1 n (some (.tile t ⟨q.val, by omega⟩))) u) ∧
        (∀ h n, e.op = .acquire h n →
          Leads (.queueEntryExecute t q) s fun u => holds u ∧ sent h (.sig h 2 n (some (.tile t ⟨q.val, by omega⟩))) u) ∧
        (∀ b o, e.op = .spOwn b o →
          Leads (.queueEntryExecute t q) s fun u => (u.tile t).queue q.val = ⟨r, .own b⟩ ∧ TileOnly t [] s u ∧
            ⟨s.now, q.val + 1, if 6 ≤ o then 0 else o⟩ ∈ ((u.tile t).bank b).chg)) ∧
    (∀ (q : Fin 4) since r, ((s.tile t).queue q.val).head = .waiting since false r →
      s.get (R.QSTALL_LIM_LIMIT t.val) * 940 < s.now - since →
        Leads (.qstall t q) s fun u =>
          (u.tile t).queue q.val = { (s.tile t).queue q.val with head := .waiting since true r } ∧
            u.get (R.SPEVT_QSTALL t.val) = 1 ∧ Counted (R.QSTALL_CNT t.val) 1 s u ∧
            Raised (fun e => e.kind = 0x0A ∧ e.site.toNat = t.val ∧ e.detail.toNat = q.val) s u ∧
            TileSends t [R.SPEVT_QSTALL t.val, R.QSTALL_CNT t.val] s u)

/-- VC_RUN_SET, VC_RUN_CLEAR and Q_FLUSH: VC_RUN := 1 starts a halted or faulted core at VC_PC, with every register zero from HALT (R112, R121); VC_RUN := 0 halts a running, stalled or waiting core and leaves HALT and FAULT (R112); Q_FLUSH empties the four queues of a stopped core and leaves those of another (R113). -/
def Sys2Proof.Machine.VectorCoreStartsAndStopsRule : Prop :=
  ∀ (src : Partner) (s : State) (t : Site), Passes src (tileOff t 4) s →
    ((s.tile t).fenced = false → (s.tile t).pstate = 0 → (s.tile t).vc = .halt ∨ (s.tile t).vc = .fault →
      Leads (.vcRunSet src t) s fun u =>
        (u.tile t).vc = .run ∧ (u.tile t).pc = s.get (R.VC_PC_PC t.val) * 8 ∧ u.get (R.TILE_CTL_VC_RUN t.val) = 1 ∧
          ((s.tile t).vc = .halt → (u.tile t).sr = [] ∧ (u.tile t).vr = [] ∧ (u.tile t).xt = [] ∧ (u.tile t).mr = [] ∧
            (u.tile t).vflags = 0) ∧
          TileSet t (tileOff t 4) 4 1 [R.TILE_CTL_VC_RUN t.val] s u) ∧
    Leads (.vcRunClear src t) s (fun u =>
      (u.tile t).vc = (if (s.tile t).vc = .fault then .fault else .halt) ∧ u.get (R.TILE_CTL_VC_RUN t.val) = 0 ∧
        (∀ q, (u.tile t).queue q = (s.tile t).queue q) ∧ (u.tile t).sr = (s.tile t).sr ∧ (u.tile t).pc = (s.tile t).pc ∧
        TileSet t (tileOff t 4) 4 0 [R.TILE_CTL_VC_RUN t.val] s u) ∧
    Leads (.qFlush src t) s (fun u =>
      (∀ q, ((u.tile t).queue q).ents =
        if (s.tile t).vc = .halt ∨ (s.tile t).vc = .fault then [] else ((s.tile t).queue q).ents) ∧
        (u.tile t).vc = (s.tile t).vc ∧ (u.tile t).sr = (s.tile t).sr ∧ TileSet t (tileOff t 4) 4 2 [] s u)

/-- Issue queues execute in order; the vector core starts and stops: IssueQueuesExecuteInOrderRule and VectorCoreStartsAndStopsRule. -/
def Obligations.CoresRunAndQueuesExecuteInOrder : Prop := IssueQueuesExecuteInOrderRule ∧ VectorCoreStartsAndStopsRule

/-- SPOWN_WRITE and OWNERSHIP_CHANGE_EFFECT: a write of SPOWN with owners 0 to 5 requests the change of every bank whose owner it changes (R99); the codes 6 and 7 request the owner NONE (the model's choice, log 24); the changes of a bank that executed in earlier cycles take effect together, none in the cycle in which it executes, the last applied standing, each one overtaken in its tick counting in SPOWN_RACE_CNT, and what waited for it goes on (R99, R100). -/
def Sys2Proof.Machine.OwnershipChangesTakeEffectRule : Prop :=
  ∀ (s : State) (t : Site),
    (∀ (src : Partner) (v : BitVec 32), Passes src (tileOff t 0x10) s → (∀ b, b < 8 → v.toNat / 16 ^ b % 8 ≤ 5) →
      Leads (.spownWrite src t v) s fun u =>
        (∀ b, b < 8 →
          let o := v.toNat / 16 ^ b % 8
          ((u.tile t).bank b).chg =
            if o = s.owner t b ∧ ((s.tile t).bank b).chg = [] then []
            else ((s.tile t).bank b).chg.filter (fun d => d.time ≠ s.now ∨ d.rank ≤ 0) ++ [⟨s.now, 0, o⟩] ++
              ((s.tile t).bank b).chg.filter (fun d => ¬(d.time ≠ s.now ∨ d.rank ≤ 0))) ∧
          (∀ b, s.owner t b = u.owner t b) ∧ TileSet t (tileOff t 0x10) 4 v.toNat [] s u) ∧
    (∀ (src : Partner) (v : BitVec 32) (b : Nat), Passes src (tileOff t 0x10) s → b < 8 → 6 ≤ v.toNat / 16 ^ b % 8 → s.owner t b ≠ 0 →
      Leads (.spownWrite src t v) s fun u => ⟨s.now, 0, 0⟩ ∈ ((u.tile t).bank b).chg) ∧
    (∀ (b : Fin 8) (l : List OwnChg) (c : OwnChg), ((s.tile t).bank b.val).chg = l ++ [c] → (∀ d ∈ l ++ [c], d.time < s.now) → c.owner < 8 →
      Leads (.ownershipChangeEffect t b) s fun u =>
        u.owner t b.val = c.owner ∧ (∀ b' : Fin 8, b' ≠ b → u.owner t b'.val = s.owner t b'.val) ∧
          ((u.tile t).bank b.val).chg = [] ∧ ((u.tile t).bank b.val).pst = ((s.tile t).bank b.val).pst ∧
          Counted (R.SPOWN_RACE_CNT t.val) (overtaken (l ++ [c])) s u ∧
          (∀ q, (u.tile t).queue q = if ((s.tile t).queue q).head = .own b.val
            then { (s.tile t).queue q with head := .free } else (s.tile t).queue q) ∧
          ((s.tile t).inwait = some (.own b.val) → (s.tile t).pstate = 0 → (u.tile t).vc = .run) ∧
          TileOnly t [spownF t.val b.val, R.SPOWN_RACE_CNT t.val] s u) ∧
    (∀ b : Fin 8, (∀ d ∈ ((s.tile t).bank b.val).chg, s.now ≤ d.time) → exec (.ownershipChangeEffect t b) s = .next s)

/-- SPRET_WRITE, BANK_RETENTION_ENTRY, BANK_WAKE_COMPLETE and BANK_IDLE_RETENTION: setting a bit sends an ON bank on its way to retention, and a waking one once its wake has ended, clearing it starts a wake that ends 376 cycles later, an access having woken a bank it returns after 1,024 idle cycles while its bit stands; contents are kept (R102, R103). -/
def Sys2Proof.Machine.BanksRetainAndWakeRule : Prop :=
  ∀ (s : State) (t : Site),
    (∀ (src : Partner) (v : BitVec 32), Passes src (tileOff t 0x14) s → (s.tile t).pstate ≠ 2 →
      Leads (.spretWrite src t v) s fun u =>
        u.get (R.SPRET_RET t.val) = v.toNat % 256 ∧
          (∀ b, b < 8 →
            let was := (s.get (R.SPRET_RET t.val)).testBit b
            let now := v.toNat.testBit b
            let k := (s.tile t).bank b
            (u.tile t).bank b =
              if now = true ∧ was = false ∧ k.pst = .on then { k with pst := .entering }
              else if now = true ∧ was = false ∧ k.pst = .waking then { k with again := true }
              else if now = false ∧ was = true ∧ k.pst = .ret then { k with pst := .waking, wakeAt := s.now + 376 }
              else if now = false ∧ was = true ∧ k.pst = .entering then { k with pst := .on }
              else if now = false ∧ was = true then { k with again := false }
              else k) ∧
          TileSet t (tileOff t 0x14) 4 v.toNat [R.SPRET_RET t.val] s u) ∧
    (∀ b : Fin 8,
      let k := (s.tile t).bank b.val
      let others (u : State) : Prop := (∀ b' : Fin 8, b' ≠ b → (u.tile t).bank b'.val = (s.tile t).bank b'.val) ∧ TileOnly t [] s u
      (k.pst = .entering → Leads (.bankRetentionEntry t b) s fun u => ((u.tile t).bank b.val).pst = .ret ∧ others u) ∧
      (k.pst = .waking → k.wakeAt ≤ s.now → Leads (.bankWakeComplete t b) s fun u =>
        (u.tile t).bank b.val = { k with pst := if k.again then .entering else .on, again := false, last := s.now } ∧ others u ∧
          ((s.tile t).vc = .issueStall → (s.tile t).stall = some (.bank b.val) → (u.tile t).vc = .run ∧ (u.tile t).pc = (s.tile t).pc)) ∧
      (k.pst = .on → (s.get (R.SPRET_RET t.val)).testBit b.val = true → k.last + 1024 ≤ s.now →
        Leads (.bankIdleRetention t b) s fun u => ((u.tile t).bank b.val).pst = .ret ∧ others u))

/-- Scratchpad banks change owner, enter retention and wake: OwnershipChangesTakeEffectRule and BanksRetainAndWakeRule. -/
def Obligations.BanksChangeOwnerAndSleep : Prop := OwnershipChangesTakeEffectRule ∧ BanksRetainAndWakeRule

/-- RELEASE, REFUSE and REFUSE_RETRY at a tile that is not fenced: a RELEASE completes the queue entry or in-line wait it is for, a REFUSE leaves it held, and the operation is sent again 64 tangent cycles (128 ticks) later (R226, R230, R234). A message whose turn has not come waits (R215); one met with an uncorrectable error is dropped (R218). -/
def Sys2Proof.Machine.ReleasesAndRefusalsReachTheirWaiterRule : Prop :=
  ∀ (s : State) (t : Site),
    (∀ (err : NetErr) (l : List TanFly), Sound err → (s.tile t).fenced = false →
      (∀ (q : Fin 4) since r x, ((s.tile t).queue q.val).head = .waiting since r x →
        (TanTurn (.release (.tile t ⟨q.val, by omega⟩)) s l → (s.tile t).pstate ≠ 1 →
          Leads (.release (.tile t ⟨q.val, by omega⟩) err) s fun u =>
            u.tile t = { (s.tile t).setQueue q.val ⟨((s.tile t).queue q.val).ents.tail, .free⟩ with parked := none } ∧ TileHears t l err s u) ∧
        (TanTurn (.release (.tile t ⟨q.val, by omega⟩)) s l → (s.tile t).pstate = 1 →
          Leads (.release (.tile t ⟨q.val, by omega⟩) err) s fun u =>
            u.tile t = { (s.tile t).setQueue q.val ⟨((s.tile t).queue q.val).ents.tail, .free⟩ with
              parked := none, reclaim := some (((s.tile t).reclaim).getD s.now) } ∧ TileHears t l err s u) ∧
        (TanTurn (.refuse (.tile t ⟨q.val, by omega⟩)) s l → Leads (.refuse (.tile t ⟨q.val, by omega⟩) err) s fun u =>
          u.tile t = (s.tile t).setQueue q.val { (s.tile t).queue q.val with head := .waiting since r (some s.now) } ∧ TileHears t l err s u)) ∧
      (∀ a h n x, (s.tile t).inwait = some (.obj a h n x) →
        (TanTurn (.release (.tile t 4)) s l → (s.tile t).vc = .wait → (s.tile t).pstate = 0 → Leads (.release (.tile t 4) err) s fun u =>
          u.tile t = { s.tile t with vc := .run, inwait := none, parked := none } ∧ TileHears t l err s u) ∧
        (TanTurn (.refuse (.tile t 4)) s l → Leads (.refuse (.tile t 4) err) s fun u =>
          u.tile t = { s.tile t with inwait := some (.obj a h n (some s.now)) } ∧ TileHears t l err s u))) ∧
    (∀ (w : WaiterId) (l : List TanFly) (h : Nat),
      (TanTurn (.release w) s l → Leads (.release w (.uncorrectable h)) s (TanDropped l s)) ∧
      (TanTurn (.refuse w) s l → Leads (.refuse w (.uncorrectable h)) s (TanDropped l s))) ∧
    (∀ (w : WaiterId) (err : NetErr),
      (s.tanTake (.release w) = none → exec (.release w err) s = .next s) ∧ (s.tanTake (.refuse w) = none → exec (.refuse w err) s = .next s)) ∧
    (∀ a h n since, (s.tile t).inwait = some (.obj a h n (some since)) → since + 128 ≤ s.now →
      Leads (.refuseRetry t 4) s fun u =>
        u.tile t = { s.tile t with inwait := some (.obj a h n none) } ∧
          Posted (siteNode t) (stopNode h) clSIG (.sig h (if a then 2 else 1) n (some (.tile t 4))) s u ∧ TileSends t [] s u) ∧
    (∀ (q : Fin 4) since r at_ e rest h n, ((s.tile t).queue q.val).head = .waiting since r (some at_) →
      ((s.tile t).queue q.val).ents = e :: rest → at_ + 128 ≤ s.now → e.op = .wait h n ∨ e.op = .acquire h n →
        Leads (.refuseRetry t ⟨q.val, by omega⟩) s fun u =>
          u.tile t = (s.tile t).setQueue q.val { (s.tile t).queue q.val with head := .waiting since r none } ∧
            Posted (siteNode t) (stopNode h) clSIG (.sig h (if e.op = .wait h n then 1 else 2) n (some (.tile t ⟨q.val, by omega⟩))) s u ∧
            TileSends t [] s u)

/-- TILE_PARK and RECLAIM_COMPLETE: a tile parked for THR_US enters P1 and LEND_CNT counts, while lending is enabled and the lattice is DYNAMIC (R233, R235); a reclaim brings it back to P0, records its time in RECLAIM_MAX, counts it in RECLAIM_SLOW_CNT beyond 400 ns, and the core it held goes on (R234). -/
def Sys2Proof.Machine.TilesParkAndReclaimRule : Prop :=
  ∀ (s : State) (t : Site),
    (∀ since, (s.tile t).parked = some since → (s.tile t).isParked = true → (s.tile t).pstate = 0 → (s.tile t).fenced = false →
      since + s.get R.LEND_CTL_THR_US * 940 ≤ s.now → s.get R.LEND_CTL_EN = 1 → s.get R.LAT_STAT_MODE = 0 →
        Leads (.tilePark t) s fun u =>
          (u.tile t).pstate = 1 ∧ Counted R.LEND_CNT 1 s u ∧ (u.tile t).vc = (s.tile t).vc ∧ TileOnly t [R.LEND_CNT] s u) ∧
    (∀ t0, (s.tile t).reclaim = some t0 →
      Leads (.reclaimComplete t) s fun u =>
        (u.tile t).pstate = 0 ∧ (u.tile t).reclaim = none ∧
          (u.tile t).vc = (if (s.tile t).vcResume then .run else (s.tile t).vc) ∧
          u.get R.RECLAIM_MAX = max (s.get R.RECLAIM_MAX) (min ((s.now - t0) * 1000 / 940) (2 ^ 32 - 1)) % 2 ^ 32 ∧
          (if 400 < (s.now - t0) * 1000 / 940 then Counted R.RECLAIM_SLOW_CNT 1 s u
           else u.get R.RECLAIM_SLOW_CNT = s.get R.RECLAIM_SLOW_CNT) ∧
          OtherTiles t s u ∧ RegsBut [R.RECLAIM_MAX, R.RECLAIM_SLOW_CNT] s u)

/-- Releases reach their waiter; tiles park and are reclaimed: ReleasesAndRefusalsReachTheirWaiterRule and TilesParkAndReclaimRule. -/
def Obligations.TilesReleaseParkAndReclaim : Prop := ReleasesAndRefusalsReachTheirWaiterRule ∧ TilesParkAndReclaimRule

/-! ### Arrays, RQU, EBA and tensor unit -/

/-- ARRAY_OPERATION_LOAD: the ARR.MVM at the head of its queue, the issue gate open, its arrays idle or converting with no further operation behind, unlocked and with neither a test nor a programming slot to go first, its reads the RQU's in banks that are awake, enters every named array with the row groups of R22 to R24 under the capped GMAX, as the operation in progress or the next one, leaves the queue and takes the next number; no other array changes (R19, R20, R25, R30, R31, R45, R139, R404). On a block left unquantised by FAIL it leaves the queue and issues nothing (R72). While the gate is closed, an array cannot accept it or ENABLE is 0 it stays (R30, R47, R404). -/
def Obligations.ArrayOperationsLoad : Prop :=
  ∀ (s : State) (t : Site) (e : QEntry) (rest : List QEntry) (desc ca ea oa mask blk : Nat) (slot : Bool)
    (gmax fmt nm2 ocap efb dcol : Nat),
    (s.tile t).qArr = ⟨e :: rest, .free⟩ → e.op = .arrMvm desc ca ea oa mask blk slot gmax fmt nm2 ocap efb dcol →
    (s.tile t).awake = true → maskArrays mask ≠ [] →
    (s.get (R.ASEQ_CTL_ENABLE t.val) = 0 → exec (.arrayOperationLoad t) s = .next s) ∧
    (s.get (R.ASEQ_CTL_ENABLE t.val) = 1 →
    (s.gateOpen t = false ∨ (∃ a ∈ maskArrays mask, ((s.tile t).ctl a.val).accepts = false ∨ s.testDue t a = true ∨ s.slotFirst t a = true) →
      exec (.arrayOperationLoad t) s = .next s) ∧
    (s.gateOpen t = true →
    (∀ a ∈ maskArrays mask, ((s.tile t).ctl a.val).accepts = true ∧ s.testDue t a = false ∧ s.slotFirst t a = false) →
    ((s.tile t).unquantised ca blk = true → Leads (.arrayOperationLoad t) s fun u =>
      u.tile t = { s.tile t with qArr := ⟨rest, .free⟩, parked := none } ∧ TileOnly t [] s u) ∧
    ((s.tile t).unquantised ca blk = false → (∀ a ∈ maskArrays mask, s.planeOut t a (s.physPlane t a slot) = false) →
    let rb := s.spBytes t desc 16
    let q := qrec rb
    let cap := ocapN q.ocap
    UnitMay s t 5 desc 16 → UnitMay s t 5 (ca + blk * 16 * q.n) (16 * q.n) → UnitMay s t 5 (ea + blk) 1 →
    UnitMay s t 5 (oa + blk * 2 * cap) (2 * cap) →
      Leads (.arrayOperationLoad t) s fun u =>
        let codes := blockCodes q.trn q.n (s.spBytes t (ca + blk * 16 * q.n) (16 * q.n))
        let outl := outlierEntries (s.spBytes t (oa + blk * 2 * cap) (2 * cap))
        let plan := planOf q.n (min gmax (s.get (R.ASEQ_CTL_GMAX_CAP t.val))) (mainPlanes q.n codes)
          (if outl.isEmpty then [] else outlPlanes outl)
        let enters (a : ArrIx) (op : ArrOp) : Prop :=
          op.id = (s.tile t).seq ∧ op.dcol = dcol ∧ op.plan = plan.1 ∧ op.tail = plan.2 ∧
            op.plane = s.physPlane t a slot ∧ op.e8 = leNat (s.spBytes t (ea + blk) 1) ∧ op.test = none ∧
            op.wide = List.replicate 524 0 ∧ op.narrow = List.replicate 524 0
        (u.tile t).qArr = ⟨rest, .free⟩ ∧ (u.tile t).seq = (s.tile t).seq + 1 ∧
          (u.tile t).live = (s.tile t).live ++ [((s.tile t).seq, (maskArrays mask).length)] ∧
          (∀ a ∈ maskArrays mask,
            ((u.tile t).ctl a.val).last = s.physPlane t a slot ∧ ((u.tile t).ctl a.val).loadAt = s.now ∧
            (((s.tile t).ctl a.val).op = none → ((u.tile t).ctl a.val).st = .load ∧ ∃ op, ((u.tile t).ctl a.val).op = some op ∧ enters a op) ∧
            (((s.tile t).ctl a.val).op ≠ none → ((u.tile t).ctl a.val).st = ((s.tile t).ctl a.val).st ∧
              ((u.tile t).ctl a.val).op = ((s.tile t).ctl a.val).op ∧ ∃ op, ((u.tile t).ctl a.val).nxt = some op ∧ enters a op)) ∧
          (∀ a : ArrIx, a ∉ maskArrays mask → (u.tile t).ctl a.val = (s.tile t).ctl a.val) ∧
          TileOnly t ([R.QREC_FIX t.val, R.GMAX_CAP_CNT t.val, R.ASEQ_EVT_GMAX_CAPPED t.val, R.GAIN_FORCE_CNT t.val, R.ASEQ_EVT_GAIN_FORCE t.val,
            R.EMPTY_PLANE_CNT t.val, R.SPLIT_CNT t.val] ++ (maskArrays mask).map fun a => R.ARRCAL_GTRIM t.val a.val) s u)))

/-- CONVERSION, ARRAY_OPERATION_DRAIN and REFERENCE_ROW_TEST: a conversion counts in CONV_CNT, its codes, each from -128 to 127 and owing its error to a free value, enter the accumulators, or the group is re-run when a data column shows a limit and RERUN_EN stands (R29, R32, R33, R37); the drain passes the final wide accumulator to the edge buffer once that is empty, the operation behind, if any, becoming the one in progress (R30, R45, R85, R87); a reference-row test enters an IDLE array at W4 NORMAL gain in the TEST state (R44); the array refuses to drive a locked or EMPTY plane for it (R19). -/
def Obligations.ConversionsAccumulateAndDrain : Prop :=
  ∀ (s : State) (t : Site) (a : ArrIx),
    let c := (s.tile t).ctl a.val
    (∀ op g plan, (s.tile t).clkOff = false → c.op = some op → op.plan = g :: plan → op.orig = none →
      c.st = .load ∨ c.st = .conv ∨ c.st = .test →
      let codes := s.codesOf t a op g.rows
      let n := (((satCols op codes).take 512).filter id).length
      let lim := List.zipWith (fun l x => l || atLimit x) op.lim codes
      (∀ x ∈ codes, -128 ≤ x ∧ x ≤ 127) ∧
      Leads (.conversion t a) s fun u =>
        Counted (R.CONV_CNT t.val) 1 s u ∧ u.free = s.free + 528 ∧
          (if n ≠ 0 ∧ op.rerun = true ∧ 2 ≤ g.rows.length then
            (u.tile t).ctl a.val = { c with st := op.rerunSt, op := some { op with lim := lim, orig := some codes } } ∧
              Counted (R.RERUN_CNT t.val) 1 s u
           else (u.tile t).ctl a.val = c.nextGroup ({ op with lim := lim }.addPartial g codes) ∧ Counted (R.COLSAT_CNT t.val) n s u) ∧
          (∀ a' : ArrIx, a' ≠ a → (u.tile t).ctl a'.val = (s.tile t).ctl a'.val) ∧ OtherTiles t s u ∧ u.sp = s.sp) ∧
    (∀ op, (s.tile t).clkOff = false → c.op = some op → c.draining op = true → op.test = none →
      (c.edge ≠ none → exec (.arrayOperationDrain t a) s = .next s) ∧
      (c.edge = none →
      Leads (.arrayOperationDrain t a) s fun u =>
        (u.tile t).ctl a.val = { c with
          st := if c.nxt = none then .idle else .load, op := c.nxt, nxt := none,
          edge := some ⟨op.id, op.dcol, op.e8, op.promote.wide.take 512⟩, share := c.share + (s.slotPending t a).toNat,
          ksCnt := c.ksCnt + 1, ops := c.ops + 1 } ∧
        Counted (R.OP_CNT t.val) 1 s u ∧ (∀ a' : ArrIx, a' ≠ a → (u.tile t).ctl a'.val = (s.tile t).ctl a'.val) ∧
        TileOnly t [R.OP_CNT t.val] s u)) ∧
    (∀ plane codes, c.st = .idle → c.op = none → (s.tile t).awake = true → s.get (R.ASEQ_CTL_ENABLE t.val) = 1 → c.due = [] →
      s.planeOut t a plane = false →
      Leads (.referenceRowTest t a plane codes) s fun u =>
        (∃ op o, ((u.tile t).ctl a.val).op = some op ∧ op.test = some o ∧ o.codes = some codes ∧ op.plane = plane ∧
          op.reduced = false ∧ op.plan = (planOf 4 (min 3 (s.get (R.ASEQ_CTL_GMAX_CAP t.val))) (refPlanes codes) []).1 ∧
          ((u.tile t).ctl a.val).st = (if op.plan.isEmpty then .drain else .test)) ∧
        (∀ a' : ArrIx, a' ≠ a → (u.tile t).ctl a'.val = (s.tile t).ctl a'.val) ∧ OtherTiles t s u) ∧
    (∀ plane codes, c.st = .idle → (s.tile t).awake = true → s.get (R.ASEQ_CTL_ENABLE t.val) = 1 → c.due = [] → s.planeOut t a plane = true →
      Leads (.referenceRowTest t a plane codes) s fun u =>
        Counted (R.PLOCK_CNT t.val) 1 s u ∧ u.get (R.ASEQ_EVT_PLANE_LOCKED t.val) = 1 ∧
          Raised (fun e => e.kind = 0x01 ∧ e.site.toNat = t.val ∧ e.array.toNat = a.val) s u ∧
          (∀ a' : ArrIx, (u.tile t).ctl a'.val = if a' = a then { c with last := plane } else (s.tile t).ctl a'.val) ∧
          TileSends t [R.PLOCK_CNT t.val, R.ASEQ_EVT_PLANE_LOCKED t.val] s u)

/-- RQU_START, RQU_BLOCK and RQU_QV_COMPLETE: the RQU takes the RQU.QV at the head of the ARR queue with the record it reads and holds the head (R60, R138); while the issue gate is open (R404) one block of finite FP32, BF16, FP16 or FP8 elements without error feedback is rotated, quantised and written, its codes, exponent byte and outlier list at their places, and counted (R59); with the last block done the head is released (R138). -/
def Obligations.RquQuantisesItsBlocks : Prop :=
  ∀ (s : State) (t : Site) (e : QEntry) (desc ca ea oa src step nb : Nat), e.op = .rquQv desc ca ea oa src step nb →
    (s.tile t).awake = true →
    (∀ rest, (s.tile t).qArr = ⟨e :: rest, .free⟩ → (s.tile t).rqu = none → UnitMay s t 5 desc 16 →
      let q := qrec (s.spBytes t desc 16)
      (q.efb = 2 → step % 64 = 0 ∧ step + 512 * (nb - 1) < 2 ^ 21) →
        Leads (.rquStart t) s fun u =>
          (u.tile t).rqu = some ⟨e, q, 0⟩ ∧ (u.tile t).qArr = ⟨rest, .busy e⟩ ∧
            Counted (R.QREC_FIX t.val) (if q.fix then 1 else 0) s u ∧
            TileOnly t [R.QREC_FIX t.val] s u) ∧
    (∀ r : RquRun, (s.tile t).rqu = some r → r.e = e → (s.tile t).clkOff = false →
      (r.blk < nb → s.gateOpen t = false → exec (.rquBlock t) s = .next s) ∧
      (r.blk < nb → s.gateOpen t = true → r.qr.srcFmt ≤ 5 → r.qr.efb ≠ 2 → PortsQuiet s t →
        let z := srcBits r.qr.srcFmt
        let cap := ocapN r.qr.ocap
        let x := srcElems r.qr.srcFmt (s.spBytes t (src + r.blk * 16 * z) (16 * z)) []
        (∀ v ∈ x, v.isFin = true) →
        let v := if r.qr.rot then rotate x r.qr.seed else x
        (∀ w ∈ v, w.isFin = true) →
        UnitMay s t 5 (src + r.blk * 16 * z) (16 * z) → UnitMay s t 5 (ca + r.blk * 16 * r.qr.n) (16 * r.qr.n) →
        UnitMay s t 5 (ea + r.blk) 1 → (cap ≠ 0 → UnitMay s t 5 (oa + r.blk * 2 * cap) (2 * cap)) →
          Leads (.rquBlock t) s fun u =>
            let o := quantise r.qr v
            MemAfter t ([(ca + r.blk * 16 * r.qr.n, codeBlock r.qr.n o.c),
              (ea + r.blk, leBytes 1 (if o.isZero then 0 else (o.e + 127).toNat))] ++
              (if cap = 0 then [] else [(oa + r.blk * 2 * cap, outlierList cap o.rows o.o)])) s u ∧
            (u.tile t).rqu = some { r with blk := r.blk + 1 } ∧ Counted (R.BLK_CNT t.val) 1 s u ∧
            Counted (R.ZERO_BLK t.val) o.isZero.toNat s u ∧ Counted (R.OUT_OVF t.val) o.fell.toNat s u ∧
            Counted (R.OUTLIER_CNT t.val) o.rows.length s u ∧ Counted (R.QCLIP_CNT t.val) o.clip.toNat s u ∧
            OtherTiles t s u) ∧
      (nb ≤ r.blk → Leads (.rquQvComplete t) s fun u =>
        (u.tile t).rqu = none ∧ (u.tile t).qArr = { (s.tile t).qArr with head := .free } ∧ TileOnly t [] s u))

/-- EBA_OPEN_COMPLETE: the EBA.OPEN at the head of the ARR queue, none of its blocks OPEN and its reads owned by the RQU, opens them with the anchor, the partial count and cleared registers, and releases the head (R77, R78, R140). -/
def Sys2Proof.Machine.EbaOpensItsBlocksRule : Prop :=
  ∀ (s : State) (t : Site) (e : QEntry) (rest : List QEntry) (desc out exps sig ob nob count nbv : Nat) (cs : Bool),
    (s.tile t).qArr = ⟨e :: rest, .free⟩ → e.op = .ebaOpen desc out exps sig ob nob count nbv cs → (s.tile t).awake = true →
    (∀ i, i < nob → ((s.tile t).blk (ob + i)).opn = false) → UnitMay s t 5 desc 16 → UnitMay s t 5 (desc + 16) (256 * nob) →
    let q := qrec (s.spBytes t desc 16)
    (q.fixed = false → UnitMay s t 5 exps nbv) →
      Leads (.ebaOpenComplete t) s fun u =>
        let anchor := if q.fixed then q.anchor else autoAnchor (s.spBytes t exps nbv)
        (∀ i, i < nob → (u.tile t).blk (ob + i) = ⟨true, anchor, count, (s.tile t).seq, [], [], [], s.now⟩) ∧
          (∀ k, k < ob ∨ ob + nob ≤ k → (u.tile t).blk k = (s.tile t).blk k) ∧ (u.tile t).qArr = ⟨rest, .free⟩ ∧
          (∃ a, (u.tile t).accs = (s.tile t).accs ++ [a] ∧ a.id = (s.tile t).seq ∧ a.out = out ∧ a.ob = ob ∧ a.left = nob ∧
            a.bf16 = q.outBf16 ∧ a.dropped = false ∧ (a.sig.isSome = cs)) ∧
          TileOnly t [R.QREC_FIX t.val] s u

/-- EBA_PARTIAL from an array whose four blocks are this tile's own and OPEN: element e of each takes W_e of the edge buffer, exactly when the partial lies in the window, with any block thereby complete closing; the buffer empties and the round-robin moves on (R74, R75, R78, R87). -/
def Sys2Proof.Machine.EbaTakesArrayPartialsRule : Prop :=
  ∀ (s : State) (t : Site) (a : Fin 64) (b : EdgeBuf), (s.tile t).clkOff = false → (s.tile t).fenced = false →
    (s.tile t).nextSource = some a.val → ((s.tile t).ctl a.val).edge = some b → b.w.length = 512 →
    let k (i : Nat) : Nat := 4 * ((a.val % 8 + b.dcol) % 8) + i
    (∀ i, i < 4 → s.get (R.EBAFWD t.val (k i)) = 0 ∧ ((s.tile t).blk (k i)).opn = true) →
      Leads (.ebaPartial t ⟨a.val, by omega⟩) s fun u =>
        ((u.tile t).ctl a.val).edge = none ∧ (u.tile t).rr = (a.val + 1) % 66 ∧
          (∀ i e, i < 4 → e < 128 →
            let old := (s.tile t).blk (k i)
            let new := (u.tile t).blk (k i)
            let w := b.w.getD (128 * i + e) 0
            sget 0 new.got e = sget 0 old.got e + 1 ∧
              (b.e8 = 255 → sget false new.nonfin e = true ∧ sget 0 new.s e = sget 0 old.s e) ∧
              (b.e8 < 255 → old.anchor - 48 ≤ (b.e8 : Int) - 127 →
                w.natAbs * 2 ^ ((b.e8 : Int) - 127 - (old.anchor - 48)).toNat < 2 ^ 80 →
                sget 0 new.s e =
                  sxNat 96 (unsx 96 (sget 0 old.s e + w * 2 ^ ((b.e8 : Int) - 127 - (old.anchor - 48)).toNat))) ∧
              new.opn = !((List.range 128).all fun x => decide (old.count ≤ sget 0 old.got x + 1))) ∧
          (s.get R.FLT_STAT_REDUND = 0 → OtherTiles t s u) ∧ u.sp = s.sp

/-- EDGE_WRITEBACK: the oldest closed block, not held for a comparison, its words owned by EDGE and none dropped before, is written at its place of its accumulation's output area, and its completion signal is applied with its last block (R88). -/
def Sys2Proof.Machine.EdgeWritebackStoresABlockRule : Prop :=
  ∀ (s : State) (t : Site) (w : WbBlk) (rest : List WbBlk) (a : Accum), (s.tile t).clkOff = false → (s.tile t).fenced = false →
    (s.tile t).wbq = w :: rest → w.held = false → (s.tile t).accs.find? (fun a => a.id == w.acc) = some a → a.dropped = false →
    w.vals.length = 128 → PortsQuiet s t →
    let size := if a.bf16 then 2 else 4
    let addr := a.out + (w.ob - a.ob) * 128 * size
    UnitMay s t 4 addr (128 * size) →
      Leads (.edgeWriteback t) s fun u =>
        MemAfter t [(addr, w.vals.flatMap fun v => leBytes size v)] s u ∧ (u.tile t).wbq = rest ∧
          (match a.sig with
            | some (h, n) => if a.left = 1 then Posted (siteNode t) (stopNode h) clSIG (.sig h 0 n none) s u else u.out = s.out ∧ u.tan = s.tan
            | none => u.out = s.out ∧ u.tan = s.tan) ∧
          OtherTiles t s u ∧ RegsBut [] s u

/-- The edge accumulator opens blocks, takes partials and writes a block back: EbaOpensItsBlocksRule and EbaTakesArrayPartialsRule and EdgeWritebackStoresABlockRule. -/
def Obligations.EbaAccumulatesAndWritesBack : Prop := EbaOpensItsBlocksRule ∧ EbaTakesArrayPartialsRule ∧ EdgeWritebackStoresABlockRule

/-- TU_MMA_START and TU_MMA_COMPLETE: a product of a listed class and result format whose operands the TU owns in banks that are awake starts from the head of the TU queue while the issue gate is open and holds its results, K-blocks rounded to FP32 and added in ascending order (INT8 exact); it completes by writing them through the TU's port, and TU_OP_CNT counts it (R103, R105, R107, R119, R141, R404). A product of two classes sets TU_FMT, counts in TU_CLAMP_CNT and forms its results from zero operands (R106); that it skips the reads of X and Y is the model's choice (log entry 86). -/
def Obligations.TensorUnitFormsAndWritesProducts : Prop :=
  (∀ (s : State) (t : Site) (e : QEntry) (rest : List QEntry) (xa ya ca m k n fx fy fc rnd : Nat) (acc ieee : Bool),
    (s.tile t).qTu = ⟨e :: rest, .free⟩ → e.op = .tuMma xa ya ca m k n fx fy fc acc false rnd ieee → (s.tile t).awake = true →
    (s.tile t).tu = none → s.get (R.TILE_CTL_TU_EN t.val) = 1 →
    (s.gateOpen t = false → exec (.tuMmaStart t) s = .next s) ∧
    (s.gateOpen t = true →
      let kb := (k + 63) / 64
      let size := resBytes fc
      let row := up64 (n * size)
      let c (i j : Nat) : FVal :=
        if acc then fdec (flay fc) (bits (leNat (s.spBytes t (ca + i * row) (n * size))) (8 * size * j) (8 * size)) else FVal.zero
      let held (r : Nat → Nat → FVal) (u : State) : Prop :=
        (u.tile t).tu = some ⟨e, (List.range m).map fun i =>
            (ca + i * row, (List.range n).flatMap fun j => leBytes size (fenc fc rnd ieee (r i j)).1), []⟩ ∧
          (u.tile t).qTu = ⟨rest, .free⟩ ∧ u.sp = s.sp
      (acc = true → ∀ i, i < m → UnitMay s t 2 (ca + i * row) (n * size)) →
      (∀ cls, tuClass fx = some cls → tuClass fy = some cls → tuResultOk cls fc = true →
        (∀ r ∈ operandReads fx xa m kb ++ operandReads fy ya n kb, UnitMay s t 2 r.1 r.2) →
        Leads (.tuMmaStart t) s fun u =>
          let x := leNat ((operandReads fx xa m kb).flatMap fun r => s.spBytes t r.1 r.2)
          let y := leNat ((operandReads fy ya n kb).flatMap fun r => s.spBytes t r.1 r.2)
          held (fun i j =>
            if cls = 2 then tuDotInt (tuElem fx x m kb i) (tuElem fy y n kb j) (c i j) k
            else tuDot (tuElem fx x m kb i) (tuElem fy y n kb j) (c i j) k) u ∧ TileSpends t [] s u) ∧
      (∀ a b, tuClass fx = some a → tuClass fy = some b → a ≠ b → fc ≤ 4 →
        Leads (.tuMmaStart t) s fun u =>
          held c u ∧ u.get (R.SPEVT_TU_FMT t.val) = 1 ∧ Counted (R.TU_CLAMP_CNT t.val) 1 s u ∧
            TileSpends t [R.SPEVT_TU_FMT t.val, R.TU_CLAMP_CNT t.val] s u))) ∧
  (∀ (s : State) (t : Site) (r : TuRun), (s.tile t).awake = true → (s.tile t).tu = some r → r.parts = [] → PortsQuiet s t →
    (∀ p ∈ r.out, UnitMay s t 2 p.1 p.2.length) →
      Leads (.tuMmaComplete t) s fun u =>
        (u.tile t).tu = none ∧ MemAfter t r.out s u ∧ Counted (R.TU_OP_CNT t.val) 1 s u ∧ OtherTiles t s u ∧ RegsBut [R.TU_OP_CNT t.val] s u)

/-! ### Lattice, tangent and synchronisation -/

/-- LATTICE_WRITE, LATTICE_READ and VAL at a tile that is not fenced and whose DMA owns the bytes in banks that are awake: a WRITE stores the bytes from FIRST_OFF of its first word to LAST_LEN of its last (DEDUCED, log entry 10) and the last packet of a transfer applies its signal unless a write of it was dropped (R203, R211, R245); a READ is answered with the words it names (R203); a VAL message stores its bytes and then applies its signal (R216). Each comes in its turn (R201, R215), counts on its way, and is dropped where it meets an uncorrectable error (R218, R220). -/
def Sys2Proof.Machine.MessagesReachScratchpadRule : Prop :=
  ∀ (s : State) (t : Site) (err : NetErr), (s.tile t).fenced = false →
    (∀ (p : LatPkt) (ecc : Ecc) (l : List LatFly) (e : LatFly), LatTurn 0 (.tile t) p s l e → UnitMay s t 3 (latSpan p).1 (latSpan p).2.length →
      let lost := s.lost.contains (latKey t.val e)
      (Sound err → PortsQuiet s t →
        Leads (.latticeWrite (.tile t) p ecc err) s fun u =>
          MemAfter t [latSpan p] s u ∧
            (if p.sa = true ∧ lost = false then Posted (siteNode t) (stopNode p.sigH) clSIG (.sig p.sigH 0 p.sigN none) s u
             else u.out = s.out ∧ u.tan = s.tan) ∧
            u.lost = (if p.sa = true then s.lost.filter (fun k => k != latKey t.val e) else s.lost) ∧
            OtherTiles t s u ∧ LatCounted e err s u ∧ RegsBut (latRegs e err) s u ∧
            u = { s with tiles := u.tiles, regs := u.regs, sp := u.sp, out := u.out, tan := u.tan, lost := u.lost, lat := l }) ∧
      (∀ h, Leads (.latticeWrite (.tile t) p ecc (.uncorrectable h)) s (LatDropped h l e s))) ∧
    (∀ (p : LatPkt) (ecc : Ecc) (l : List LatFly) (e : LatFly), LatTurn 1 (.tile t) p s l e →
      UnitMay s t 3 (p.addr.toNat / 64 * 64) (64 * p.words) →
      (Sound err → Leads (.latticeRead (.tile t) p ecc err) s fun u =>
        Injected 2 (latAnswer p false (s.spBytes t (p.addr.toNat / 64 * 64) (64 * p.words))) (some (0, 0, 0)) { s with lat := l } u ∧
          OtherTiles t s u ∧ LatCounted e err s u ∧ RegsBut (latRegs e err) s u ∧
          u = { s with tiles := u.tiles, regs := u.regs, out := u.out, lat := u.lat, latHold := u.latHold }) ∧
      (∀ h, Leads (.latticeRead (.tile t) p ecc (.uncorrectable h)) s (LatDropped h l e s))) ∧
    (∀ (dst : LatDst) (p : LatPkt) (ecc : Ecc),
      (s.latTake 0 dst p = none → exec (.latticeWrite dst p ecc err) s = .next s) ∧
      (s.latTake 1 dst p = none → exec (.latticeRead dst p ecc err) s = .next s)) ∧
    (∀ (m : ValMsg) (l : List TanFly), TanTurn (.val t m) s l → UnitMay s t 3 m.addr.toNat m.data.length →
      (Sound err → PortsQuiet s t →
        Leads (.val t m err) s fun u =>
          MemAfter t [(m.addr.toNat, m.data)] s u ∧
            (if m.sa = true then Posted (siteNode t) (stopNode m.sigH) clSIG (.sig m.sigH 0 m.sigN none) { s with tan := l } u
             else u.out = s.out ∧ u.tan = l) ∧
            TanCounted err s u ∧ OtherTiles t s u ∧ RegsBut tanRegs s u ∧
            u = { s with tiles := u.tiles, regs := u.regs, sp := u.sp, out := u.out, tan := u.tan }) ∧
      (∀ h, Leads (.val t m (.uncorrectable h)) s (TanDropped l s))) ∧
    (∀ m : ValMsg, s.tanTake (.val t m) = none → exec (.val t m err) s = .next s)

/-- PART_W and PART_F at a tile that is not fenced enter its ejection buffer in their turn and stay on their way while its 16 flits are full (R201, R203); taken by EBA_PARTIAL when the round-robin comes to the lattice port, source 65, each partial counts in the element it names, a partial that is not finite marking it, and a block that is not OPEN drops them all as late (R78, R87, R152). -/
def Sys2Proof.Machine.ForwardedPartialsAreTakenRule : Prop :=
  ∀ (s : State) (t : Site), (s.tile t).fenced = false →
    (∀ (f : Bool) (p : LatPkt) (err : NetErr) (l : List LatFly) (e : LatFly), LatTurn (if f = true then 5 else 4) (.tile t) p s l e →
      let arrives := if f = true then Instr.partF t p err else .partW t p err
      let flits := (((s.tile t).ej.map fun q => flitsOf (4 * q.2.parts.length)).sum) + flitsOf (4 * p.parts.length)
      (16 < flits → exec arrives s = .next s) ∧
      (flits ≤ 16 →
        (Sound err → Leads arrives s fun u =>
          u.tile t = { s.tile t with ej := (s.tile t).ej ++ [(f, p)] } ∧ OtherTiles t s u ∧ LatCounted e err s u ∧
            RegsBut (latRegs e err) s u ∧ u = { s with tiles := u.tiles, regs := u.regs, lat := l }) ∧
        (∀ h, err = .uncorrectable h → Leads arrives s (LatDropped h l e s)))) ∧
    (∀ (f : Bool) (p : LatPkt) (r : List (Bool × LatPkt)), (s.tile t).ej = (f, p) :: r → (s.tile t).clkOff = false →
      (s.tile t).nextSource = some 65 → p.elFirst.toNat + p.parts.length ≤ 128 →
      let k := p.addr.toNat % 32
      let old := (s.tile t).blk k
      (old.opn = true →
        Leads (.ebaPartial t 65) s fun u =>
          (u.tile t).ej = r ∧ (u.tile t).rr = 0 ∧ u.sp = s.sp ∧
            (∀ e, sget 0 ((u.tile t).blk k).got e =
              sget 0 old.got e + (if p.elFirst.toNat ≤ e ∧ e < p.elFirst.toNat + p.parts.length then 1 else 0)) ∧
            (f = true → ∀ i, i < p.parts.length → (f32dec (p.parts.getD i 0)).isFin = false →
              sget false ((u.tile t).blk k).nonfin (p.elFirst.toNat + i) = true) ∧
            (f = true → p.sa = true → s.get R.FLT_STAT_REDUND = 0 →
              Posted (siteNode t) (stopNode p.sigH) clSIG (.sig p.sigH 0 p.sigN none) s u)) ∧
      (old.opn = false →
        Leads (.ebaPartial t 65) s fun u =>
          u.tile t = { s.tile t with ej := r, rr := 0 } ∧ Counted (R.EBA_LATE t.val) p.parts.length s u ∧
            TileOnly t [R.EBA_LATE t.val] s u))

/-- Lattice and tangent messages reach scratchpad, registers and accumulators: MessagesReachScratchpadRule and ForwardedPartialsAreTakenRule. -/
def Obligations.MessagesReachTheirTile : Prop := MessagesReachScratchpadRule ∧ ForwardedPartialsAreTakenRule

/-- MODE_REQ_WRITE, LATTICE_MODE_SWITCH and QUIESCE_TO: a write of LAT_CTL with every field in range whose MODE_REQ differs from the mode in force sets SWITCHING; the empty lattice takes the mode requested in a lattice cycle that begins a frame, counts it, clears SWITCHING and releases the held injections, and until then goes on waiting; one not empty within QUIESCE_LIM keeps the old mode, writes MODE_REQ back, counts that and releases them (R209). Stated where port B has not written LAT_CTL in the same cycle (R285). -/
def Obligations.LatticeModeSwitches : Prop :=
  let released (s u : State) : Prop :=
    u.latHold = [] ∧ ((∀ e ∈ s.latHold, e.2.1.mc = false) →
      u.out = s.out ++ s.latHold.map (fun e => .lat e.1 e.2.1) ∧
        u.lat.map (fun f => (f.op, f.p, f.tr)) = s.lat.map (fun f => (f.op, f.p, f.tr)) ++ s.latHold)
  (∀ (src : Partner) (v : BitVec 32) (s : State), Passes src 0x4000 s → s.standB (srcCode src) 0x4000 = none → v.toNat / 16 % 4 ≠ 3 →
    10 ≤ v.toNat / 256 % 65536 → v.toNat / 256 % 65536 ≤ 10000 → s.get R.LAT_STAT_MODE = 0 → s.get R.LAT_STAT_SWITCHING = 0 →
    v.toNat % 2 = 1 →
      Leads (.modeReqWrite src v) s fun u =>
        u.get R.LAT_STAT_SWITCHING = 1 ∧ u.latSw = some s.now ∧ u.get R.LAT_CTL_MODE_REQ = 1 ∧ u.get R.LAT_STAT_MODE = 0 ∧
          u.get R.LAT_CTL_QUIESCE_LIM = v.toNat / 256 % 65536) ∧
  (∀ s : State, s.get R.LAT_STAT_SWITCHING ≠ 0 →
    (s.get R.LAT_CTL_MODE_REQ < 2 → s.latQuiet = true → s.latCycle % s.frame = 0 → Leads .latticeModeSwitch s fun u =>
      u.get R.LAT_STAT_MODE = s.get R.LAT_CTL_MODE_REQ ∧ u.get R.LAT_STAT_SWITCHING = 0 ∧ u.get R.NET_EVT_MODE_CHG = 1 ∧
        Counted R.LAT_SWITCH_CNT 1 s u ∧ released s u ∧
        RegsBut [R.LAT_STAT_MODE, R.LAT_STAT_SWITCHING, R.LAT_SWITCH_CNT, R.NET_EVT_MODE_CHG] s u ∧
        u = { s with regs := u.regs, latSw := none, latHold := u.latHold, lat := u.lat, out := u.out }) ∧
    (s.latQuiet = false ∨ s.latCycle % s.frame ≠ 0 → exec .latticeModeSwitch s = .next s)) ∧
  (∀ (s : State) (t0 : Nat), s.latSw = some t0 →
    (t0 + s.get R.LAT_CTL_QUIESCE_LIM * 940 ≤ s.now → s.get R.LAT_STAT_MODE < 2 →
      Leads .quiesceTo s fun u =>
        u.get R.LAT_CTL_MODE_REQ = s.get R.LAT_STAT_MODE ∧ u.get R.LAT_STAT_MODE = s.get R.LAT_STAT_MODE ∧
          u.get R.LAT_STAT_SWITCHING = 0 ∧ u.get R.NET_EVT_QUIESCE_TO = 1 ∧ Counted R.LAT_QTO_CNT 1 s u ∧ released s u ∧
          u = { s with regs := u.regs, latSw := none, latHold := u.latHold, lat := u.lat, out := u.out }) ∧
    (s.now < t0 + s.get R.LAT_CTL_QUIESCE_LIM * 940 → exec .quiesceTo s = .next s))

/-- R224: SYNC.OBJ_CMD increments the generation modulo 256 and sets the mode; COUNTER takes COUNT as its counter, BARRIER as its target, FREE neither; every queued waiter is discarded without release, STALE_SIG counting each. Stated where port B has not written it in the same cycle (R285). -/
def Sys2Proof.Machine.ObjectCommandsAllocateAndFreeRule : Prop :=
  ∀ (src : Partner) (v : BitVec 64) (s : State), Passes src 0x500000 s → s.standB (srcCode src) 0x500000 = none →
    let i := v.toNat % 2 ^ 15
    let m := v.toNat / 2 ^ 16 % 4
    let count := v.toNat / 2 ^ 32
    let o := s.obj i
    let done (o' : Obj) (u : State) : Prop :=
      u.obj i = o' ∧ (∀ j, j ≠ i → u.obj j = s.obj j) ∧ Counted R.STALE_SIG o.q.length s u ∧ u.out = s.out ∧ u.tan = s.tan ∧
        RegsBut [R.STALE_SIG, R.SYNC_EVT_STALE, R.TAN_MSG_CNT] s u
    (m = 1 → Leads (.objCmdAllocate src v) s
      (done { o with gen := (o.gen + 1) % 256, mode := 1, q := [], counter := count, target := 0 })) ∧
    (m = 2 → 0 < count → Leads (.objCmdAllocate src v) s
      (done { o with gen := (o.gen + 1) % 256, mode := 2, q := [], counter := 0, target := count })) ∧
    (m = 0 → Leads (.objCmdFree src v) s
      (done { o with gen := (o.gen + 1) % 256, mode := 0, q := [], counter := 0, target := 0 }))

/-- The four operations at a stop, its buffer full or not, each with the SIG message it is. -/
def Sys2Proof.Machine.stopOps (h : Handle) (n : BitVec 32) (w : WaiterId) (full : Bool) (err : NetErr) : List (Instr × Out) :=
  [(.stopSignal h n full err, .sig h 0 n none), (.stopWait h n w full err, .sig h 1 n (some w)),
    (.stopAcquire h n w full err, .sig h 2 n (some w)), (.stopReset h n full err, .sig h 3 n none)]

/-- STOP_SIGNAL, STOP_WAIT, STOP_ACQUIRE and STOP_RESET: an operation with a stale generation, or on a FREE object, is dropped and counted, changes no object and sends nothing; a dropped WAIT or ACQUIRE is neither queued nor released (R225). One that finds the stop's buffer full passes on round the ring (R229); one whose turn has not come waits (R215); one met with an uncorrectable error is dropped on its way (R218). -/
def Obligations.StaleAndFreeOperationsAreDropped : Prop :=
  ∀ (s : State) (h : Handle) (n : BitVec 32) (w : WaiterId) (err : NetErr),
    (∀ c ∈ stopOps h n w false err,
      let o := s.obj (h.toNat % 2 ^ 15)
      (∀ l : List TanFly, TanTurn c.2 s l →
        (Sound err → o.mode ≠ 0 → o.gen ≠ h.toNat / 2 ^ 15 % 2 ^ 8 →
          Leads c.1 s fun u => Counted R.STALE_SIG 1 s u ∧ u.get R.SYNC_EVT_STALE = 1 ∧
            TanOnly l err [R.STALE_SIG, R.SYNC_EVT_STALE, R.WAIT_CNT] s u) ∧
        (Sound err → o.mode = 0 →
          Leads c.1 s fun u => Counted R.FREE_OP_CNT 1 s u ∧ u.get R.SYNC_EVT_FREE_OP = 1 ∧
            TanOnly l err [R.FREE_OP_CNT, R.SYNC_EVT_FREE_OP, R.WAIT_CNT] s u) ∧
        (∀ k, err = .uncorrectable k → Leads c.1 s (TanDropped l s))) ∧
      (s.tanTake c.2 = none → exec c.1 s = .next s)) ∧
    (∀ c ∈ stopOps h n w true err,
      (s.tanTake c.2 ≠ none → Leads c.1 s fun u =>
        Counted R.RECIRC_CNT 1 s u ∧ u.get R.SYNC_EVT_RECIRC = 1 ∧ OnlyRegs [R.RECIRC_CNT, R.SYNC_EVT_RECIRC] s u) ∧
      (s.tanTake c.2 = none → exec c.1 s = .next s))

/-- A live object of a handle: the mode, and the generation of the handle. -/
def Sys2Proof.Machine.ObjLive (s : State) (h : Handle) (mode : Nat) : Prop :=
  (s.obj (h.toNat % 2 ^ 15)).mode = mode ∧ (s.obj (h.toNat % 2 ^ 15)).gen = h.toNat / 2 ^ 15 % 2 ^ 8

/-- An operation has changed object `i` to `o` and released the waiters of `q` in order, by SIG messages from the object's stop (R226, R229); every other object, and everything but the counts and what is on its way, is as it was. `l` is what remains on its way. -/
def Sys2Proof.Machine.ObjDone (i : Nat) (o : Obj) (q : List WaiterId) (l : List TanFly) (s u : State) : Prop :=
  u.obj i = o ∧ (∀ j, j ≠ i → u.obj j = s.obj j) ∧
    PostedAll (0x140 + i / 1024) clSIG (q.map fun w => (waiterNode w, .release w)) { s with tan := l } u ∧
    RegsBut (tanRegs ++ [R.SIG_CNT, R.WAIT_CNT, R.SIG_OVF, R.SYNC_EVT_SIG_OVF]) s u ∧
    u = { s with objs := u.objs, regs := u.regs, out := u.out, tan := u.tan }

/-- R228: in BARRIER mode WAIT and ACQUIRE always enter the queue, whatever their threshold (a queue of 64 refuses, R230); a SIGNAL that brings the counter to the target releases every waiter in arrival order and subtracts the target once; a RESET clears the counter and sets the target. -/
def Obligations.BarriersReleaseTogether : Prop :=
  ∀ (s : State) (h : Handle) (n : BitVec 32) (err : NetErr) (l : List TanFly), ObjLive s h 2 → Sound err →
    let i := h.toNat % 2 ^ 15
    let o := s.obj i
    let c := min (o.counter + n.toNat) (2 ^ 32 - 1)
    (TanTurn (.sig h 0 n none) s l →
      (o.target ≤ c → Leads (.stopSignal h n false err) s (ObjDone i { o with counter := c - o.target, q := [] } (o.q.map (·.who)) l s)) ∧
      (c < o.target → Leads (.stopSignal h n false err) s (ObjDone i { o with counter := c } [] l s))) ∧
    (∀ w, o.q.length < 64 →
      (TanTurn (.sig h 1 n (some w)) s l →
        Leads (.stopWait h n w false err) s (ObjDone i { o with q := o.q ++ [⟨w, false, n⟩] } [] l s)) ∧
      (TanTurn (.sig h 2 n (some w)) s l →
        Leads (.stopAcquire h n w false err) s (ObjDone i { o with q := o.q ++ [⟨w, true, n⟩] } [] l s))) ∧
    (TanTurn (.sig h 3 n none) s l →
      Leads (.stopReset h n false err) s (ObjDone i { o with counter := 0, target := max n.toNat 1 } [] l s))

/-- R227 in COUNTER mode: a SIGNAL adds, saturating, a RESET sets the counter, and each then scans the queue in arrival order; a WAIT is released at once when the counter meets its threshold, an ACQUIRE when besides no ACQUIRE waits before it, then subtracting; otherwise it is appended. -/
def Obligations.CountersScanTheirQueue : Prop :=
  ∀ (s : State) (h : Handle) (n : BitVec 32) (err : NetErr) (l : List TanFly), ObjLive s h 1 → Sound err →
    let i := h.toNat % 2 ^ 15
    let o := s.obj i
    let scanned (c : Nat) : State → Prop :=
      ObjDone i { o with counter := (scanQueue c false o.q).1, q := (scanQueue c false o.q).2.2 } (scanQueue c false o.q).2.1 l s
    (TanTurn (.sig h 0 n none) s l → Leads (.stopSignal h n false err) s (scanned (min (o.counter + n.toNat) (2 ^ 32 - 1)))) ∧
    (TanTurn (.sig h 3 n none) s l → Leads (.stopReset h n false err) s (scanned n.toNat)) ∧
    (∀ w,
      (TanTurn (.sig h 1 n (some w)) s l →
        (n.toNat ≤ o.counter → Leads (.stopWait h n w false err) s (ObjDone i o [w] l s)) ∧
        (o.counter < n.toNat → o.q.length < 64 →
          Leads (.stopWait h n w false err) s (ObjDone i { o with q := o.q ++ [⟨w, false, n⟩] } [] l s))) ∧
      (TanTurn (.sig h 2 n (some w)) s l →
        (n.toNat ≤ o.counter → (∀ x ∈ o.q, x.acq = false) →
          Leads (.stopAcquire h n w false err) s (ObjDone i { o with counter := o.counter - n.toNat } [w] l s)) ∧
        (o.counter < n.toNat ∨ (∃ x ∈ o.q, x.acq = true) → o.q.length < 64 →
          Leads (.stopAcquire h n w false err) s (ObjDone i { o with q := o.q ++ [⟨w, true, n⟩] } [] l s))))

/-- What a scan of a COUNTER object's queue does (R227): it takes nothing from the counter that a released ACQUIRE does not subtract, keeps waiters and released waiters each in arrival order, keeps every WAIT whose threshold the counter it met did not reach, and releases no ACQUIRE after one it keeps. -/
def Obligations.ScanNeverOvertakesAnAcquire : Prop :=
  ∀ (c : Nat) (q : List Waiter),
    let z := scanQueue c false q
    z.1 ≤ c ∧ List.Sublist z.2.2 q ∧ List.Sublist z.2.1 (q.map (·.who)) ∧ z.2.1.length + z.2.2.length = q.length ∧
      (∀ a w b, q = a ++ w :: b → (∀ x ∈ a, x.acq = false) → w.acq = true → c < w.thr.toNat →
        z.1 = c ∧ ∀ x ∈ b, x.acq = true → x ∈ z.2.2) ∧
      (∀ w ∈ q, w.acq = false → c < w.thr.toNat → w ∈ z.2.2)

/-- HOST_SIG_SIGNAL and HOST_SIG_RESET: a write of SYNC.HOST_SIG performs its SIGNAL or RESET on a live object (R231); here on a BARRIER below its target and on a COUNTER without waiters, where port B has not written it in the same cycle (R285). -/
def Sys2Proof.Machine.HostSignalsReachObjectsRule : Prop :=
  ∀ (src : Partner) (v : BitVec 64) (s : State), Passes src 0x500008 s → s.standB (srcCode src) 0x500008 = none →
    let h : Handle := BitVec.ofNat 23 v.toNat
    let i := v.toNat % 2 ^ 15
    let n := v.toNat / 2 ^ 32
    let o := s.obj i
    let others (u : State) : Prop := (∀ j, j ≠ i → u.obj j = s.obj j) ∧ u.out = s.out ∧ u.tan = s.tan ∧ Counted R.SIG_CNT 1 s u
    (v.toNat / 2 ^ 24 % 8 = 0 →
      (ObjLive s h 2 → min (o.counter + n) (2 ^ 32 - 1) < o.target →
        Leads (.hostSigSignal src v) s fun u => u.obj i = { o with counter := min (o.counter + n) (2 ^ 32 - 1) } ∧ others u) ∧
      (ObjLive s h 1 → o.q = [] →
        Leads (.hostSigSignal src v) s fun u => u.obj i = { o with counter := min (o.counter + n) (2 ^ 32 - 1) } ∧ others u)) ∧
    (v.toNat / 2 ^ 24 % 8 = 3 →
      (ObjLive s h 2 → Leads (.hostSigReset src v) s fun u => u.obj i = { o with counter := 0, target := max n 1 } ∧ others u) ∧
      (ObjLive s h 1 → o.q = [] → Leads (.hostSigReset src v) s fun u => u.obj i = { o with counter := n } ∧ others u))

/-- Object commands allocate and free objects; host signals reach them: ObjectCommandsAllocateAndFreeRule and HostSignalsReachObjectsRule. -/
def Obligations.ObjectCommandsAllocateAndFree : Prop := ObjectCommandsAllocateAndFreeRule ∧ HostSignalsReachObjectsRule

/-! ### Stacks -/

/-- STACK_ACCESS: a write by a source that may, reaching a READY controller at an address that exists with no uncorrectable word to merge, stores exactly its enabled bytes, leaves the half-words it writes without an error, counts a merge for each half it covers in part, and applies its signal (R176, R178, R180, R185); of two writes of one cycle the one of higher rank stands (R177); a read of words without error brings the 64 bytes (R183). While the controller is not READY the access is held (R190, R192); an address of no stack byte is counted and changes nothing (R175). -/
def Obligations.StackAccessesMoveTheirBytes : Prop :=
  ∀ (s : State) (x : StackAcc),
    let n := stackOf x.addr.toNat
    let base := x.addr.toNat / 64 * 64
    let off := stackOff x.addr.toNat / 64 * 64
    let part (h : Nat) : Bool := beHalf x.be h != 0 && beHalf x.be h != 32
    let sound (h : Nat) : Prop := x.ecc = .clean ∧ off / 32 + h ∉ (s.sec n).bad ∧ off / 32 + h ∉ (s.sec n).soft
    let may : Prop := x.write = true ∧ (152 * 2 ^ 20 ≤ off ∨ x.source.toNat = 4 ∨ x.source.toNat = 5 ∨ x.source.toNat = 7)
    let enabled (be : BitVec 64) (u : State) : Prop :=
      ∀ k, sget 0 u.stk k = if base ≤ k ∧ k < base + 64 ∧ be.getLsbD (k - base) = true then x.data.getD (k - base) 0 else sget 0 s.stk k
    (stackBad x.addr.toNat = true → Leads (.stackAccess x) s fun u =>
      Counted (R.ADDR_ERR_CNT n) 1 s u ∧ u.get (R.MC_EVT_ADDR_ERR n) = 1 ∧
        OnlyRegs [R.ADDR_ERR_CNT n, R.MC_EVT_ADDR_ERR n] s u) ∧
    (stackBad x.addr.toNat = false → s.get (R.MC_STAT_STATE n) ≠ 3 → Leads (.stackAccess x) s fun u =>
      (u.sec n).held = (s.sec n).held ++ [.acc x] ∧ Counted (R.SR_HELD_CNT n) 1 s u ∧ u.get (R.MC_EVT_SR_HELD n) = 1 ∧
        RegsBut [R.SR_HELD_CNT n, R.MC_EVT_SR_HELD n] s u ∧ u = { s with regs := u.regs, secs := u.secs }) ∧
    (stackBad x.addr.toNat = false → s.get (R.MC_STAT_STATE n) = 3 →
      (may → (part 0 = true → sound 0) → (part 1 = true → sound 1) → (s.sec n).wTick ≠ s.now →
        Leads (.stackAccess x) s fun u =>
          enabled x.be u ∧
          (∀ v, v ∈ (u.sec n).bad ↔ v ∈ (s.sec n).bad ∧ ¬(v / 2 = off / 64 ∧ beHalf x.be (v % 2) ≠ 0)) ∧
          (if x.sa = true then Posted (0x100 + n) (stopNode x.sigH) clSIG (.sig x.sigH 0 x.sigN none) s u
           else u.out = s.out ∧ u.tan = s.tan) ∧
          Counted (if x.bus then R.LOCAL_BYTES n else R.LATT_BYTES n) (beHalf x.be 0 + beHalf x.be 1) s u ∧
          Counted (R.RMW_CNT n) ((part 0).toNat + (part 1).toNat) s u ∧
          RegsBut [R.LOCAL_BYTES n, R.LATT_BYTES n, R.RMW_CNT n] s u ∧
          u = { s with regs := u.regs, stk := u.stk, secs := u.secs, out := u.out, tan := u.tan }) ∧
      (∀ (r : Nat) (be : BitVec 64), may → (part 0 = true → sound 0) → (part 1 = true → sound 1) → (s.sec n).wTick = s.now →
        (s.sec n).wrs = [(off / 64, r, be)] → accRank x < r → Leads (.stackAccess x) s (enabled (x.be &&& ~~~be))) ∧
      (x.write = false → sound 0 → sound 1 →
        Leads (.stackAccess x) s fun u =>
          u.out = s.out ++ [.stackData x.addr.toNat (s.stkBytes base 64) false] ∧
            OnlyRegs [R.LOCAL_BYTES n, R.LATT_BYTES n] { s with out := u.out } u))

/-- PATROL_SCRUB, STACK_TEMP_READ, BANK_REFRESH and PSEUDO_CHANNEL_TRAINING_LOSS: the scrubber reads the word it has come to once its time in the pass of SCRUB_HOURS has come and moves on, from the last word to the next pass (R186); what it finds is counted as its own, a correctable word written back under CE_WB, an uncorrectable word captured while UE_ADDR is not VALID (R184, R186); a stack above 85 degrees, or whose temperature cannot be read, refreshes at the double rate, one below 83 degrees for 10 ms no longer (R188, R189); a refresh counts (R189); a pseudo-channel that loses training has failed (R187). -/
def Sys2Proof.Machine.StacksRefreshScrubAndFailRule : Prop :=
  ∀ (s : State) (n : Sector),
    (∀ off : BitVec 33,
      let c := s.sec n.val
      let w := off.toNat / 32
      let hours := s.get (R.MC_CTL_SCRUB_HOURS n.val) * 3600000000 * 940
      let due : Prop := s.get (R.MC_CTL_SCRUB_EN n.val) ≠ 0 ∧ s.get (R.MC_STAT_STATE n.val) = 3 ∧ w = c.scrub ∧
        c.scrub * hours ≤ (s.now - c.pass) * (6 * 2 ^ 30 / 32)
      let on (u : State) : Prop :=
        u.stk = s.stk ∧ (u.sec n.val).scrub = (if 6 * 2 ^ 30 / 32 ≤ c.scrub + 1 then 0 else c.scrub + 1) ∧
          (u.sec n.val).pass = if 6 * 2 ^ 30 / 32 ≤ c.scrub + 1 then s.now else c.pass
      (¬due → ∀ e, exec (.patrolScrub n off e) s = .next s) ∧
      (due → w ∉ c.bad →
        (w ∉ c.soft → Leads (.patrolScrub n off .clean) s fun u => on u ∧ u = { s with secs := u.secs }) ∧
        Leads (.patrolScrub n off .correctable) s (fun u => on u ∧ Counted (R.SCRUB_CE n.val) 1 s u ∧
          (w ∈ (u.sec n.val).soft ↔ s.get (R.MC_CTL_CE_WB n.val) ≠ 1) ∧ RegsBut [R.SCRUB_CE n.val] s u ∧
          u = { s with regs := u.regs, secs := u.secs }) ∧
        Leads (.patrolScrub n off .uncorrectable) s (fun u => on u ∧ Counted (R.SCRUB_UE n.val) 1 s u ∧
          u.get (R.MC_EVT_SCRUB_UE n.val) = 1 ∧ w ∈ (u.sec n.val).bad ∧ u.get (R.UE_ADDR_VALID n.val) = 1))) ∧
    (∀ v : Int, 85 < v → v < 95 → Leads (.stackTempRead n (some v)) s fun u =>
      u.get (R.MC_STAT_TEMP n.val) = unsx 8 v ∧ u.get (R.MC_STAT_REF2X n.val) = 1 ∧ u.stk = s.stk) ∧
    (∀ (v : Int) (c : Nat), v < 83 → (s.sec n.val).cool = some c → c + 9400000 ≤ s.now → s.get (R.MC_CTL_REF2X_FORCE n.val) ≠ 1 →
      Leads (.stackTempRead n (some v)) s fun u =>
        u.get (R.MC_STAT_TEMP n.val) = unsx 8 v ∧ u.get (R.MC_STAT_REF2X n.val) = 0 ∧ u.stk = s.stk) ∧
    Leads (.stackTempRead n none) s (fun u =>
      u.get (R.MC_STAT_REF2X n.val) = 1 ∧ u.get (R.MC_STAT_TEMP n.val) = s.get (R.MC_STAT_TEMP n.val)) ∧
    (s.get (R.MC_STAT_STATE n.val) = 3 → ∀ pc bank : Fin 16,
      Leads (.bankRefresh n pc bank) s (fun u => Counted (R.REF_CNT n.val) 1 s u ∧ OnlyRegs [R.REF_CNT n.val] s u) ∧
      Leads (.pseudoChannelTrainingLoss n pc) s (fun u =>
        u.get (R.MC_STAT_PC_FAIL n.val) = Nat.lor (s.get (R.MC_STAT_PC_FAIL n.val)) (2 ^ pc.val) % 2 ^ 16 ∧
          u.get (R.MC_EVT_CHFAIL n.val) = 1 ∧
          Raised (fun e => e.kind = 0x10 ∧ e.detail.toNat = n.val ∧ e.aux.toNat = pc.val) s u ∧
          RegsBut [R.MC_STAT_PC_FAIL n.val, R.MC_EVT_CHFAIL n.val] s u ∧ u = { s with regs := u.regs, out := u.out, tan := u.tan }))

/-- STACK_TRAINING_COMPLETE and STACK_INITIALISATION_COMPLETE: training records PASS, REPAIRED or FAIL and the lanes of each pseudo-channel, more than two failed lanes failing the stack, which otherwise is zeroed (R192, R193); with every word zero it is READY, no word holding an error (R183, R192). Stated outside start-up, where a stack's state moves no step on. -/
def Sys2Proof.Machine.StacksTrainAndInitialiseRule : Prop :=
  ∀ (s : State) (n : Sector), s.get R.STATE_STATE ≠ 2 →
    (∀ lanes : List Nat, lanes.length = 16 → s.get (R.MC_STAT_STATE n.val) = 1 →
      Leads (.stackTrainingComplete n lanes) s fun u =>
        (∀ k, k < 16 → u.get (trainF n.val k false) = (if lanes.getD k 0 = 0 then 0 else if lanes.getD k 0 ≤ 2 then 1 else 2) ∧
          u.get (trainF n.val k true) = min (lanes.getD k 0) 2) ∧
        u.get (R.MC_STAT_STATE n.val) = (if lanes.any (fun c => decide (2 < c)) then 5 else 2) ∧ u.stk = s.stk) ∧
    (s.get (R.MC_STAT_STATE n.val) = 2 → (s.sec n.val).held = [] →
      Leads (.stackInitialisationComplete n) s fun u =>
        u.get (R.MC_STAT_STATE n.val) = 3 ∧
          (∀ k, sget 0 u.stk k = if k / 2 ^ 33 = n.val then 0 else sget 0 s.stk k) ∧ (u.sec n.val).bad = [] ∧ (u.sec n.val).soft = [])

/-- Stacks train, initialise, refresh, scrub and fail: StacksRefreshScrubAndFailRule and StacksTrainAndInitialiseRule. -/
def Obligations.StacksRefreshTrainAndFail : Prop := StacksRefreshScrubAndFailRule ∧ StacksTrainAndInitialiseRule

/-! ### DMA -/

/-- A chain head accepted by channel `c`: an idle channel starts it, another holds it as its last pending one; nothing else of the channels changes (R237). -/
def Sys2Proof.Machine.ChanTakes (c : Nat) (h : Chain) (s u : State) : Prop :=
  u.chan c = (if (s.chan c).st = .idle then
      { s.chan c with chain := some h, cur := h.ptr, first := true, desc := none, st := .fetch }
    else { s.chan c with pend := (s.chan c).pend ++ [h] }) ∧
  ∀ c', c' ≠ c → u.chan c' = s.chan c'

/-- Channel `c` stops in ERROR with `code` in STAT, and the error is counted and reported; no byte of memory and no other channel changes (R246). -/
def Sys2Proof.Machine.ChanErrs (c code : Nat) (s u : State) : Prop :=
  (u.chan c).st = .error ∧ (u.chan c).chain = none ∧ (u.chan c).desc = none ∧ (u.chan c).pend = (s.chan c).pend ∧
  u.get ⟨chBase c + 4, 8, 4, 0⟩ = code ∧ Counted R.ERR_CNT 1 s u ∧ u.get R.DMA_EVT_CH_ERR = 1 ∧
  (∀ c', c' ≠ c → u.chan c' = s.chan c') ∧ u.sp = s.sp ∧ u.stk = s.stk

/-- No command of a host ring waits for the chain of channel `c`. -/
def Sys2Proof.Machine.ChainOwn (s : State) (c : Nat) : Prop :=
  ∀ h, (s.chan c).chain = some h → h.fromWho = .reg ∨ ∃ t, h.fromWho = .tile t

/-- KICK, CHAIN_ACCEPT, RESUME, FLUSH, ABORT and RSP_TIMEOUT: an enabled channel with fewer than 4 pending chains takes a chain head from its KICK register or from a tile's DMA queue (R237, R143); RESUME and FLUSH leave ERROR, RESUME starting the next pending chain, FLUSH discarding them (R246, R251); ABORT ends the running descriptor with code ABORT (R251), a READ without response within RSP_LIM with code TIMEOUT (R248). -/
def Obligations.ChannelsTakeAndEndChains : Prop :=
  ∀ (s : State) (c : ChanIx), 
    (s.chanRoom c = true → ((s.chan c).st = .idle → (s.chan c).pend = []) →
      (∀ (src : Partner) (ptr : BitVec 64), Passes src (chBase c + 8) s → s.standB (srcCode src) (chBase c + 8) = none →
        Leads (.kick src c ptr) s fun u => ChanTakes c ⟨ptr, .reg⟩ s u ∧ RegsBut [R.TAN_MSG_CNT] s u ∧ Told (chBase c + 8) 8 ptr.toNat s u ∧
          u = { s with regs := u.regs, chans := u.chans, latch := u.latch, wrB := u.wrB, out := u.out }) ∧
      (∀ (t : Site) (pc ord ptr ch : Nat) (r : List QEntry), (s.tile t).qDma.ents = ⟨pc, ord, .dmaKick ptr ch⟩ :: r →
        c.val = 8 * (t.val / 9) + ch % 8 → (s.tile t).awake = true → (s.tile t).clear 2 = true →
          Leads (.chainAccept t) s fun u => ChanTakes c ⟨BitVec.ofNat 64 ptr, .tile t⟩ s u ∧
            u.tile t = { s.tile t with qDma := ⟨r, .free⟩, parked := none } ∧ OtherTiles t s u ∧
            u = { s with tiles := u.tiles, chans := u.chans })) ∧
    (∀ src : Partner, Passes src (chBase c) s →
      let kept (bit : Nat) (u : State) : Prop :=
        (∀ c', c' ≠ c.val → u.chan c' = s.chan c') ∧ RegsBut [R.TAN_MSG_CNT] s u ∧
          Told (chBase c) 4 ((s.chEnabled c).toNat + 2 ^ bit) s u ∧ u = { s with regs := u.regs, chans := u.chans, out := u.out }
      ((s.chan c).st = .error → (s.chan c).pend = [] →
        Leads (.resume src c) s fun u => u.chan c = { s.chan c with st := .idle } ∧ kept 1 u) ∧
      (∀ h r, (s.chan c).st = .error → (s.chan c).pend = h :: r →
        Leads (.resume src c) s fun u =>
          u.chan c = { s.chan c with pend := r, chain := some h, cur := h.ptr, first := true, desc := none, st := .fetch } ∧ kept 1 u) ∧
      ((∀ h ∈ (s.chan c).pend, h.fromWho = .reg) →
        Leads (.flush src c) s fun u =>
          u.chan c = { s.chan c with pend := [], st := if (s.chan c).st = .error then .idle else (s.chan c).st } ∧ kept 2 u) ∧
      ((s.chan c).st = .run ∨ (s.chan c).st = .fetch → ChainOwn s c → Leads (.abort src c) s (ChanErrs c 9 s))) ∧
    (∀ n o t0, (s.chan c).rd = some (n, o, t0) → t0 + usTicks (s.get R.DMA_CTL_RSP_LIM) ≤ s.now → ChainOwn s c →
      Leads (.rspTimeout c) s fun u => ChanErrs c 5 s u ∧ (u.chan c).late = (s.chan c).late + 1)

/-- DESCRIPTOR_FETCH, DMA_PACKET, LATTICE_RDRSP and LATTICE_RDERR: a descriptor within reach of the engine's sector bus or of its host is read there, any other asked for by a READ (R236, R238); the bytes fetched become the descriptor in progress unless its form, its addresses or its destination fail (R239, R241); a channel served in its turn asks for scratchpad bytes of another sector by a READ of up to 8 words (R205, R236, R244); at most 16 bytes within one word for a tile of another sector go as one VAL message that completes the descriptor, its bytes exchanged as SWAP says (R240, R243, R244); bytes for a tile of the same sector are written over the sector bus (R244); a response brings the descriptor or the bytes awaited or ends the descriptor with UE, a refusal ends it with its code (R246). -/
def Obligations.DescriptorsMoveBytes : Prop :=
  ∀ (s : State) (c : ChanIx) (host : HostRd) (ecc : Ecc), ChainOwn s c → 
    let good (d : Desc) : Prop := descFormat (chHost c) d = true ∧ descAddr d = true ∧ s.descLink d = true
    let begun (d : Desc) (u : State) : Prop :=
      u.chan c = { s.chan c with
        desc := some d, line := 0, off := 0, buf := [], rd := none, dropped := false, dseq := (s.chan c).dseq + 1, st := .run,
        waits := (u.chan c).waits } ∧ (∀ c', c' ≠ c.val → u.chan c' = s.chan c') ∧ u.sp = s.sp ∧ u.stk = s.stk
    ((s.chan c).st = .fetch → (s.chan c).fetching = false → (s.chan c).rd = none →
      (∀ bs, s.descFar c = none → (s.descBytes c host ecc).2 = .bytes bs →
        let d := parseDesc (s.chan c).cur bs
        (good d → Leads (.descriptorFetch c host ecc) s (begun d)) ∧
        (descFormat (chHost c) d = false → Leads (.descriptorFetch c host ecc) s (ChanErrs c 1 s)) ∧
        (descFormat (chHost c) d = true → descAddr d = false → Leads (.descriptorFetch c host ecc) s (ChanErrs c 2 s)) ∧
        (descFormat (chHost c) d = true → descAddr d = true → s.descLink d = false → Leads (.descriptorFetch c host ecc) s (ChanErrs c 8 s))) ∧
      (∀ node a, s.descFar c = some (node, a) → Leads (.descriptorFetch c host ecc) s fun u =>
        Injected 1 (s.chPkt c 0xFFFFFFFF node a 1) (some (0, 0, 0)) s u ∧ u.chan c = { s.chan c with rd := some (64, 0, s.now) } ∧
          (∀ c', c' ≠ c.val → u.chan c' = s.chan c') ∧ u = { s with chans := u.chans, out := u.out, lat := u.lat, latHold := u.latHold })) ∧
    (∀ d : Desc, (s.chan c).st = .run → (s.chan c).desc = some d → (s.chan c).rd = none → (s.chan c).line = 0 → (s.chan c).off = 0 →
      (s.chan c).buf = [] → c.val < 256 → s.chHasTurn c = true → d.srcSpace = 0 → d.swap < 4 → (d.swap = 1 → d.len % 2 = 0) →
      (2 ≤ d.swap → d.len % 4 = 0) → d.dstSpace = 0 → d.dstNode < 256 → 0 < d.len → d.cnt = 1 → d.last = true →
      let a := d.srcOf 0
      let b := d.dstOf 0
      let home (n : Nat) : Prop := (s.siteOf n).val / 9 = c.val / 8
      let open_ (n x : Nat) : Prop := (s.tile (s.siteOf n)).fenced = false ∧ UnitMay s (s.siteOf n) 3 x d.len
      (¬home d.srcNode → (home d.dstNode → open_ d.dstNode b) → d.swap = 0 →
        let stop := a + min (512 - b % 512) d.len
        let words := min 8 ((stop - a / 64 * 64 + 63) / 64)
        Leads (.dmaPacket c host ecc) s fun u =>
          (∃ p : LatPkt, Injected 1 p (some (0, 0, 0)) s u ∧ p.addr = BitVec.ofNat 48 (a / 64 * 64) ∧ p.words = words ∧
            p.dest = BitVec.ofNat 11 d.srcNode ∧ p.src = BitVec.ofNat 11 (0x120 + c.val / 8) ∧ p.owner = d.owner) ∧
          u.chan c = { s.chan c with rd := some (min stop (a / 64 * 64 + 64 * words) - a, a % 64, s.now) } ∧
          (∀ c', c' ≠ c.val → u.chan c' = s.chan c') ∧ sget 0 u.chTurn (c.val / 8) = c.val % 8 ∧
          u = { s with chans := u.chans, out := u.out, lat := u.lat, latHold := u.latHold, chTurn := u.chTurn }) ∧
      (home d.srcNode → open_ d.srcNode a → b % 512 + d.len ≤ 512 → (s.chan c).pend = [] →
        let bs := (List.range d.len).map fun i => (s.spBytes (s.siteOf d.srcNode) a d.len).getD (swapIx d.swap i) 0
        let finished (u : State) : Prop :=
          (u.chan c).st = .idle ∧ (u.chan c).chain = none ∧ (u.chan c).desc = none ∧ Counted R.DESC_CNT 1 s u ∧
            (∀ c', c' ≠ c.val → u.chan c' = s.chan c') ∧ sget 0 u.chTurn (c.val / 8) = c.val % 8
        (¬home d.dstNode → d.len ≤ 16 → b % 64 + d.len ≤ 64 →
          Leads (.dmaPacket c host ecc) s fun u =>
            Posted (0x120 + c.val / 8) d.dstNode clVAL
              (.val (s.siteOf d.dstNode) ⟨BitVec.ofNat 21 b, bs, d.sig.isSome, d.sigOf.1, d.sigOf.2, d.owner⟩) s u ∧
              Counted R.VAL_CNT 1 s u ∧ finished u ∧ u.sp = s.sp) ∧
        (home d.dstNode → open_ d.dstNode b → PortsQuiet s (s.siteOf d.dstNode) → (s.chan c).dropped = false →
          (0x1000 + c.val, (s.chan c).dseq, 0) ∉ s.lost →
          Leads (.dmaPacket c host ecc) s fun u =>
            MemAfter (s.siteOf d.dstNode) [(b, bs)] s u ∧ finished u ∧
              (d.sig = none → u.out = s.out ∧ u.tan = s.tan) ∧
              (∀ g, d.sig = some g → Posted (0x120 + c.val / 8) (stopNode g.1) clSIG (.sig g.1 0 g.2 none) s u)))) ∧
    (s.chHasTurn c = false → ∀ d, (s.chan c).st = .run → (s.chan c).desc = some d → (s.chan c).rd = none →
      exec (.dmaPacket c host ecc) s = .next s) ∧
    (∀ (p : LatPkt) (err : NetErr) (l : List LatFly) (e : LatFly) n o t0, (s.chan c).rd = some (n, o, t0) → (s.chan c).late = 0 → Sound err →
      (LatTurn 2 (s.latExit (s.chNode c)) p s l e →
        (p.err = false → (s.chan c).desc.isSome = true → Leads (.latticeRdrsp c p err) s fun u =>
          u.chan c = { s.chan c with rd := none, buf := (s.chan c).buf ++ (p.data.drop o).take n } ∧
            (∀ c', c' ≠ c.val → u.chan c' = s.chan c') ∧ LatCounted e err s u ∧ RegsBut (latRegs e err) s u ∧
            u = { s with chans := u.chans, regs := u.regs, lat := l }) ∧
        (p.err = false → (s.chan c).desc = none → good (parseDesc (s.chan c).cur ((p.data.drop o).take n)) →
          Leads (.latticeRdrsp c p err) s (begun (parseDesc (s.chan c).cur ((p.data.drop o).take n)))) ∧
        (p.err = true → Leads (.latticeRdrsp c p err) s (ChanErrs c 4 s))) ∧
      (∀ why : RdErr, LatTurn 3 (s.latExit (s.chNode c)) p s l e →
        Leads (.latticeRderr c ⟨p, why⟩ err) s (ChanErrs c (match why with | .addr => 2 | .spOwner => 3 | .fenced => 7) s)))

/-! ### Fabric -/

/-- The one working link of direction `d` is `l`, with nothing waiting on it (R263). -/
def Sys2Proof.Machine.OneLink (s : State) (d l : Nat) : Prop := s.workingLinks d = [l] ∧ (s.lnk l).wait = []

/-- A packet came to this device from a device of its own slice in its own pod (R264, R266). -/
def Sys2Proof.Machine.FromSlice (s : State) (p : FabPkt) : Prop :=
  p.dpod.toNat = s.ownPod ∧ p.dvtx.toNat = s.ownVtx ∧ p.spod.toNat = s.ownPod ∧
    ∃ b, s.fbind = some b ∧ p.sliceId = b.sliceId ∧ p.bgen = b.bgen ∧ inSlice b p.svtx.toNat = true

/-- DATA_FLIT, IDLE_FLIT, NAK and LANE_SIGNAL_LOSS on an ACTIVE link: a flit in order advances the link, is acknowledged and delivers its packets, on the torus in BSEQ order, from the spine but for the copy of one that a failed link has delivered (R257, R261, R263); a failed CRC, or a gap not yet asked for, is answered by a NAK of the last flit accepted (R257); an acknowledgement frees the flits up to it and returns credits (R257); a NAK has the flits after it sent again as they were, and fails the link after 8 replays in succession without progress (R257, R258); a lane without signal fails the link (R258). -/
def Sys2Proof.Machine.LinksDeliverInOrderRule : Prop :=
  ∀ (s : State) (l : LinkIx), s.get (R.LNK_STAT_STATE l) = 6 → 
    let last := ((s.lnk l).rx + 4095) % 4096
    (∀ f : Flit, (∀ k ∈ dirLinks (linkDir l), (s.lnk k).wait = []) → f.fecUncorr = 0 →
      let ahead := (f.fseq.toNat + 4096 - (s.lnk l).rx) % 4096
      let counts (u : State) : Prop := Counted (R.FEC_CORR l) f.fecCorr s u ∧ OtherLinks l.val s u
      let accepted (u : State) : Prop :=
        (u.lnk l).rx = ((s.lnk l).rx + 1) % 4096 ∧ (u.lnk l).gap = false ∧ Counted (R.FLIT_RX l) 1 s u ∧ counts u ∧
          u = { s with regs := u.regs, lnks := u.lnks, bundles := u.bundles, out := u.out }
      let here (p : FabPkt) : FabPkt := { p with via := Fin.ofNat 7 (linkDir l) }
      let refused (u : State) : Prop :=
        u.lnk l = { s.lnk l with gap := true } ∧ counts u ∧ u.out = s.out ++ [.nak l last] ∧ u.bundles = s.bundles
      (f.crcOk = true → ahead = 0 →
        (f.pkts = [] → Leads (.dataFlit l f) s fun u => accepted u ∧ u.out = s.out ++ [.idle l f.fseq.toNat f.vc 1] ∧ u.bundles = s.bundles) ∧
        (∀ p, f.pkts = [p] →
          (p.vc = 3 ∨ (48 ≤ l.val ∧ here p ∉ (s.lnk l).dups) → Leads (.dataFlit l f) s fun u =>
            accepted u ∧ u.out = s.out ++ [.idle l f.fseq.toNat f.vc 1, .fabIn (decide (48 ≤ l.val)) (here p)] ∧ u.bundles = s.bundles) ∧
          (p.vc ≠ 3 → 48 ≤ l.val → here p ∈ (s.lnk l).dups → Leads (.dataFlit l f) s fun u =>
            accepted u ∧ u.out = s.out ++ [.idle l f.fseq.toNat f.vc 1]) ∧
          (l.val < 48 → p.vc ≠ 3 →
            let k := 4 * (l.val / 8) + p.vc.val
            (s.bundle k).held = [] → p.bseq.toNat = (s.bundle k).rx →
              Leads (.dataFlit l f) s fun u =>
                accepted u ∧ u.out = s.out ++ [.idle l f.fseq.toNat f.vc 1, .fabIn false (here p)] ∧
                  u.bundle k = { s.bundle k with rx := ((s.bundle k).rx + 1) % 65536 }))) ∧
      (f.crcOk = false → Leads (.dataFlit l f) s fun u => refused u ∧ Counted (R.CRC_ERR l) 1 s u) ∧
      (f.crcOk = true → 0 < ahead → ahead < 2048 →
        ((s.lnk l).gap = false → Leads (.dataFlit l f) s refused) ∧
        ((s.lnk l).gap = true → Leads (.dataFlit l f) s fun u => u.lnk l = s.lnk l ∧ counts u ∧ u = { s with regs := u.regs })) ∧
      (f.crcOk = true → 2048 ≤ ahead → Leads (.dataFlit l f) s fun u =>
        u.lnk l = s.lnk l ∧ counts u ∧ u.out = s.out ++ [.idle l last 0 0] ∧ u.bundles = s.bundles)) ∧
    (∀ (ack : BitVec 12) (vc : Fin 4) (n : BitVec 8), (∀ k ∈ dirLinks (linkDir l), (s.lnk k).wait = []) →
      let hit := (s.lnk l).replay.any fun e => e.fseq == ack.toNat
      let rest := if hit then ((s.lnk l).replay.dropWhile fun e => e.fseq != ack.toNat).drop 1 else (s.lnk l).replay
      let fruitless := if hit then 0 else (s.lnk l).fruitless
      let credit := setAt (s.lnk l).credit vc (min (vcRoom.getD vc 0) ((s.lnk l).credit.getD vc 0 + n.toNat))
      Leads (.idleFlit l ack vc n) s (fun u =>
        u.lnk l = { s.lnk l with replay := rest, fruitless := fruitless, credit := credit } ∧ OtherLinks l.val s u ∧
          u = { s with lnks := u.lnks }) ∧
      (fruitless < 8 → Leads (.nak l ack vc n) s fun u =>
        u.lnk l = { s.lnk l with replay := rest, fruitless := fruitless + 1, credit := credit } ∧ OtherLinks l.val s u ∧
          u.out = s.out ++ rest.map (fun e => .flit l (flitBytes 0 e.vc e.fseq last e.pstart e.data)) ∧ Counted (R.RETRY_CNT l) 1 s u ∧
          Counted (R.FLIT_TX l) rest.length s u ∧ RegsBut [R.RETRY_CNT l, R.FLIT_TX l] s u) ∧
      (8 ≤ fruitless → Leads (.nak l ack vc n) s fun u => u.get (R.LNK_STAT_STATE l) = 7 ∧ u.get R.FAB_EVT_LINK_FAIL = 1)) ∧
    ((s.lnk l).misAt = none → ∀ lane : Fin 4, Leads (.laneSignalLoss l lane) s fun u =>
      u.get (R.LNK_STAT_STATE l) = 7 ∧ u.get (R.LNK_STAT_USE l) = 0 ∧ (u.get (R.LNK_STAT_LANE_OK l)).testBit lane.val = false ∧
        u.get R.FAB_EVT_LINK_FAIL = 1 ∧ ∃ e, Out.fault e ∈ u.out ∧ e.kind = 0x12 ∧ e.detail.toNat = l.val)

/-- LINK_TRAINING_STAGE, LINK_TRAINING_LIMIT, MISWIRED_RETRY, MISWIRED_LIMIT, MGMT and DELAY_MEASUREMENT: a link goes from OPTICS through CDR, ALIGN, PARTNER and DELAY to ACTIVE, giving its own identity in PARTNER, the wrong partner making it MISWIRED (R259, R260); 20 ms after training began it has failed, a MISWIRED link trains again every 100 ms and has failed after 1 s (R259); a partner's identity is shown and its ADOPT takes the link it names out of use (R260, R261); the one-way delay is half the round trip less the turn-round (R272). Training is stated outside start-up, where its end also moves a step on. -/
def Sys2Proof.Machine.LinksTrainRule : Prop :=
  ∀ (s : State) (l : LinkIx), 
    (s.get R.STATE_STATE ≠ 2 →
      (∀ id : PartnerId, id.ok = true → s.board.laserOff = false →
        (s.get (R.LNK_STAT_STATE l) = 1 → Leads (.linkTrainingStage l id) s fun u =>
          u.get (R.LNK_STAT_LANE_OK l) = id.lanes.toNat ∧ u.get (R.LNK_STAT_STATE l) = (if id.lanes = 15 then 2 else 1) ∧
            u.lnk l = (if id.lanes = 15 then { s.lnk l with stageAt := s.now } else s.lnk l) ∧ OtherLinks l.val s u ∧
            RegsBut [R.LNK_STAT_LANE_OK l, R.LNK_STAT_STATE l] s u ∧ u = { s with regs := u.regs, lnks := u.lnks }) ∧
        (s.get (R.LNK_STAT_STATE l) = 2 ∨ s.get (R.LNK_STAT_STATE l) = 3 → Leads (.linkTrainingStage l id) s fun u =>
          u.get (R.LNK_STAT_STATE l) = s.get (R.LNK_STAT_STATE l) + 1 ∧ u.lnk l = { s.lnk l with stageAt := s.now } ∧ OtherLinks l.val s u ∧
            (s.get (R.LNK_STAT_STATE l) = 2 → u.out = s.out) ∧
            (s.get (R.LNK_STAT_STATE l) = 3 → ∃ i : PartnerId, u.out = s.out ++ [.ident l i] ∧ i.vtx = BitVec.ofNat 12 s.ownVtx ∧
              i.pod = BitVec.ofNat 12 s.ownPod ∧ i.link = BitVec.ofNat 6 l.val ∧ i.isSwitch = false ∧ (i.sliceId, i.bgen) = s.sliceTag) ∧
            RegsBut [R.LNK_STAT_STATE l] s u ∧ u = { s with regs := u.regs, lnks := u.lnks, out := u.out }) ∧
        (s.get (R.LNK_STAT_STATE l) = 4 →
          (s.partnerOk l id = true → Leads (.linkTrainingStage l id) s fun u =>
            u.get (R.LNK_STAT_STATE l) = 5 ∧ u.get (R.LNK_STAT_PLINK l) = id.link.toNat ∧ u.get (R.LNK_STAT_PVTX l) = id.vtx.toNat ∧
              u.get (R.LNK_STAT_PSWITCH l) = id.isSwitch.toNat) ∧
          (s.partnerOk l id = false → Leads (.linkTrainingStage l id) s fun u =>
            u.get (R.LNK_STAT_STATE l) = 8 ∧ u.get R.FAB_EVT_MISWIRE = 1)) ∧
        (s.get (R.LNK_STAT_STATE l) = 5 → linkSpare l = false → (s.lnk l).misAt = none → (s.lnk l).takenBy = none →
          (∀ f ∈ dirLinks (linkDir l), (s.lnk f).takenBy ≠ some l.val) → Leads (.linkTrainingStage l id) s fun u =>
          u.get (R.LNK_STAT_STATE l) = 6 ∧ u.get (R.LNK_STAT_USE l) = 1)) ∧
      (∀ t0, (s.lnk l).trainAt = some t0 → 1 ≤ s.get (R.LNK_STAT_STATE l) → s.get (R.LNK_STAT_STATE l) ≤ 5 → t0 + usTicks 20000 ≤ s.now →
        Leads (.linkTrainingLimit l) s fun u => u.get (R.LNK_STAT_STATE l) = 7 ∧ u.get R.FAB_EVT_LINK_FAIL = 1)) ∧
    (∀ t0 t, (s.lnk l).misAt = some (t0, t) →
      (s.get (R.LNK_STAT_STATE l) = 8 → t + usTicks 100000 ≤ s.now → Leads (.miswiredRetry l) s fun u =>
        u.get (R.LNK_STAT_STATE l) = 1 ∧ (u.lnk l).trainAt = some s.now ∧ u.fab = s.fabCfg ∧ OtherLinks l.val s u) ∧
      (s.get (R.LNK_STAT_STATE l) ≠ 7 → t0 + usTicks 1000000 ≤ s.now → Leads (.miswiredLimit l) s fun u =>
        u.get (R.LNK_STAT_STATE l) = 7 ∧ u.get R.FAB_EVT_LINK_FAIL = 1)) ∧
    (s.get (R.LNK_STAT_STATE l) = 6 →
      (∀ id : PartnerId, Leads (.mgmt l (.identity id)) s fun u =>
        u.get (R.LNK_STAT_PLINK l) = id.link.toNat ∧ u.get (R.LNK_STAT_PVTX l) = id.vtx.toNat ∧
          u.get (R.LNK_STAT_PSWITCH l) = id.isSwitch.toNat ∧
          OnlyRegs [R.LNK_STAT_PLINK l, R.LNK_STAT_PVTX l, R.LNK_STAT_PSWITCH l] s u) ∧
      (∀ d : BitVec 24, Leads (.mgmt l (.delay d)) s fun u => u.get (R.LNK_DELAY_DELAY l) = d.toNat ∧ OnlyRegs [R.LNK_DELAY_DELAY l] s u) ∧
      (∀ f : LinkIx, linkDir f = linkDir l → s.linkWorks f = true → s.get (R.LNK_STAT_USE l) = 2 → Leads (.mgmt l (.adopt f)) s fun u =>
        u.get (R.LNK_STAT_STATE f) = 7 ∧ u.get R.FAB_EVT_LINK_FAIL = 1) ∧
      (∀ t1 t2 t3 t4 : Nat, l.val < 48 → Leads (.delayMeasurement l t1 t2 t3 t4) s fun u =>
        u.get (R.LNK_DELAY_DELAY l) = unsx 24 ((((t4 : Int) - t1) - ((t3 : Int) - t2)) / 2) ∧ OnlyRegs [R.LNK_DELAY_DELAY l] s u))

/-- Fabric links train and deliver their flits in order: LinksDeliverInOrderRule and LinksTrainRule. -/
def Obligations.LinksTrainAndDeliverInOrder : Prop := LinksDeliverInOrderRule ∧ LinksTrainRule

/-- FABRIC_WRITE, FABRIC_READ, FABRIC_SIG, WACK and WNAK for this device: an admitted WRITE enters the lattice as a WRITE of the same bytes and signal, in DUAL also for the odd copy of an even tile (R447; DEDUCED, log entry 91), its ACKREQ answered by WACK (R265, R266); one with another slice identity or generation is refused and counted (R266); a READ of REF is answered with the bytes, held while its stack is not READY, and refused outside REF with RDERR (R190, R192, R268); a SIG goes on as a SIGNAL or RESET (R269); WACK completes its descriptor, WNAK stops its channel with code LINK (R267). An answer shorter than a flit waits on its link for more to share the flit with, or for the next tick (R256). -/
def Obligations.FabricPacketsReachTheirAgents : Prop :=
  ∀ (s : State) (p : FabPkt), 
    let waits (l : Nat) (q : FabPkt) (u : State) : Prop := u.lnk l = { s.lnk l with wait := [.pkt q] } ∧ OtherLinks l s u
    (FromSlice s p → p.space = 0 → p.dnode.toNat < 256 → (s.tile (s.siteOf p.dnode.toNat)).fenced = false →
      lineFits 0 (fabSpan p).1 (fabSpan p).2 = true →
        let same (w : LatPkt) : Prop :=
          w.addr = p.addr ∧ w.words = p.words ∧ w.data = p.data ∧ w.dest = p.dnode ∧ w.owner = p.owner ∧ w.sa = p.sa ∧ w.sigH = p.sigH ∧
            w.sigN = p.sigN ∧ w.firstOff = p.firstOff ∧ w.lastLen = p.lastLen
        (p.ackreq = false → s.dual = true → p.dnode.toNat % 2 = 0 → Leads (.fabricWrite false p) s fun u =>
          ∃ m w v k, Injected 0 w k s m ∧ same w ∧ Injected 0 v (some (0, 0, 0)) m u ∧ v.dest.toNat = p.dnode.toNat + 1 ∧ v.addr = p.addr ∧
            v.words = p.words ∧ v.data = p.data ∧ v.owner = p.owner) ∧
        (s.dual = false ∨ p.dnode.toNat % 2 = 1 → p.ackreq = false → Leads (.fabricWrite false p) s fun u =>
          (∃ w, Injected 0 w (some (0x2000 + p.tag.toNat, p.svtx.toNat + 2 ^ 12 * p.spod.toNat, 0)) s u ∧ same w) ∧
            u = { s with out := u.out, lat := u.lat, latHold := u.latHold }) ∧
        (∀ d l, s.dual = false ∨ p.dnode.toNat % 2 = 1 → p.ackreq = true → s.routeFrom s.ownVtx p.svtx.toNat = some d → OneLink s d l → Leads (.fabricWrite false p) s fun u =>
          ∃ w tr q, Injected 0 w tr s u ∧ same w ∧ waits l q u ∧ q.op = 3 ∧ q.dvtx = p.svtx ∧ q.tag = p.tag)) ∧
    (p.dpod.toNat = s.ownPod → p.dvtx.toNat = s.ownVtx → p.spod.toNat = s.ownPod →
      (∀ b, s.fbind = some b → p.sliceId ≠ b.sliceId ∨ p.bgen ≠ b.bgen ∨ inSlice b p.svtx.toNat = false) →
        Leads (.fabricWrite false p) s fun u =>
          Counted R.FAB_STALE_CNT 1 s u ∧ u.get R.FAB_EVT_STALE = 1 ∧ Counted R.WNAK_CNT 1 s u ∧ u.sp = s.sp ∧ u.stk = s.stk ∧
            u.lat = s.lat ∧ u.latHold = s.latHold) ∧
    (∀ (spine : Bool) d l, p.dpod.toNat = s.ownPod → p.dvtx.toNat = s.ownVtx → p.spod.toNat = s.ownPod →
      s.routeFrom s.ownVtx p.svtx.toNat = some d → OneLink s d l → 1 ≤ p.words → p.words ≤ 8 →
        let a := p.addr.toNat / 64 * 64
        let inRef : Prop := p.space = 1 ∧ stackBad a = false ∧ 64 * 2 ^ 20 ≤ stackOff a ∧ stackOff a + 64 * p.words ≤ 112 * 2 ^ 20
        (inRef → s.get (R.MC_STAT_STATE (stackOf a)) = 3 → (s.sec (stackOf a)).bad = [] →
          Leads (.fabricRead spine p) s fun u =>
            (∃ q, q.op = 5 ∧ q.dvtx = p.svtx ∧ q.tag = p.tag ∧ q.data = s.stkBytes a (64 * p.words) ∧ (p.words ≤ 2 → waits l q u) ∧
              (TxItem.pkt q ∈ (u.lnk l).wait ∨ u.out.count (.fab l q) = s.out.count (.fab l q) + 1)) ∧ u.stk = s.stk) ∧
        (inRef → s.get (R.MC_STAT_STATE (stackOf a)) ≠ 3 → Leads (.fabricRead spine p) s fun u =>
          (u.sec (stackOf a)).held = (s.sec (stackOf a)).held ++ [.fab spine p] ∧ Counted (R.SR_HELD_CNT (stackOf a)) p.words s u ∧
            u = { s with regs := u.regs, secs := u.secs }) ∧
        (p.space ≠ 1 ∨ stackOff a < 64 * 2 ^ 20 ∨ 112 * 2 ^ 20 < stackOff a + 64 * p.words →
          Leads (.fabricRead spine p) s fun u =>
            (∃ q, waits l q u ∧ q.op = 6 ∧ q.reason = 5 ∧ q.tag = p.tag) ∧ Counted R.WNAK_CNT 1 s u ∧ u.stk = s.stk)) ∧
    (p.dpod.toNat = s.ownPod → p.dvtx.toNat = s.ownVtx →
      (∀ spine : Bool, Leads (.fabricSig spine p) s fun u =>
        Posted (0x160 + 2 * p.via.val) (stopNode p.sigH) clSIG (.sig p.sigH (if p.addr.toNat % 4 = 3 then 3 else 0) p.sigN none) s u ∧
          u = { s with out := u.out, tan := u.tan }) ∧
      (∀ c k d t, tagChan p.tag = some (c, k) → (s.chan c).slots = [(k, d, t)] →
        (t.isSome = true → Leads (.wack p) s fun u =>
          u.chan c = { s.chan c with slots := [] } ∧ (∀ c', c' ≠ c → u.chan c' = s.chan c') ∧ Counted R.DESC_CNT 1 s u ∧
            RegsBut [R.DESC_CNT] s u ∧ u = { s with regs := u.regs, chans := u.chans }) ∧
        (ChainOwn s c → Leads (.wnak p) s fun u => ChanErrs c 8 s u ∧ (u.chan c).slots = [])))

/-- BEACON, BEACON_TRANSMIT, HOLDOVER, STEP_MARK and STEP_MARK_APPLY: a beacon every 512 ticks carries the time, the last mark and whether the device is LOCKED (R273); an offset of the LOCKED parent is one of 16 averaged, the first average stepping the counter (R274), while a parent that is not LOCKED leads to HOLDOVER (R275); a mark brought is kept, a late one counted and applied at once (R276); 16 intervals without the parent's beacon lead to HOLDOVER (R275); a mark written on the root is clamped to follow the last one by 1 and to lead by LEAD_MIN, and is discarded when 8 are pending (R276); the step counter becomes n when the time counter has reached T (R276). -/
def Obligations.TimeIsAlignedAndMarksApply : Prop :=
  ∀ s : State, 
    (∀ l : LinkIx, l.val < 48 → s.get (R.LNK_STAT_STATE l) = 6 →
      ((s.lnk l).beaconAt + 512 ≤ s.now → (s.lnk l).wait = [] → (s.lnk l).sent.getD 3 0 = 0 → 0 < (s.lnk l).credit.getD 3 0 →
        (s.lnk l).replay.length < 128 → Leads (.beaconTransmit l) s fun u =>
        (∃ b bytes, u.out = s.out ++ [.flit l bytes, .beacon l b] ∧ bytes.length = 256 ∧ b.time = BitVec.ofNat 64 s.tm.time ∧ b.markN = BitVec.ofNat 48 s.tm.lastMark.1 ∧
          b.markT = BitVec.ofNat 64 s.tm.lastMark.2 ∧ b.step = BitVec.ofNat 48 (s.get R.STEP_NOW_N) ∧
          b.locked = decide (s.get R.TC_STAT_STATE = 2)) ∧
        (u.lnk l).beaconAt = s.now ∧ (u.lnk l).wait = [] ∧ (u.lnk l).replay.length = (s.lnk l).replay.length + 1 ∧ OtherLinks l.val s u ∧
        Counted (R.FLIT_TX l) 1 s u ∧ RegsBut [R.FLIT_TX l] s u ∧
        u = { s with lnks := u.lnks, out := u.out, regs := u.regs, fbind := s.bind }) ∧
      (∀ b : Beacon, s.beaconUsed l b = true → s.tm.marks.length < 8 →
        let off := s.beaconOffset l b
        (b.locked = false → b.markN.toNat ≤ s.tm.lastMark.1 → Leads (.beacon l b) s fun u => u.get R.TC_STAT_STATE = 3 ∧ u.tm.offs = [] ∧ u.tm.near = 0 ∧ u.tm.slew = s.tm.slew) ∧
        (b.locked = true → s.tm.offs.length < 15 → s.tm.lastMark.1 < b.markN.toNat →
          (s.tm.time < b.markT.toNat → Leads (.beacon l b) s fun u =>
            Counted (R.BEACON_RX l) 1 s u ∧ u.tm.offs = s.tm.offs ++ [off] ∧ u.tm.time = s.tm.time ∧ u.tm.lastBeacon = s.now ∧
              u.tm.near = (if off.natAbs ≤ 30 then s.tm.near + 1 else 0) ∧
              u.tm.marks = s.tm.marks ++ [(b.markN.toNat, b.markT.toNat)] ∧ u.tm.lastMark = (b.markN.toNat, b.markT.toNat)) ∧
          (b.markT.toNat ≤ s.tm.time → s.ws.switch = none → s.serve.reqs = [] → Leads (.beacon l b) s fun u =>
            Counted R.MARK_LATE_CNT 1 s u ∧ u.get R.STEP_NOW_N = b.markN.toNat ∧ u.tm.marks = s.tm.marks)) ∧
        (b.locked = true → s.tm.offs.length = 15 → s.tm.locked1 = false → b.markN.toNat ≤ s.tm.lastMark.1 → Leads (.beacon l b) s fun u =>
          u.tm.time = (((s.tm.time : Int) + (s.tm.offs.sum + off) / 16 / 8) % 2 ^ 64).toNat ∧ u.tm.offs = [] ∧
            Counted R.TC_STEP_CNT 1 s u))) ∧
    (s.parentDir.isSome = true → s.tm.lastBeacon + 8192 ≤ s.now → s.get R.TC_STAT_STATE ≠ 3 → Leads .holdover s fun u =>
      u.get R.TC_STAT_STATE = 3 ∧ u.get R.FAB_EVT_HOLDOVER = 1 ∧ Raised (fun e => e.kind = 0x13) s u ∧
        RegsBut [R.TC_STAT_STATE, R.FAB_EVT_HOLDOVER] s u ∧ u = { s with regs := u.regs, out := u.out, tan := u.tan }) ∧
    (∀ (src : Partner) (v : BitVec 128), Passes src 0x5028 s → s.standB (srcCode src) 0x5028 = none → s.isIngress = true →
      (src = .firmware → s.fwMark v.toNat = true) →
      let n := v.toNat % 2 ^ 48
      let t := v.toNat / 2 ^ 64
      let lead := s.tm.time + usTicks (s.get R.TC_CTL_LEAD_MIN)
      let n' := if n ≤ s.tm.lastMark.1 then s.tm.lastMark.1 + 1 else n
      let t' := if t ≤ s.tm.lastMark.2 ∨ t < lead then max (s.tm.lastMark.2 + 1) lead else t
      Leads (.stepMark src v) s fun u =>
        u.tm = (if s.tm.marks.length < 8 then { s.tm with marks := s.tm.marks ++ [(n', t')], lastMark := (n', t') } else s.tm)) ∧
    (∀ n t, s.tm.marks = [(n, t)] → t ≤ s.tm.time → n < 2 ^ 48 → s.ws.switch = none → s.serve.reqs = [] →
      Leads .stepMarkApply s fun u =>
        u.get R.STEP_NOW_N = n ∧ u.tm = { s.tm with marks := [] } ∧ RegsBut [R.STEP_NOW_N] s u ∧ u.serve.mark = some t)

/-! ### Set-up registers -/

/-- Nothing but fields of registers, what their accesses leave behind them and what is sent differs. -/
def Sys2Proof.Machine.SetOnly (s u : State) : Prop := u = { s with regs := u.regs, latch := u.latch, wrB := u.wrB, out := u.out }

/-- A write `v` by `src` at `off` of which port B has not written the register in the same cycle (R285). -/
def Sys2Proof.Machine.Alone (src : Partner) (off : Nat) (s : State) : Prop := Passes src off s ∧ s.standB (srcCode src) off = none

/-- A write of command `i` to a clear register at `off` with CLR 1 zeroes the counters of `l` and changes no other field but the count of tangent messages that carry it. -/
def Sys2Proof.Machine.Clears (i : Instr) (src : Partner) (off : Nat) (v : BitVec 32) (l : List FRef) (s : State) : Prop :=
  Alone src off s → Leads i s fun u =>
    (∀ f ∈ l, u.get f = 0) ∧ RegsBut (R.TAN_MSG_CNT :: l) s u ∧ SetOnly s u ∧ (off < 0xC00000 → u.out = s.out) ∧
      (0xC00000 ≤ off → u.out = s.out ++ [.ctrl off 4 v.toNat, .crsp off])

/-- ASEQ_CNT_CLR, RQU_CNT_CLR, TILE_CNT_CLR, MC_CNT_CLR, NET_CNT_CLR, SYNC_CNT_CLR, DMA_CNT_CLR, LNK_CNT_CLR, FAB_CNT_CLR, HQ_CNT_CLR, SERVE_CNT_CLR, WSTORE_CNT_CLR, PWR_CNT_CLR, HK_CNT_CLR, FLT_CNT_CLR, SECU_CNT_CLR and MGMT_CNT_CLR: CLR = 1 zeroes every counter of its block and nothing else (R49, R84, R119, R195, R220, R250, R252, R278, R318, R353, R389, R425, R455, R478). -/
def Obligations.CounterClearsZeroTheirBlock : Prop :=
  ∀ (src : Partner) (v : BitVec 32) (s : State), v.toNat % 2 = 1 →
    (∀ t : Site,
      Clears (.aseqCntClr src t v) src (tileOff t 0x2018) v (ctrSeqAll t.val) s ∧
      Clears (.rquCntClr src t v) src (tileOff t 0x2100) v (ctrRqu t.val) s ∧
      Clears (.tileCntClr src t v) src (tileOff t 0x5C) v (ctrTile t.val) s) ∧
    (∀ n : Sector, Clears (.mcCntClr src n v) src (0x1004028 + 0x10000 * n.val) v (ctrMc n.val) s) ∧
    Clears (.netCntClr src v) src 0x400C v ctrNetAll s ∧
    Clears (.syncCntClr src v) src 0x50001C v ctrSync s ∧
    Clears (.dmaCntClr src v) src 0x60000C v (ctrDma ++ ctrBytes) s ∧
    (∀ l : LinkIx, Clears (.lnkCntClr src l v) src (0xC0001C + 0x1000 * l.val) v (ctrLnk l.val) s) ∧
    Clears (.fabCntClr src v) src 0x5040 v ctrFab s ∧
    (∀ p : Port, Clears (.hqCntClr src p v) src (0x601C + 0x100 * p.val) v (ctrHq p.val) s) ∧
    Clears (.serveCntClr src v) src 0x700020 v ctrServe s ∧
    Clears (.wstoreCntClr src v) src 0x800074 v ctrWs s ∧
    Clears (.pwrCntClr src v) src 0x100034 v ctrPwr s ∧
    Clears (.hkCntClr src v) src 0x200034 v ctrHk s ∧
    Clears (.fltCntClr src v) src 0xA01C v ctrFlt s ∧
    Clears (.secuCntClr src v) src 0x30000C v ctrSecu s ∧
    Clears (.mgmtCntClr src v) src 0x400008 v ctrMgmt s

/-- REGISTER_WRITE, SPEVT_SP_OWNER_CLEAR, MC_EVT_UE_CLEAR, FAB_CFG_SAVE and DEBUG_ACCESS: a write of a register whose fields hold any value gives each writable field its bits of the value, and clears the event bits written as 1 (R10, R284, R290); writing an event re-arms its capture (R95, R194); SAVE asks for the configuration-area write of TOP.FAB_CFG (R277); before step 4 a write outside TOP, and a write while another partner holds the lock, changes only the clamp log and its events, NOT_READY or LOCKED (R286, R292, R294); a partner that does not reach the register changes nothing (R316); MB_STAT.DONE of a port's mailbox, written as 1, clears (R477); the debug port reaches scratchpad and tile registers while UNLOCKED, and nothing while LOCKED (R471). Stated where port B has not written the register in the same cycle (R285). -/
def Obligations.SetUpWritesApplyOrAreDiscarded : Prop :=
  ∀ (src : Partner) (s : State),
    (∀ (off v : Nat) (r : RDesc), off % 4 = 0 → off ≠ 0x4000 → regFind off regTable = some (r, 0) → r.bytes = 4 →
      (∀ d ∈ r.fields, d.rule = .any) → (r.fields.map fun d => d.lsb).Nodup → s.discards off = false → ownWrite off = false → aqGroup off = none →
      (∀ s' : State, s'.regHook src off (v % 2 ^ 32) = s') → Alone src off s → Leads (.registerWrite src off 4 v) s fun u =>
        let fld (d : FDesc) : FRef := ⟨off, d.lsb, d.w, d.rst⟩
        (∀ d ∈ r.fields, (d.acc = .rw → u.get (fld d) = bits (v % 2 ^ 32) d.lsb d.w) ∧
          (d.acc = .w1c → u.get (fld d) = s.get (fld d) &&& (2 ^ d.w - 1 - bits (v % 2 ^ 32) d.lsb d.w))) ∧
        RegsBut (R.TAN_MSG_CNT :: r.fields.map fld) s u ∧ SetOnly s u ∧ Told off 4 (v % 2 ^ 32) s u) ∧
    (∀ (off v : Nat), off % 4 = 0 → src ≠ .firmware → s.reaches src off = true → (0x100000 ≤ off ∧ s.get R.STATE_STEP < 4) ∨
        (off ≠ 0x34 ∧ off ≠ 0x20 ∧ off ≠ 0x28 ∧ s.get R.SETUP_LOCK_HOLDER ≠ 0 ∧ s.get R.SETUP_LOCK_HOLDER ≠ lockCode src) →
      Leads (.registerWrite src off 4 v) s fun u =>
        u.get R.CLAMP_HEAD_TOTAL = (s.get R.CLAMP_HEAD_TOTAL + 1) % 2 ^ 32 ∧
          RegsBut [R.CLAMP_LOG_ENTRY (s.get R.CLAMP_HEAD_NEXT), R.CLAMP_HEAD_NEXT, R.CLAMP_HEAD_TOTAL, R.HEVT_CLAMP 0, R.HEVT_CLAMP 1,
            R.MSIX_CNT 0, R.MSIX_CNT 1] s u ∧
          u = { s with regs := u.regs, out := u.out, ports := u.ports }) ∧
    (∀ (off size v : Nat), s.reaches src off = false → exec (.registerWrite src off size v) s = .next s) ∧
    (∀ (p v : Nat), portOf src = some p → s.portOn p = true → v / 2 % 2 = 1 → Leads (.registerWrite src 4 4 v .bar4) s fun u =>
      (sget Mailbox.init u.secu.mbox p).done = false ∧ (∀ q, q ≠ p → sget Mailbox.init u.secu.mbox q = sget Mailbox.init s.secu.mbox q) ∧
        u = { s with secu := u.secu }) ∧
    (∀ (t : Site) (v : BitVec 32), Alone src (tileOff t 0x1C) s → v.toNat % 2 = 1 → Leads (.spevtSpOwnerClear src t v) s fun u =>
      u.get (R.SPERR_VALID t.val) = 0 ∧ u.get (R.SPEVT_SP_OWNER t.val) = 0 ∧ SetOnly s u) ∧
    (∀ (n : Sector) (v : BitVec 32), Alone src (0x1004010 + 0x10000 * n.val) s → v.toNat / 2 % 2 = 1 → Leads (.mcEvtUeClear src n v) s fun u =>
      u.get (R.UE_ADDR_VALID n.val) = 0 ∧ u.get (R.MC_EVT_UE n.val) = 0 ∧ SetOnly s u) ∧
    (∀ v : BitVec 64, Alone src 0x5000 s → Leads (.fabCfgSave src v) s fun u =>
      u.get R.FAB_CFG_VX = v.toNat % 16 ∧ u.get R.FAB_CFG_VY = v.toNat / 16 % 16 ∧ u.get R.FAB_CFG_VZ = v.toNat / 256 % 16 ∧
        u.get R.FAB_CFG_TX1 = v.toNat / 2 ^ 12 % 16 ∧ u.get R.FAB_CFG_TY1 = v.toNat / 2 ^ 16 % 16 ∧ u.get R.FAB_CFG_TZ1 = v.toNat / 2 ^ 20 % 16 ∧
        u.get R.FAB_CFG_ROLE = v.toNat / 2 ^ 24 % 2 ∧ u.get R.FAB_CFG_POD = v.toNat / 2 ^ 32 % 2 ^ 12 ∧ u.fab = s.fab ∧
        (if v.toNat / 2 ^ 63 = 1 then ∃ t t', (HuItem.fab u.fabCfg, t, t') ∈ u.hu else u.hu = s.hu)) ∧
    (∀ (t : Site) (a : BitVec 21) (b : Byte), 
      (s.get R.SECU_STAT_DEBUG = 1 →
        Leads (.debugAccess (.scratch t a none)) s (fun u => u = { s with out := s.out ++ [.debugData (sget 0 s.sp (spKey t a.toNat)).toNat] }) ∧
        Leads (.debugAccess (.scratch t a (some b))) s (fun u => MemAfter t [(a.toNat, [b])] s u ∧ u = { s with sp := u.sp }) ∧
        Leads (.debugAccess (.tileReg t 0x40 none)) s (fun u =>
          u = { s with out := s.out ++ [.debugData (s.get (R.VC_PC_PC t.val) * 8 % 2 ^ 32)] })) ∧
      (s.get R.SECU_STAT_DEBUG ≠ 1 → ∀ x, Leads (.debugAccess x) s fun u => u = s))

/-! ### Supplies, start-up, power, sensing -/

/-- What boot leads to from the configuration area of `s`: the selected image runs at the end of step 4, debug LOCKED; or the step has failed with cause STARTUP (R400, R456, R458). -/
def Sys2Proof.Machine.Booted (s u : State) : Prop :=
  match (if Config.romGood then s.cfg.boot.order.find? fun i => imgOk s.cfg.boot (s.image i) else none) with
  | some i => u.get R.STATE_STATE = 2 ∧ u.get R.STATE_STEP = 4 ∧ u.get R.SECU_STAT_DEBUG = 0 ∧ (i < 2 → u.get R.SECU_STAT_IMAGE = i)
  | none => u.get R.STATE_STATE = 4 ∧ u.get R.FLT_CAUSE_CAUSE = 0xB ∧ u.board.faultN = true

/-- Everything volatile is as after reset; the configuration area is kept (R287). -/
def Sys2Proof.Machine.Wiped (s u : State) : Prop :=
  u.sp = [] ∧ u.stk = [] ∧ u.tiles = [] ∧ u.objs = [] ∧ u.chans = [] ∧ u.lnks = [] ∧ u.lat = [] ∧ u.latHold = [] ∧ u.serve = Serve.init ∧ u.ws = WStore.init ∧
    u.bind = none ∧ u.fbind = none ∧
    u.cfg = s.cfg ∧ u.pending = s.pending

/-- Everything volatile is as after reset; the arrays and the configuration area are kept (R287). -/
def Sys2Proof.Machine.Cleared (s u : State) : Prop := Wiped s u ∧ u.cells = s.cells

/-- The supplies are gone: everything volatile is as after reset, and of the arrays only cells of a plane that was being programmed may have changed (R417, R489). -/
def Sys2Proof.Machine.CutShort (s u : State) : Prop :=
  Wiped s u ∧ ∀ x, sget 128 u.cells x ≠ sget 128 s.cells x → ∃ (t : Site) (a : ArrIx) (p : ProgRun) (row col : Nat),
    ((s.tile t).ctl a.val).prog = some p ∧ row < 132 ∧ col ∈ (match p.only with | some c => [512 + c] | none => List.range 528) ∧
      x = cellKey t a p.plane row col

/-- SUPPLY_RAMP, PWR_REQ_RELEASE, RAILS_PG_ASSERT, RAILS_PG_TIMEOUT, POWER_ON_RESET_RELEASE, RAILS_PG_DEASSERT, SYS_RST_N, RST_CTL and LASER_EN_N: a supply ramp keeps the arrays and the configuration area alone (R287, R488); PWR_REQ is released after 1 ms, RAILS_PG answers it within 50 ms or step 1 fails (R488); 1 ms later the straps are sampled and the boot ROM runs (R279, R400, R488); supplies withdrawn stop the part, a plane being programmed left undefined (R489); a device reset boots again with everything volatile lost, by pin or by the key in TOP.RST_CTL (R287, R288); the lasers follow their pin (R498). -/
def Obligations.SuppliesAndResetsRestartThePart : Prop :=
  ∀ s : State,
    Leads .supplyRamp s (fun u => Cleared s u ∧ u.board = { Board.init with aonAt := some s.now, laserOff := s.board.laserOff } ∧
      RegsBut [R.POWERED_S_S] State.reset u ∧ u.get R.POWERED_S_S = s.cfg.powered % 2 ^ 32) ∧
    (∀ t, s.board.aonAt = some t → s.board.pwrReq = none → s.board.pgFailed = false → t + msTicks 1 ≤ s.now →
      Leads .pwrReqRelease s fun u => u = { s with board := { s.board with pwrReq := some s.now } }) ∧
    (∀ t, s.board.pwrReq = some t → s.board.railsPg = none →
      (s.now ≤ t + msTicks 50 → Leads .railsPgAssert s fun u => u = { s with board := { s.board with railsPg := some s.now } }) ∧
      (t + msTicks 50 ≤ s.now → s.get R.STATE_STATE ≠ 4 → Leads .railsPgTimeout s fun u =>
        u.get R.STATE_STATE = 4 ∧ u.get R.FLT_CAUSE_CAUSE = 0xB ∧ u.get R.FLT_CAUSE_VALID = 1 ∧ u.get R.STATE_STEP = s.get R.STATE_STEP ∧
          u.board = { s.board with pwrReq := none, pgFailed := true, faultN := true })) ∧
    (∀ (t : Nat) (hb : Bool) (ma : BitVec 2), s.board.railsPg = some t → s.board.por = false → t + msTicks 1 ≤ s.now → s.get R.STATE_STATE ≠ 4 →
      Leads (.powerOnResetRelease hb ma) s fun u =>
        u.board.por = true ∧ u.board.x8 = hb ∧ u.board.mgmtAddr = ma.toNat ∧ u.get R.STATE_MODE = hb.toNat ∧ Booted s u) ∧
    (s.board.railsPg.isSome = true → Leads .railsPgDeassert s fun u =>
      CutShort s u ∧ u.board.por = false ∧ u.board.pwrReq = none ∧ u.board.railsPg = none ∧ u.ports = [] ∧ u.get R.PWR_STAT_TRIPPED = 0) ∧
    (s.board.por = true →
      Leads .sysRstN s (fun u => Cleared s u ∧ Booted s u ∧ u.board.por = true ∧ u.get R.POWERED_S_S = s.get R.POWERED_S_S % 2 ^ 32) ∧
      (∀ (src : Partner) (v : BitVec 32), Alone src 0x30 s → v.toNat % 2 ^ 16 = 0xA5C3 → Leads (.rstCtl src v) s fun u => Cleared s u ∧ Booted s u)) ∧
    (∀ (src : Partner) (v : BitVec 32), Alone src 0x30 s → v.toNat % 2 ^ 16 ≠ 0xA5C3 → Leads (.rstCtl src v) s fun u =>
      u.get R.CLAMP_HEAD_TOTAL = (s.get R.CLAMP_HEAD_TOTAL + 1) % 2 ^ 32 ∧
        u = { s with regs := u.regs, out := u.out, ports := u.ports, wrB := u.wrB }) ∧
    (∀ high : Bool, Leads (.laserEnN high) s fun u => u = { s with board := { s.board with laserOff := high } })

/-- ROOT_PLL_LOCK, TILE_SELF_TEST_COMPLETE, READY, STARTUP_STEP_TIMEOUT and CLK_FAIL: the lock of the root PLL ends step 5 with TIME and CYCLE from 0 and asks for TRIES (R401, R459); step 8 ends with every scratchpad zero and the sites that hold no logical tile in P2 (R400, R398); step 9 ends in READY, the lattice in the mode selected, when every stack is READY, the links suffice and every logical tile has a site (R402); a step beyond its limit has failed (R400); losing the root clock after step 5 stops every tile clock and the device (R396). -/
def Obligations.StartUpRunsItsSteps : Prop :=
  ∀ s : State,
    (s.get R.STATE_STATE = 2 → s.get R.STATE_STEP = 4 → Leads .rootPllLock s fun u =>
      u.get R.STATE_STEP = 5 ∧ u.get R.PWR_STAT_PLL_LOCK = 1 ∧ u.get R.PWR_STAT_CLK_SRC = 1 ∧ u.tm.time = 0 ∧ u.cycle0 = some s.now ∧
        (∃ t t', (HuItem.tries, t, t') ∈ u.hu)) ∧
    (s.get R.STATE_STATE = 2 → s.get R.STATE_STEP = 7 → (∀ n t0, s.pw.wake = some (n, t0) → 32 ≤ n) → s.cfg.remap = [] →
      (∀ n, n < 32 → sget 0 s.cfg.spares n ≠ 2) → s.homeless = [] → Leads (.tileSelfTestComplete []) s fun u =>
        u.get R.STATE_STEP = 8 ∧ u.sp = [] ∧ (∀ t : Site, s.logicalOf t.val = none → (u.tile t).pstate = 2) ∧
          ∀ t : Site, s.logicalOf t.val ≠ none → u.tile t = s.tile t) ∧
    (s.get R.STATE_STATE = 2 → s.get R.STATE_STEP = 8 → s.get R.LAT_STAT_SWITCHING = 0 → s.cfg.table = [] → s.cfg.record = none →
      s.serve.was = false → (∀ n, n < 32 → s.get (R.MC_STAT_STATE n) = 3) → s.linksEnough = true → s.homeless = [] →
        s.get R.LAT_CTL_MODE_REQ < 2 → Leads .ready s fun u =>
          u.get R.STATE_STATE = 3 ∧ u.get R.STATE_STEP = 10 ∧ u.get R.LAT_STAT_MODE = s.get R.LAT_CTL_MODE_REQ ∧
            (∃ t t', (HuItem.commit, t, t') ∈ u.hu)) ∧
    (∀ n, s.get R.STATE_STATE = 2 → stepLimit (s.get R.STATE_STEP) = some n → s.pw.stepAt + usTicks n ≤ s.now → Leads .startupStepTimeout s fun u =>
      u.get R.STATE_STATE = 4 ∧ u.get R.FLT_CAUSE_CAUSE = 0xB ∧ u.get R.STATE_STEP = s.get R.STATE_STEP ∧ u.board.faultN = true) ∧
    (5 ≤ s.get R.STATE_STEP → s.get R.PWR_STAT_PLL_LOCK ≠ 0 → s.ws.load = none → s.ws.jobs = [] → s.serve.was = false →
      Leads .clkFail s fun u =>
        (∀ t : Site, (u.tile t).clkOff = true) ∧ u.get R.PWR_STAT_PLL_LOCK = 0 ∧ u.get R.PWR_STAT_CLK_SRC = 0 ∧ u.get R.PWR_EVT_CLK_FAIL = 1 ∧
          u.get R.STATE_STATE = 4)

/-- RAIL_TELEMETRY, VDD_CORE_TARGET_UPDATE, BUDGET_PERIOD, PROFILE_CHANGE_COMPLETE, SECTOR_WAKE, TILE_P2_ENTRY, TILE_P2_EXIT, PROG_EN_IDLE, DROOP, DROOP_END, DROOP_CTL_WRITE and DROOP_CAPTURE_END: package power shows in watts (R391), and the energies estimated since the last reading are scaled to what was measured (R404; without an estimate the scale stays, DESIGN CHOICE, log entry 85); the VDD_CORE target follows the highest reading and the guard in 5 mV steps, 10 mV at a time, within 0.60 V to 0.90 V (R391, R392); the tile pool is what the fixed share leaves, cut by 5 percent more in a period above the budget (R403, R407), a parked tile lending all but P1_MW (R405); a profile change in place counts, bias and assist following the voltages of a rise, the voltages the bias of a fall (R393); sectors leave P2 in turn (R399); an idle tile enters P2 with its banks in retention and leaves it with those waking whose SPRET bit is 0, a core started meanwhile then running (R104, R112, R397, R398); PROG_EN goes low after 1 ms (R490); a droop stretches its sector's clock for 1 microsecond and starts an armed capture, one in a round, which ends disarmed and counted (R394, R411). -/
def Sys2Proof.Machine.PowerFollowsItsBudgetRule : Prop :=
  ∀ s : State,
    (∀ mw : List Nat, mw.length = 9 → Leads (.railTelemetry mw) s fun u =>
      u.get R.PWR_STAT_POWER_W = min 1023 (mw.sum / 1000) ∧ RegsBut [R.PWR_STAT_POWER_W] s u ∧
        u = { s with regs := u.regs, pw := { s.pw with
          mw := mw, pkg := (mw.sum :: s.pw.pkg).take 100, spent := 0,
          scale := if s.pw.spent = 0 then s.pw.scale else (1000000 * (mw.getD 1 0 + mw.getD 2 0 + mw.getD 4 0), s.pw.spent) } }) ∧
    (∀ mv : List Nat, mv.length = 32 → 5 ≤ s.get R.STATE_STEP → s.get R.STATE_PSTATE < 3 → Leads (.vddCoreTargetUpdate mv) s fun u =>
      let want := max 600 (min 900 ((mv.foldl max 0 + guardMv (s.get R.PWR_STAT_PROFILE) + 4) / 5 * 5))
      let new := max (s.pw.coreMv - 10) (min (s.pw.coreMv + 10) want)
      u.pw.coreMv = new ∧ u.out = s.out ++ (if new = s.pw.coreMv then [] else [.avs 0 new]) ∧ u = { s with pw := u.pw, out := u.out }) ∧
    (let budget := 1000 * s.get R.BUDGET_BUDGET_W
      let pool := budget - s.fixedMw
      (100 * s.pw.mw.sum ≤ 102 * budget → s.pw.overB = false → ∀ l : List Site,
        let base := pool * (100 - (s.pw.cut - 1)) / 100 / 256
        (s.lendFrozen = true → Leads (.budgetPeriod l) s fun u =>
          u = { s with pw := { s.pw with pool := pool, base := base, cut := s.pw.cut - 1, overB := false, lent := [] } }) ∧
        (s.lendFrozen = false → l = [] → Leads (.budgetPeriod l) s fun u =>
          u.pw.base = base ∧ ∀ k, k < 256 → (s.tile (s.siteOf k)).pstate = 1 →
            sget 0 u.pw.lent (s.siteOf k).val = min base (s.get R.LEND_CFG_P1_MW) + 1)) ∧
      (102 * budget < 100 * s.pw.mw.sum → s.lendFrozen = true → ∀ l : List Site, Leads (.budgetPeriod l) s fun u =>
        u.pw.cut = min 100 (s.pw.cut + 5) ∧ u.pw.base = pool * (100 - u.pw.cut) / 100 / 256 ∧ Counted R.OVER_CNT 1 s u ∧
          u.get R.PWR_EVT_OVER = 1 ∧ RegsBut [R.OVER_CNT, R.PWR_EVT_OVER] s u)) ∧
    (∀ p t, s.pw.changing = some (p, t) → p < 4 → s.pw.cmd = none → Leads .profileChangeComplete s fun u =>
      let q := s.get R.PWR_STAT_PROFILE
      u.get R.PWR_STAT_PROFILE = p ∧ Counted R.PROFILE_CHG_CNT 1 s u ∧ u.pw.changing = none ∧
        (p < q → u.pw.coreMv = s.pw.coreMv ∧ u.out = s.out ++ [.bias (if p = 0 then 100 else 0) (p == 2) (p == 2)]) ∧
        (q ≤ p → s.get R.STATE_PSTATE < 2 → u.pw.coreMv = max 600 (min 900 (s.pw.coreMv + guardMv p - guardMv q)) ∧
          u.out = s.out ++ [.avs 0 u.pw.coreMv, .avs 1 (sramMv p)]) ∧
        RegsBut [R.PWR_STAT_PROFILE, R.PROFILE_CHG_CNT] s u) ∧
    (∀ (n : Sector) (t0 : Nat), s.pw.wake = some (n.val, t0) → t0 + usTicks (2 * n.val) ≤ s.now → Leads (.sectorWake n) s fun u =>
      u.pw.wake = some (n.val + 1, t0) ∧
        (∀ t : Site, (u.tile t).pstate = if t.val / 9 = n.val ∧ (s.logicalOf t.val).isSome ∧ (s.tile t).pstate = 2 then 0 else (s.tile t).pstate) ∧
        u.regs = s.regs) ∧
    (∀ t : Site,
      (s.tileIdle t = true → (s.tile t).pstate ≠ 2 → Leads (.tileP2Entry t) s fun u =>
        (u.tile t).pstate = 2 ∧ (∀ b, b < 8 → ((u.tile t).bank b).pst =
          if ((s.tile t).bank b).pst = .on ∨ ((s.tile t).bank b).pst = .waking then .entering else ((s.tile t).bank b).pst) ∧
          TileOnly t [] s u) ∧
      (s.get R.STATE_PSTATE = 0 → (s.tile t).pstate = 2 → Leads (.tileP2Exit t) s fun u =>
        (u.tile t).pstate = 0 ∧ (∀ b, b < 8 → (u.tile t).bank b =
          if (s.get (R.SPRET_RET t.val)).testBit b = true ∨ ((s.tile t).bank b).pst = .on then (s.tile t).bank b
          else { (s.tile t).bank b with pst := .waking, wakeAt := s.now + 376, again := false }) ∧
          (u.tile t).vc = (if (s.tile t).vcResume then .run else (s.tile t).vc) ∧ TileOnly t [] s u)) ∧
    (s.board.progEn = true → (∀ j ∈ s.ws.jobs, j.batch = []) → s.ws.progAt + msTicks 1 ≤ s.now → Leads .progEnIdle s fun u =>
      u = { s with board := { s.board with progEn := false } }) ∧
    (∀ n : Sector,
      Leads (.droop n) s (fun u =>
        Counted R.DROOP_CNT 1 s u ∧ u.get R.PWR_EVT_DROOP = 1 ∧ (u.sec n.val).droop = true ∧
          u.pw.cap = (if (s.get R.DROOP_CTL_TRIG_ANY = 1 ∨ s.get R.DROOP_CTL_SECTOR = n.val) ∧ s.get R.DROOP_CTL_ARM = 1 ∧ s.pw.cap = none ∧ s.pw.capd = false
            then some s.now else s.pw.cap) ∧ RegsBut [R.DROOP_CNT, R.PWR_EVT_DROOP] s u) ∧
      (sget 0 s.pw.droopAt n.val + usTicks 1 ≤ s.now + 1 → Leads (.droopEnd n) s fun u =>
        (u.sec n.val).droop = false ∧ u = { s with secs := u.secs })) ∧
    (∀ (src : Partner) (v : BitVec 32), Alone src 0x200020 s → 40 ≤ v.toNat % 64 → v.toNat % 64 ≤ 45 → Leads (.droopCtlWrite src v) s fun u =>
      u.get R.DROOP_CTL_CH = v.toNat % 64 ∧ u.get R.DROOP_CTL_SECTOR = v.toNat / 256 % 32 ∧ u.get R.DROOP_CTL_TRIG_ANY = v.toNat / 2 ^ 13 % 2 ∧
        u.get R.DROOP_CTL_LEN = v.toNat / 2 ^ 16 % 4096 ∧
        (v.toNat / 64 % 2 = 1 → u.get R.DROOP_CTL_ARM = 1 ∧
          (s.pw.cap = none → s.pw.capd = false → u.pw.cap = if v.toNat / 128 % 2 = 1 then some s.now else none))) ∧
    (∀ v : List Int, s.pw.cap.isSome = true → v.length = s.get R.DROOP_CTL_LEN + 1 → s.get R.HK_CTL_DMA_EN = 0 → Leads (.droopCaptureEnd v) s fun u =>
      u.pw.cap = none ∧ u.get R.DROOP_CTL_ARM = 0 ∧ Counted R.CAPTURE_CNT 1 s u ∧ RegsBut [R.DROOP_CTL_ARM, R.CAPTURE_CNT] s u ∧ u.out = s.out)

/-- SLOW_ROUND, WARN_CLEAR, STOP_LIM, CAL_CTL_GO, CALIBRATION_RUN_COMPLETE and LOAD_CLASS_CHECK: a slow round stores its results, scales the hold-up pin, and finds the highest temperature and the presence of the voltage reference (R408, R410, R412, R414, R423); a junction result at its warn threshold sets the warning (R415); one at 105 degrees trips the part (R417); warnings clear after 100 ms below (R415); a stop that reaches its limit ends in P3 and FAULT (R416); a calibration run begins under its conditions and ends with their code otherwise (R423), a finished one waits for its configuration-area write (R423); the load class follows the mean package power (R422). -/
def Sys2Proof.Machine.SensingProtectsThePartRule : Prop :=
  ∀ s : State,
    (∀ (vals : List Int) (hist : List Nat), vals.length = 48 → s.get R.HK_CTL_EN = 1 → 4 ≤ s.get R.STATE_STEP →
      ((∀ i, i < 40 → vals.getD i 0 < 1680 ∧ vals.getD i 0 < 16 * s.get R.THERM_CFG_JSTOP) →
        (∀ n, n < 32 → 16 * sxNat 8 (s.get (R.MC_STAT_TEMP n)) < 16 * s.get R.THERM_CFG_SSTOP) → 0 < s.get R.THERM_CFG_RSTOP →
        s.pw.hist.length < 57 → s.pw.cal = none → Leads (.slowRound vals hist) s fun u =>
          (∀ i, i < 48 → i ≠ 46 → u.get (R.VAL i) = unsx 32 (vals.getD i 0)) ∧
            u.get (R.VAL 46) = unsx 32 (Int.fdiv (vals.getD 46 0 * s.get R.HU_DIV_RATIO) 1000) ∧
            u.ws.vhu = hist.map (fun v => v * s.get R.HU_DIV_RATIO / 1000) ∧ u.ws.vhuAt = s.now ∧ Counted R.ROUND_CNT 1 s u ∧
            u.get R.HK_STAT_VREF_PRESENT = (if (vals.getD 47 0 - 1250000).natAbs ≤ 12500 then 1 else 0) ∧
            u.get R.THERM_STAT_TJ_MAX = unsx 16 ((vals.take 40).foldl max (vals.getD 0 0)) ∧
            ((∃ i, i < 40 ∧ 16 * s.get R.THERM_CFG_JWARN ≤ vals.getD i 0) → s.get R.THERM_STAT_JWARN < 2 → u.get R.THERM_STAT_JWARN = 1)) ∧
      ((∃ i, i < 40 ∧ 1680 ≤ vals.getD i 0) → Leads (.slowRound vals hist) s fun u =>
        CutShort s u ∧ u.get R.PWR_STAT_TRIPPED = 1 ∧ u.board.por = false ∧ u.board.pwrReq = none)) ∧
    (∀ c, s.pw.calm = some c → s.warned = true → c + msTicks 100 ≤ s.now → Leads .warnClear s fun u =>
      u.get R.THERM_STAT_JWARN = 0 ∧ u.get R.THERM_STAT_SWARN = 0 ∧ u.get R.THERM_STAT_RWARN = 0 ∧ u.get R.MODE_STAT_PROFILE_HELD = 0) ∧
    (∀ t, s.pw.stopAt = some t → t + msTicks (s.get R.THERM_CFG_STOP_LIM) ≤ s.now → s.serve.reqs = [] → s.serve.pfxs = [] → s.ws.load = none →
      s.ws.jobs = [] → s.pw.cal = none → Leads .stopLim s fun u =>
        u.get R.STATE_STATE = 4 ∧ u.get R.STATE_PSTATE = 3 ∧ u.get R.PWR_STAT_STOPPED = 1 ∧ u.pw.stopAt = none ∧
          ∀ t : Site, (u.tile t).pstate = 2) ∧
    (∀ (src : Partner) (v : BitVec 64), Alone src 0x100020 s → v.toNat / 2 ^ 32 % 8 ≤ 4 → v.toNat / 2 ^ 35 % 2 = 1 → s.pw.cal = none →
      s.pw.stopAt = none → s.serve.was = false →
        let sectors := v.toNat % 2 ^ 32
        let point := v.toNat / 2 ^ 32 % 8
        ((s.calCheck sectors point).1 = 0 → Leads (.calCtlGo src v) s fun u =>
          u.pw.cal = some ⟨s.now, sectors, point⟩ ∧ u.get R.CAL_STAT_STATE = 1 ∧ u.get R.CAL_STAT_RESULT = 0) ∧
        ((s.calCheck sectors point).1 ≠ 0 → Leads (.calCtlGo src v) s fun u =>
          u.pw.cal = none ∧ u.get R.CAL_STAT_STATE = 2 ∧ u.get R.CAL_STAT_RESULT = (s.calCheck sectors point).1)) ∧
    (∀ r, s.pw.cal = some r → s.serve.was = false →
      ((s.calCheck r.sectors r.point).1 = 0 → Leads .calibrationRunComplete s fun u =>
        (∃ t t', (HuItem.cal, t, t') ∈ u.hu) ∧ u = { s with hu := u.hu }) ∧
      ((s.calCheck r.sectors r.point).1 ≠ 0 → Leads .calibrationRunComplete s fun u =>
        u.pw.cal = none ∧ u.get R.CAL_STAT_STATE = 2 ∧ u.get R.CAL_STAT_RESULT = (s.calCheck r.sectors r.point).1)) ∧
    (s.pw.pkg ≠ [] → Leads .loadClassCheck s fun u =>
      let mean := s.pw.pkg.sum / s.pw.pkg.length
      let cls := if mean < 380000 then 0 else if mean < 665000 then 1 else 2
      u.get R.THERM_STAT_LCLASS = cls ∧
        (u.get R.THERM_STAT_LC_MISMATCH = 1 ↔ ∃ n, n < 32 ∧ (s.calSet n).lclass.getD (nearPoint (s.sectorTemp n)) 0 ≠ cls))

/-- Power follows its budget and temperatures protect the part: PowerFollowsItsBudgetRule and SensingProtectsThePartRule. -/
def Obligations.PowerAndSensingProtectThePart : Prop := PowerFollowsItsBudgetRule ∧ SensingProtectsThePartRule

/-! ### Host ports and rings -/

/-- A ring command of opcode `op` alone in flight in its submission ring, started or not, that finds room for its completion (R297, R299, R305). -/
def Sys2Proof.Machine.InFlight (started : Bool) (op : Nat) (c : Cmd) (s : State) : Prop :=
  s.portOn c.port = true ∧ s.get (R.AQ_STAT_RDY c.port) = 1 ∧ cf c 0 8 = op ∧ cf c 8 1 = 0 ∧ cf c 9 1 = 0 ∧
    ∃ x k hd, (s.port c.port).sq c.sq = some x ∧ x.flight = [(c.ix.toNat, c.e, hd, started)] ∧ x.del = none ∧ (s.port c.port).cq x.cq = some k ∧
      k.full = false ∧ k.held = []

/-- A ring command of opcode `op` that starts and finds room for its completion, without FENCE or QUIET (R297, R299, R305, R308). -/
def Sys2Proof.Machine.Ready (op : Nat) (c : Cmd) (s : State) : Prop := InFlight false op c s

/-- The command has completed: its entry, with the head of its ring after its fetch, is written at the tail of its completion ring with the ring's phase, and it is no longer in flight (R297, R298, R306, Table 10-6). -/
def Sys2Proof.Machine.Completed (c : Cmd) (d : Done) (s u : State) : Prop :=
  ∃ x k, (s.port c.port).sq c.sq = some x ∧ (s.port c.port).cq x.cq = some k ∧
    Out.hostWrite c.port (k.base.toNat + 32 * k.tail)
      (leBytes 32 (s.cqEntry c (match x.entry c with | some f => f.2.2.1 | none => d.head) d + k.phase.toNat * 2 ^ 255)) ∈ u.out ∧
    Counted (R.CQ_POST_CNT c.port) 1 s u ∧ ∃ x', (u.port c.port).sq c.sq = some x' ∧ x'.flight = []

/-- PORT_LINK_UP, PORT_RESET, SETUP_LOCK, AQ_CTL_ENABLE and AQ_CTL_DISABLE: a trained port shows its rate, width and mode (R280); a port reset deletes its rings, takes its registers back to reset and releases its lock (R289); the lock is taken while free and released by its holder only (R294); enabling the admin pair creates SQ 0 and CQ 0 at the bases in force (R291, R317), disabling it deletes every ring of the port (R317). -/
def Obligations.PortsAndAdminRingsStartAndStop : Prop :=
  ∀ (s : State) (p : Port),
    (∀ (rate : Fin 5) (width : Nat) (flit : Bool), s.board.por = true → p.val = 0 ∨ s.board.x8 = true → rate ≠ 0 → ¬(rate = 4 ∧ flit = false) →
      width = 1 ∨ width = 4 ∨ width = 8 ∨ (width = 16 ∧ s.board.x8 = false) → Leads (.portLinkUp p rate width flit) s fun u =>
        (u.port p).up = true ∧ u.get (R.HLINK_RATE p) = rate.val ∧ u.get (R.HLINK_WIDTH p) = width ∧ u.get (R.HLINK_FLIT p) = flit.toNat ∧
          RegsBut [R.HLINK_RATE p, R.HLINK_WIDTH p, R.HLINK_FLIT p] s u) ∧
    (p.val = 0 ∨ s.board.x8 = true → s.serve.reqs = [] → (∀ i, i < 16 → (s.chan (256 + i)).st = .idle ∨ (s.chan (256 + i)).st = .error) →
      Leads (.portReset p) s fun u =>
        u.port p = PortSt.init ∧ (∀ q : Port, q ≠ p → u.port q = s.port q) ∧ u.get (R.AQ_STAT_RDY p) = 0 ∧ u.get (R.AQ_CTL_EN p) = 0 ∧
          u.get (R.HLINK_RATE p) = 0 ∧
          u.get R.SETUP_LOCK_HOLDER = (if s.get R.SETUP_LOCK_HOLDER = p.val + 1 then 0 else s.get R.SETUP_LOCK_HOLDER) ∧
          u = { s with regs := u.regs, ports := u.ports }) ∧
    (∀ (src : Partner) (v : BitVec 32), src ≠ .firmware → s.reaches src 0x34 = true → s.standB (srcCode src) 0x34 = none →
      let h := s.get R.SETUP_LOCK_HOLDER
      let w := v.toNat % 4
      ((h = 0 ∧ w = lockCode src) ∨ (h = lockCode src ∧ w = 0) → Leads (.setupLock src v) s fun u =>
        u.get R.SETUP_LOCK_HOLDER = w ∧ RegsBut [R.SETUP_LOCK_HOLDER] s u ∧ u = { s with regs := u.regs, wrB := u.wrB }) ∧
      (¬((h = 0 ∧ w = lockCode src) ∨ (h = lockCode src ∧ w = 0)) → Leads (.setupLock src v) s fun u => 
        u.get R.SETUP_LOCK_HOLDER = h ∧ u.get R.CLAMP_HEAD_TOTAL = (s.get R.CLAMP_HEAD_TOTAL + 1) % 2 ^ 32 ∧
          u = { s with regs := u.regs, wrB := u.wrB, out := u.out, ports := u.ports })) ∧
    (∀ src : Partner, Passes src (0x6014 + 0x100 * p.val) s →
      (s.get (R.AQ_STAT_RDY p) = 0 → (s.port p).heldW = [] → Leads (.aqCtlEnable src p) s fun u =>
        (u.port p).sq 0 = some (.make (BitVec.ofNat 64 (s.get (R.ASQ_BASE_BASE p) * 2 ^ 12)) (s.get (R.AQ_CFG_SQ_LOG2 p)) 0 0) ∧
          (u.port p).cq 0 = some (.make (BitVec.ofNat 64 (s.get (R.ACQ_BASE_BASE p) * 2 ^ 12))
            (if s.get (R.AQ_CFG_CQ_LOG2 p) = 0 then 16 else s.get (R.AQ_CFG_CQ_LOG2 p)) 1 0 0) ∧
          u.get (R.AQ_CTL_EN p) = 1 ∧ u.get (R.AQ_STAT_RDY p) = 1 ∧ RegsBut [R.AQ_CTL_EN p, R.AQ_STAT_RDY p] s u ∧
          u = { s with regs := u.regs, ports := u.ports }) ∧
      Leads (.aqCtlDisable src p) s (fun u =>
        (u.port p).sqs = [] ∧ (u.port p).cqs = [] ∧ (u.port p).tqs = [] ∧ u.get (R.AQ_CTL_EN p) = 0 ∧ u.get (R.AQ_STAT_RDY p) = 0 ∧
          RegsBut [R.AQ_CTL_EN p, R.AQ_STAT_RDY p] s u ∧ u = { s with regs := u.regs, ports := u.ports }))

/-- SQ_TAIL_DOORBELL, CQ_HEAD_DOORBELL, TQ_HEAD_DOORBELL, SQ_FETCH, MSIX_COALESCE_TIMEOUT, CREATE_RING and DELETE_RING: a doorbell in range moves its index, one out of range or of no ring is discarded and counted, and a held entry follows once there is room (R299, R301, R302); a fetch of known commands puts them in flight and moves the head, a failed one leaves the ring in ERROR (R297, R303); a coalesced message leaves U microseconds after the first entry, or stays pending while its vector is masked (R304); rings are created with sizes and parameters in range and deleted when unused (R309, R310). -/
def Obligations.RingsMoveTheirEntries : Prop :=
  ∀ s : State,
    (∀ (p : Port) (q : Nat) (v : BitVec 32),
      let i := v.toNat % 2 ^ 16
      (s.portOn p = false → exec (.sqTailDoorbell p q v) s = .next s ∧ exec (.cqHeadDoorbell p q v) s = .next s ∧
        exec (.tqHeadDoorbell p q v) s = .next s) ∧
      (s.portOn p = true → 
      (∀ x, (s.port p).sq q = some x → i < 2 ^ x.log2 → Leads (.sqTailDoorbell p q v) s fun u =>
        (u.port p).sq q = some { x with tail := i } ∧ (∀ q', q' ≠ q → (u.port p).sq q' = (s.port p).sq q') ∧ u = { s with ports := u.ports }) ∧
      (∀ x, (s.port p).sq q = some x → 2 ^ x.log2 ≤ i → Leads (.sqTailDoorbell p q v) s fun u =>
        Counted (R.DB_ERR_CNT p) 1 s u ∧ u = { s with regs := u.regs, out := u.out, ports := u.ports }) ∧
      ((s.port p).sq q = none → Leads (.sqTailDoorbell p q v) s fun u =>
        Counted (R.DB_ERR_CNT p) 1 s u ∧ u = { s with regs := u.regs, out := u.out, ports := u.ports }) ∧
      (∀ k, (s.port p).cq q = some k → i < 2 ^ k.log2 → (∀ j x, (s.port p).sq j = some x → x.flight = []) →
        (k.held = [] → Leads (.cqHeadDoorbell p q v) s fun u => (u.port p).cq q = some { k with head := i } ∧ u = { s with ports := u.ports }) ∧
        (∀ e, k.held = [e] → ({ k with head := i } : Cq).full = false → Leads (.cqHeadDoorbell p q v) s fun u =>
          Out.hostWrite p (k.base.toNat + 32 * k.tail) (leBytes 32 (e + k.phase.toNat * 2 ^ 255)) ∈ u.out ∧
            Counted (R.CQ_POST_CNT p) 1 s u ∧ ∃ k', (u.port p).cq q = some k' ∧ k'.held = [] ∧ k'.tail = (k.tail + 1) % 2 ^ k.log2)) ∧
      (∀ k, (s.port p).tq q = some k → i < 2 ^ k.log2 → k.held = [] → Leads (.tqHeadDoorbell p q v) s fun u =>
        (u.port p).tq q = some { k with head := i } ∧ u = { s with ports := u.ports }))) ∧
    (∀ (p : Port) (q : Nat) (x : Sq) (es : List Entry), q < 64 → (s.port p).sq q = some x → s.get (R.AQ_STAT_RDY p) = 1 → s.portOn p = true →
      s.fetchTurn p = some q →
        Leads (.sqFetch p q false es) s (fun u =>
          (u.port p).sq q = some { x with err := true } ∧ u.get (R.AQ_STAT_ERR_SQ p) = q ∧ u.get (R.HEVT_RING_ERR p) = 1) ∧
        ((∀ e ∈ es, opcodeKnown (entField e 0 8) = true) → (∀ f ∈ x.flight, opcodeKnown (entField f.2.1 0 8) = true) →
          Leads (.sqFetch p q true es) s fun u =>
            let new := es.take (min 8 x.waiting)
            (∃ x', (u.port p).sq q = some x' ∧ x'.head = (x.head + new.length) % 2 ^ x.log2 ∧
              x'.flight.map (fun f => f.2.1) = x.flight.map (fun f => f.2.1) ++ new) ∧
            Counted (R.SQ_FETCH_CNT p) new.length s u ∧ u = { s with regs := u.regs, ports := u.ports })) ∧
    (∀ (p : Port) (tq : Bool) (id : Nat) (k : Cq), s.cqOf p tq id = some k → k.us ≠ 0 → 0 < k.since → k.first + usTicks k.us ≤ s.now →
      (s.port p).msixEn = true →
      let masked := (s.port p).msixFm || (sget Vec.init (s.port p).vecs k.vector).masked
      (masked = false → Leads (.msixCoalesceTimeout p tq id) s fun u =>
        u.out = s.out ++ [.msix p k.vector] ∧ u.cqOf p tq id = some { k with since := 0 } ∧ Counted (R.MSIX_CNT p) 1 s u) ∧
      (masked = true → Leads (.msixCoalesceTimeout p tq id) s fun u =>
        (sget Vec.init (u.port p).vecs k.vector).pend = true ∧ u.cqOf p tq id = some { k with since := 0 } ∧ u = { s with ports := u.ports })) ∧
    (∀ c : Cmd, 
      let id := cf c 66 6
      let x := s.port c.port
      let base := BitVec.ofNat 64 (cf c 128 64)
      (Ready 0x01 c s → cf c 64 2 = 0 → id ≠ 0 → x.sq id = none → (x.cq (cf c 72 6)).isSome → cf c 128 64 % 4096 = 0 → 4 ≤ cf c 80 4 → cf c 80 4 ≤ 12 →
        Leads (.createRing c) s fun u =>
          Completed c (.st 0 0) s u ∧ (u.port c.port).sq id = some (.make base (cf c 80 4) (cf c 72 6) (cf c 78 2))) ∧
      (Ready 0x01 c s → cf c 64 2 = 1 → id ≠ 0 → x.cq id = none → cf c 128 64 % 4096 = 0 → cf c 80 4 = 0 ∨ 4 ≤ cf c 80 4 → 1 ≤ cf c 84 11 → cf c 84 11 ≤ 2047 →
        cf c 104 10 ≤ 1000 → Leads (.createRing c) s fun u =>
          Completed c (.st 0 0) s u ∧ (u.port c.port).cq id =
            some (.make base (if cf c 80 4 = 0 then 16 else cf c 80 4) (cf c 84 11) (cf c 96 8) (cf c 104 10))) ∧
      (Ready 0x02 c s → cf c 64 2 = 0 → id ≠ 0 → id ≠ c.sq.val → (∀ q, x.sq id = some q → q.del = none → q.flight = [] → Leads (.deleteRing c) s fun u =>
        Completed c (.st 0 0) s u ∧ (u.port c.port).sq id = none)) ∧
      (Ready 0x02 c s → cf c 64 2 = 1 → id ≠ 0 → (x.cq id).isSome → (∀ e ∈ x.sqs, ∀ q, e.2 = some q → q.cq ≠ id) → Leads (.deleteRing c) s fun u =>
        Completed c (.st 0 0) s u ∧ (u.port c.port).cq id = none))

/-- SLICE_BIND, MEM_LAYOUT, HOST_DMA and POWER_STATE: with no request admitted a slice descriptor in range binds the device, or leaves it unbound, its marks forgotten (R159, R160, R311); sizes that fit lay out the selected stacks (R179, R312); a host DMA starts a chain of its channel that holds the command, or is refused for a channel of another port (R313); a power state entered with every tile idle completes with every tile in P2 (R314, R398). -/
def Obligations.SetUpCommandsTakeEffect : Prop :=
  ∀ (s : State) (c : Cmd), s.serve.was = false →
    (s.liveReqs = [] →
      (Ready 0x03 c s → cf c 200 1 = 1 → Leads (.sliceBind c) s fun u => Completed c (.st 0 0) s u ∧ u.bind = none ∧ u.tm.marks = []) ∧
      (Ready 0x03 c s → cf c 200 1 = 0 → (∀ a, a < 3 → cf c (96 + 4 * a) 4 ≤ cf c (80 + 4 * a) 4 ∧ cf c (112 + 4 * a) 4 ≤ cf c (80 + 4 * a) 4) → cf c 128 3 < 6 →
        Leads (.sliceBind c) s fun u =>
          Completed c (.st 0 0) s u ∧ u.tm.marks = [] ∧ u.tm.lastMark = (0, 0) ∧
            u.bind = some { sliceId := BitVec.ofNat 16 (cf c 64 16), tx := cf c 80 4 + 1, ty := cf c 84 4 + 1, tz := cf c 88 4 + 1
                            ox := cf c 96 4, oy := cf c 100 4, oz := cf c 104 4, ex := cf c 112 4 + 1, ey := cf c 116 4 + 1
                            ez := cf c 120 4 + 1, axes := cf c 128 3, bgen := BitVec.ofNat 8 (cf c 192 8) }) ∧
      (Ready 0x04 c s → cf c 96 16 + cf c 112 16 + cf c 128 16 + cf c 144 16 ≤ 5992 → Leads (.memLayout c) s fun u =>
        Completed c (.st 0 0) s u ∧ ∀ n, n < 32 →
          if (cf c 64 32).testBit n then
            u.get (R.MREG_BASE_MIB n 3) = 152 ∧ u.get (R.MREG_SIZE_MIB n 3) = cf c 96 16 ∧
              u.get (R.MREG_BASE_MIB n 4) = 152 + cf c 96 16 ∧ u.get (R.MREG_SIZE_MIB n 4) = cf c 112 16 ∧
              u.get (R.MREG_SIZE_MIB n 5) = cf c 128 16 ∧ u.get (R.MREG_SIZE_MIB n 6) = cf c 144 16 ∧
              u.get (R.MREG_SIZE_MIB n 7) = 5992 - (cf c 96 16 + cf c 112 16 + cf c 128 16 + cf c 144 16)
          else ∀ i, i < 8 → u.get (R.MREG_SIZE_MIB n i) = s.get (R.MREG_SIZE_MIB n i)) ∧
      (Ready 0x06 c s → cf c 64 2 = 2 → cf c 66 2 ≠ 3 → s.pw.cmd = none → s.get R.STATE_STATE = 3 → s.pw.stopAt = none → s.pw.cal = none →
        s.get R.STATE_PSTATE = 0 → (∀ t : Site, s.tileIdle t = true) → Leads (.powerState c) s fun u =>
          Completed c (.st 0 0) s u ∧ u.get R.STATE_PSTATE = 2 ∧ ∀ t : Site, (u.tile t).pstate = 2)) ∧
    (∀ ch, ch = 256 + cf c 64 4 → Ready 0x05 c s →
      (s.chPort ch = c.port.val → cf c 132 2 = 1 ∨ cf c 132 2 = 2 → s.chanRoom ch = true → ((s.chan ch).st = .idle → (s.chan ch).pend = []) →
        Leads (.hostDma c) s fun u => ChanTakes ch ⟨BitVec.ofNat 64 (cf c 128 64), .ring c⟩ s u ∧ u = { s with chans := u.chans, ports := u.ports }) ∧
      (s.chPort ch ≠ c.port.val → Leads (.hostDma c) s fun u => Completed c (.st 0x10 5) s u ∧ u.chans = s.chans))

/-! ### Serving -/

/-- A serving command of opcode `op` on the ingress device of a serving slice that starts (R297, R319). -/
def Sys2Proof.Machine.Serves (op : Nat) (c : Cmd) (s : State) : Prop := Ready op c s ∧ s.isIngress = true ∧ s.serving = true

/-- A fetch chain for command `c` accepted by channel `ch`: an idle channel begins its fetch, another holds it as its last pending one (R237, R334). -/
def Sys2Proof.Machine.FetchQueued (ch : Nat) (ptr : BitVec 64) (c : Cmd) (s u : State) : Prop :=
  if (s.chan ch).st = .idle then (u.chan ch).st = .fetch ∧ (u.chan ch).chain = some ⟨ptr, .fetch c⟩ ∧ (u.chan ch).cur = ptr
  else u.chan ch = { s.chan ch with pend := (s.chan ch).pend ++ [⟨ptr, .fetch c⟩] }

/-- Request `i` has ended: its generation has advanced and its ID is stale (R321, R323). -/
def Sys2Proof.Machine.ReqEnded (i : Nat) (s u : State) : Prop := (u.req i).gen = genNext (s.req i).gen ∧ (u.req i).live = false

/-- The FP16 fields of a SUBMIT payload are as they are applied, nothing being substituted (R334, Table 11-3). -/
def Sys2Proof.Machine.AsApplied (c : Cmd) : Prop :=
  ∀ x ∈ [(304, tempOf), (320, toppOf), (336, minpOf), (368, rpenOf)], x.2 (BitVec.ofNat 16 (cf c x.1 16)) = BitVec.ofNat 16 (cf c x.1 16)

/-- SUBMIT, ADMISSION and CANCEL: a submit that passes its checks takes the lowest free entry and queues its context fetch (R334, R335), one of a tenant not enabled is INVALID (R335); the fetched tokens take it to PREFILL with its pages reserved (R335, R337), a token outside the vocabulary rejects it (R335); a cancel ends a request that is not in flight, waits for one that is, and finds a stale ID stale (R321, R329). -/
def Obligations.RequestsEnterAndLeave : Prop :=
  ∀ (s : State) (c : Cmd),
    (Serves 0x10 c s → AsApplied c → ∀ ch, ch = s.fetchChan c.port → s.chanRoom ch = true → ((s.chan ch).st = .idle → (s.chan ch).pend = []) →
      1 ≤ cf c 192 20 → cf c 192 20 ≤ s.get R.LIMITS_MAXPOS - cf c 128 20 → cf c 352 11 ≤ 1024 → cf c 384 13 ≤ 4096 → cf c 500 2 ≠ 3 →
      cf c 160 32 = 0 → cf c 272 16 = 0 → cf c 288 16 = 0 →
        ((s.tenant (cf c 148 10)).en = true → cf c 128 20 ≠ 0 → ∀ i, i < 8192 → (s.req i).st = .free → (∀ j, j < i → (s.req j).st ≠ .free) →
          Leads (.submit c) s fun u =>
            (u.req i).st = .inAdmission ∧ (u.req i).cmd = some c ∧ (u.req i).tenant = cf c 148 10 ∧ (u.req i).maxNew = cf c 192 20 ∧
              (u.req i).gen = (s.req i).gen ∧ (u.req i).hd = s.cmdHead c ∧ (∀ j, j ≠ i → u.req j = s.req j) ∧
              FetchQueued ch (BitVec.ofNat 64 (cf c 64 64)) c s u ∧ u.regs = s.regs ∧ u.out = s.out) ∧
        ((s.tenant (cf c 148 10)).en = false → Leads (.submit c) s fun u => Completed c (.st 0x10 6) s u ∧ u.chans = s.chans)) ∧
    (∀ (p : Port) (bs : List Byte) (i : Nat) (ptr : BitVec 64), (s.chan (s.fetchChan p)).st = .fetch →
      (s.chan (s.fetchChan p)).chain = some ⟨ptr, .fetch c⟩ → (s.chan (s.fetchChan p)).pend = [] → s.admitOf c = some i → s.serving = true →
      (s.req i).creating = none → (s.req i).pfx = none → (s.req i).cmd = some c → (s.req i).waitEnd = none → (s.req i).early = false →
      (s.req i).cancels = [] → (s.req i).orphan = false → (s.req i).grammar = 0 → cf c 218 1 = 0 → cf c 159 1 = 1 → bs.length = 4 * cf c 128 20 →
      cf c 128 20 ≤ s.get R.LIMITS_MAXPOS →
        let toks := (List.range (cf c 128 20)).map fun k => numAt bs (4 * k) 4
        let done (u : State) : Prop := (u.chan (s.fetchChan p)).st = .idle ∧ (u.chan (s.fetchChan p)).chain = none
        (∀ pages, (∀ k ∈ toks, k < s.get R.SHAPE_VOCAB) → i < 8192 → (s.tenant (s.req i).tenant).maxReq = 0 → s.liveReqs.length < 8192 →
          s.reserve (toks.length + (s.req i).maxNew) (toks.length + (s.req i).maxNew) = some pages →
            Leads (.admission p (.data bs)) s fun u =>
              (u.req i).st = .prefill ∧ (u.req i).seq = toks ∧ (u.req i).next = 0 ∧ (u.req i).pages = pages ∧ Counted R.ADMIT_CNT 1 s u ∧ done u) ∧
        ((∃ k ∈ toks, s.get R.SHAPE_VOCAB ≤ k) → InFlight true 0x10 c s → Leads (.admission p (.data bs)) s fun u =>
          (u.req i).st = .free ∧ Completed c { Done.st 0x10 7 with clamped := (s.req i).clamped } s u ∧ done u)) ∧
    (Serves 0x11 c s →
      (s.findReq (cf c 32 32) = none → Leads (.cancel c) s fun u =>
        Completed c { Done.st 9 0 with reqid := cf c 32 32 } s u ∧ Counted R.STALE_ID_CNT 1 s u ∧ u.serve.reqs = s.serve.reqs) ∧
      (∀ i, s.findReq (cf c 32 32) = some i →
        ((s.req i).inflight = true → Leads (.cancel c) s fun u =>
          u.req i = { s.req i with cancels := (s.req i).cancels ++ [c] } ∧ (∀ j, j ≠ i → u.req j = s.req j) ∧ u.out = s.out) ∧
        ((s.req i).inflight = false → (s.req i).live = true → Leads (.cancel c) s (ReqEnded i s))))

/-- PREFIX_CREATE, PREFIX_RELEASE, TENANT_SET, GRAMMAR_LOAD and UNLOAD: a creation within its tenant's quota keeps whole granules and queues its fetch (R339); a released handle is stale at once (R338, R341); a tenant's settings wait for the next mark, its level set at once when asked (R331, R350); a load queues the fetch of its image, an image that obeys R344 is stored in the region found for it, any other is INVALID, and an unused image is unloaded (R344). -/
def Obligations.TenantsPrefixesAndGrammarsAreKept : Prop :=
  ∀ (s : State) (c : Cmd),
    (Serves 0x12 c s → ∀ ch g kept, ch = s.fetchChan c.port → g = max 1 (s.get R.LIMITS_PFX_GRAN) → kept = cf c 128 20 / g * g → s.chanRoom ch = true →
      ((s.chan ch).st = .idle → (s.chan ch).pend = []) → s.serve.pfxs = [] → s.serve.reqs = [] → (s.tenant (cf c 148 10)).en = true →
      kept ≠ 0 → kept ≤ (s.tenant (cf c 148 10)).pfxq → Leads (.prefixCreate c) s fun u =>
        (u.req 0).st = .inAdmission ∧ (u.req 0).cmd = some c ∧ (u.req 0).creating = some 0 ∧ (u.req 0).maxNew = kept ∧
          (u.req 0).tenant = cf c 148 10 ∧ FetchQueued ch (BitVec.ofNat 64 (cf c 64 64)) c s u) ∧
    (Serves 0x13 c s → ∀ i, s.findPfx (cf c 64 32) = some i → Leads (.prefixRelease c) s fun u =>
      Completed c (.st 0 0) s u ∧ (u.pfx i).valid = false ∧ (u.pfx i).gen = (s.pfx i).gen % 65535 + 1 ∧ ∀ j, j ≠ i → u.pfx j = s.pfx j) ∧
    (Serves 0x13 c s → s.findPfx (cf c 64 32) = none → Leads (.prefixRelease c) s fun u => Completed c (.st 0xA 0) s u ∧ u.serve.pfxs = s.serve.pfxs) ∧
    (Serves 0x14 c s → cf c 80 5 ≤ 16 → cf c 176 14 ≤ 8192 → s.serve.pfxs = [] → Leads (.tenantSet c) s fun u =>
      let i := cf c 64 10
      let t := s.tenant i
      let set := cf c 75 1 = 1
      Completed c (.st 0 0) s u ∧ (∀ j, j ≠ i → u.tenant j = s.tenant j) ∧
        u.tenant i = { t with en := cf c 74 1 == 1, adslot := cf c 88 8, maxReq := cf c 176 14, pfxq := cf c 192 32
                              nextSet := some (cf c 96 32, cf c 128 32, cf c 80 5, cf c 160 16)
                              level := if set then 16 * cf c 128 32 else t.level, frac := if set then 0 else t.frac }) ∧
    (∀ id ch, id = cf c 64 16 → ch = s.fetchChan c.port → id ≠ 0 → s.gramUsed id = false →
      (Serves 0x15 c s → cf c 80 2 < 2 → cf c 96 32 ≠ 0 → s.chanRoom ch = true → ((s.chan ch).st = .idle → (s.chan ch).pend = []) →
        (s.chan ch).chain.map Chain.fromWho ≠ some (.fetch c) → ∀ host, Leads (.grammarLoad c host) s fun u =>
          FetchQueued ch (BitVec.ofNat 64 (cf c 128 64)) c s u ∧ u.regs = s.regs ∧ u.out = s.out ∧ u.serve.grams = s.serve.grams ∧ u.stk = s.stk) ∧
      (∀ (n o : Nat) (ptr : BitVec 64) (bs : List Byte), InFlight true 0x15 c s → cf c 80 2 < 2 → (s.chan ch).st = .fetch →
        (s.chan ch).chain = some ⟨ptr, .fetch c⟩ → (s.chan ch).pend = [] → bs.length = cf c 96 32 → s.gramRoom id bs.length = some (n, o) →
        o + bs.length ≤ 0x180000000 → s.get (R.MC_STAT_STATE n) = 3 → (s.sec n).bad = [] → (s.sec n).soft = [] → (s.sec n).wTick ≠ s.now →
          let done (u : State) : Prop := (u.chan ch).st = .idle ∧ (u.chan ch).chain = none
          (imageOk (cf c 80 2 == 0) (s.get R.SHAPE_VOCAB) bs = true → Leads (.grammarLoad c (.data bs)) s fun u =>
            Completed c (.st 0 0) s u ∧ sget none u.serve.grams id = some ⟨cf c 80 2 == 0, n, o, bs⟩ ∧ done u ∧
              ∀ a, sget 0 u.stk a =
                if n * 2 ^ 33 + o ≤ a ∧ a < n * 2 ^ 33 + o + bs.length then bs.getD (a - (n * 2 ^ 33 + o)) 0 else sget 0 s.stk a) ∧
          (imageOk (cf c 80 2 == 0) (s.get R.SHAPE_VOCAB) bs = false → Leads (.grammarLoad c (.data bs)) s fun u =>
            Completed c (.st 0x10 8) s u ∧ u.serve.grams = s.serve.grams ∧ u.stk = s.stk ∧ done u)) ∧
      (Serves 0x15 c s → cf c 80 2 = 2 → Leads (.unload c) s (fun u => Completed c (.st 0 0) s u ∧ sget none u.serve.grams id = none ∧
        ∀ j, j ≠ id → sget none u.serve.grams j = sget none s.serve.grams j)))

/-- LAUNCH, COMMIT_POINT, ORBIT_TO, ROW_RETURN, ROW_FAULT_REPORT and PEER_STATE_REPORT: a slot launches the row of a decoding request whose tenant's level holds a token, and takes 16 from it, the row bearing the plane bit of its slot (R325, R326, R331, R356); at the commit point prefill rows advance, a token is chosen, appended and counted, a row fault ends its request (R327, R328, R347); a micro-batch not committed within ORBIT_LIM is abandoned and its requests end (R327); a stale row is counted (R321); a reported fault ends its request (R328); the reports of other devices are kept (R319), and one that is in FAULT stops the slice, its requests ending (R320). -/
def Obligations.MicroBatchesRunToTheirCommit : Prop :=
  ∀ (s : State) (m : Fin 64),
    (s.slotDue m = true → s.serving = true →
      ((s.mb m).launched.isSome = true ∨ s.fe.rowsHeld = true → Leads (.launch m) s fun u =>
        u.mb m = { s.mb m with tag := some (s.get R.STEP_NOW_N), late := true } ∧ u.out = s.out) ∧
      (∀ i r, (s.mb m).launched = none → s.fe.rowsHeld = false → s.serve.reqs = [(i, r)] → r.st = .decode → r.inflight = false →
        r.tag ≠ some (s.get R.STEP_NOW_N) → r.creating = none → r.orphan = true ∨ r.cmd = none → 16 ≤ (s.tenant r.tenant).level → 1 ≤ s.get R.SHAPE_ROWS →
        i < 8192 → s.serve.adir = [] → s.ownHeads = [] →
          Leads (.launch m) s fun u =>
            u.out = s.out ++ [.orbit m (s.get R.STEP_NOW_N) [(BitVec.ofNat 32 (reqId i r), 1, r.slot % 2)]] ∧ (u.mb m).launched = some s.now ∧
              (u.mb m).rows = [⟨BitVec.ofNat 32 (reqId i r), 1, true⟩] ∧ (u.req i).inflight = true ∧
              (u.tenant r.tenant).level = (s.tenant r.tenant).level - 16 ∧ Counted R.STEP_CNT 1 s u)) ∧
    (∀ t0 w i, (s.mb m).launched = some t0 → (s.mb m).rows = [w] → (s.mb m).late = false → s.findReq w.req.toNat = some i → (s.req i).live = true →
      let closed (u : State) : Prop := (u.mb m).launched = none ∧ (u.mb m).rows = []
      (s.fails = [] → s.pw.stopAt = none → (∀ n, n < 32 → s.get (R.MC_STAT_STATE n) = 3) →
        (∀ reason, Leads (.commitPoint m [.fault reason]) s fun u => ReqEnded i s u ∧ closed u ∧ (u.mb m).took = some (s.now - t0)) ∧
        (∀ l, (s.req i).deadline = none → (s.req i).cancels = [] → (s.req i).orphan = false → (s.req i).pendRebuild = false →
          (w.fin = false → (s.req i).creating = none → Leads (.commitPoint m [.logits l]) s fun u =>
            u.req i = { s.req i with inflight := false, next := (s.req i).next + w.n } ∧ closed u) ∧
          (w.fin = true → (s.req i).grammar = 0 → (s.req i).alist = 0 → (s.req i).govf = false → 0 < s.get R.SHAPE_VOCAB →
            (∀ t, t < s.get R.SHAPE_VOCAB → (f32dec (l.getD t 0)).isNaN = false) →
              let r := s.req i
              let t := choose ((List.range (s.get R.SHAPE_VOCAB)).map fun t => (t, f32dec (l.getD t 0))) r.samp
                (r.seq.drop (r.seq.length - r.samp.rpwin)) r.seq.length
              t ∉ r.samp.stops → r.samp.noEos = true → r.delivered + 1 < r.maxNew → Leads (.commitPoint m [.logits l]) s fun u =>
                (u.req i).seq = r.seq ++ [t] ∧ (u.req i).delivered = r.delivered + 1 ∧ (u.req i).st = .decode ∧ (u.req i).inflight = false ∧
                  Counted R.TOKEN_CNT 1 s u ∧ closed u))) ∧
      (t0 + usTicks (s.get R.STEP_CFG_ORBIT_LIM) ≤ s.now → s.pw.stopAt = none → Leads (.orbitTo m) s fun u =>
        ReqEnded i s u ∧ closed u ∧ Counted R.ORBIT_TO_CNT 1 s u ∧ u.get R.SERVE_EVT_ORBIT_TO = 1)) ∧
    (∀ req : BitVec 32,
      (s.findReq req.toNat = none → (s.req (req.toNat % 2 ^ 20)).st ≠ .ending → Leads (.rowReturn req) s fun u =>
        Counted R.STALE_ID_CNT 1 s u ∧ u.get R.SERVE_EVT_STALE = 1 ∧ OnlyRegs [R.STALE_ID_CNT, R.SERVE_EVT_STALE] s u) ∧
      (∀ (i : Nat) (reason : BitVec 8), s.findReq req.toNat = some i →
        Leads (.rowReturn req) s (fun u => u = s) ∧
        ((s.req i).live = true → Leads (.rowFaultReport req reason) s (ReqEnded i s)))) ∧
    (∀ b k r, s.bind = some b → s.isIngress = true → 0 < k → k < sliceSize b →
      (s.serve.was = false → Leads (.peerStateReport k r) s fun u =>
        sget none u.serve.peers k = some r ∧ (∀ j, j ≠ k → sget none u.serve.peers j = sget none s.serve.peers j) ∧ u.regs = s.regs) ∧
      (∀ i q, s.serve.was = true → r.fault = true → s.serve.reqs = [(i, q)] → q.live = true → Leads (.peerStateReport k r) s fun u =>
        ReqEnded i s u ∧ u.serve.was = false))

/-! ### The weight store -/

/-- A load of a version for `slot` in progress, whose SHARD_LOAD `c` can complete (R367, R371). -/
def Sys2Proof.Machine.Loading (l : Load) (c : Cmd) (s : State) : Prop :=
  s.ws.load = some l ∧ l.cmd = some c ∧ l.restore = false ∧ l.slot < 2 ∧ InFlight true 0x20 c s

/-- The load has failed with a reason: its slot is FREE, the failure counted, its command complete with FAULT (R371). -/
def Sys2Proof.Machine.LoadFailed (l : Load) (c : Cmd) (reason : Nat) (s u : State) : Prop :=
  u.ws.load = none ∧ u.get (R.SLOT_STATE l.slot) = slFREE ∧ Counted R.LOAD_FAIL_CNT 1 s u ∧ u.get R.WS_EVT_LOAD_FAIL = 1 ∧
    Completed c { Done.st stFAULT reason with clamped := loadClamped c } s u

/-- The load goes on, chunk `i` to be fetched once more (R370). -/
def Sys2Proof.Machine.ChunkRetried (l : Load) (i : Nat) (s u : State) : Prop :=
  (∃ l', u.ws.load = some l' ∧ l'.got = l.got ∧ l'.slot = l.slot ∧ sget 0 l'.tries i = sget 0 l.tries i + 1 ∧ sget [] l'.bytes i = []) ∧
    Counted R.REFETCH_CNT 1 s u

/-- SHARD_LOAD in modes STAGE and RESTORE, and KEY_IMPORT: a load that passes the checks of R368 begins, with its slot STAGING and its first eight chunks asked for (R367 to R369), a restore leaves the slots as they are (R372), one that fails a check completes with its status and reason (R368), and a slot that is neither FREE nor ACTIVE makes it BUSY; a key unwrapped under its identity and version fills the key slot named, a blob that is not as R365 lays it out, or a debug port UNLOCKED, is INVALID with KEY (R365, R471). -/
def Obligations.ShardLoadsBeginAndKeysAreImported : Prop :=
  ∀ (s : State) (c : Cmd) (man : List Byte),
    (Ready 0x20 c s → s.get R.STATE_STATE = devREADY → s.ws.load = none → cf c 176 16 = 0 → cf c 164 1 = 0 →
      let m := s.parseMan man
      let change := manPlaces man || (match s.activeSlot with | some k => s.get (R.SLOT_PLACE_ID k) != m.placeId | none => true)
      let asked (u : State) : Prop := ∀ i ch, i < 8 → m.chunks[i]? = some ch → Out.fetch i c.port.val (cf c 160 4) (cf c 192 64 + i * 2 ^ 20) ch.len ∈ u.out
      (cf c 165 1 = 0 → (∀ k, k < 2 → s.slotSt k = slFREE ∨ s.slotSt k = slACTIVE) → Leads (.shardLoad c man) s fun u =>
        match s.loadRefusal c man false change with
        | some r => Completed c (.st r.1 r.2) s u ∧ u.ws = s.ws
        | none =>
          let k := 1 - s.activeSlot.getD 1
          (∃ l, u.ws.load = some l ∧ l.cmd = some c ∧ l.man = m ∧ l.slot = k ∧ l.restore = false ∧ l.got = [] ∧
            l.deadline = s.now + usTicks 10000000) ∧
          u.slotSt k = slSTAGING ∧ u.get (R.SLOT_VERSION k) = m.version % 2 ^ 32 ∧ asked u) ∧
      (cf c 165 1 = 0 → (∃ k, k < 2 ∧ s.slotSt k ≠ slFREE ∧ s.slotSt k ≠ slACTIVE) → Leads (.shardLoad c man) s fun u =>
        Completed c (.st stBUSY rsINUSE) s u ∧ u.ws = s.ws) ∧
      (cf c 165 1 = 1 → Leads (.restore c man) s fun u =>
        match s.loadRefusal c man true change with
        | some r => Completed c (.st r.1 r.2) s u ∧ u.ws = s.ws
        | none =>
          (∃ l, u.ws.load = some l ∧ l.cmd = some c ∧ l.man = m ∧ l.restore = true ∧ l.got = []) ∧ asked u ∧
            u = { s with ws := { s.ws with load := u.ws.load }, out := u.out, ports := u.ports })) ∧
    (∀ blob : List Byte, Ready 0x21 c s → s.secu.serving = none → s.secu.wait = [] →
      let failed (u : State) : Prop := Completed c (.st stINVALID wsKEY) s u ∧ u.ws = s.ws
      (s.get R.SECU_STAT_DEBUG = 0 → cf c 80 16 = 168 → blob.length = 168 → numAt blob 0 2 = 1 → numAt blob 2 2 = 0 → numAt blob 121 7 = 0 →
        Leads (.keyImport c blob) s fun u =>
          match keyUnwrap ((blob.drop 24).take 97) ((blob.drop 8).take 16 ++ (blob.drop 4).take 4) (blob.drop 128) with
          | some k =>
            Completed c (.st stDONE 0) s u ∧ sget none u.ws.keys (cf c 64 4) = some ⟨k, (blob.drop 8).take 16, numAt blob 4 4⟩ ∧
              ∀ j, j ≠ cf c 64 4 → sget none u.ws.keys j = sget none s.ws.keys j
          | none => failed u) ∧
      (s.get R.SECU_STAT_DEBUG = 1 ∨ cf c 80 16 ≠ 168 ∨ blob.length ≠ 168 ∨ numAt blob 0 2 ≠ 1 → Leads (.keyImport c blob) s failed))

/-- CHUNK_ARRIVAL, FABRIC_RDRSP, FABRIC_RDERR, STAGED_REPORT and LOAD_DEADLINE: an ARRAY chunk that opens is kept in REF as ciphertext and taken in, in shard order (R366, R369), one that does not open is counted and fetched again, three times (R370); the bytes of a peer's REF follow in READ packets, a refused one is fetched again, and one whose peer lies in a pod out of reach fails the load (R268, R369, R370, R481); the slot is STAGED once every device has reported it, a failure of one device fails the load (R371), and so does the deadline (R371). -/
def Obligations.ShardsAreTakenAndStaged : Prop :=
  ∀ (s : State) (l : Load) (c : Cmd), Loading l c s →
    (∀ (i : Nat) (ch : Chunk), i = l.got.length → l.man.chunks[i]? = some ch → l.peer = false →
      (∀ code, sget 0 l.tries i < 3 → Leads (.chunkArrival i (.fail code)) s fun u =>
        ChunkRetried l i s u ∧ Out.fetch i c.port.val (cf c 160 4) (cf c 192 64 + i * 2 ^ 20) ch.len ∈ u.out) ∧
      (∀ code, 3 ≤ sget 0 l.tries i → Leads (.chunkArrival i (.fail code)) s (LoadFailed l c code s)) ∧
      (∀ (bs : List Byte) (k : MKey), bs.length = ch.len → ch.cls = clARRAY → i + 1 < l.man.chunks.length →
        sget none s.ws.keys (cf c 168 4) = some k → sget 0 l.tries i < 3 →
        ch.sector < 32 → refAddr l.man.chunks i l.slot + bs.length ≤ ch.sector * 2 ^ 33 + 0x180000000 → s.get (R.MC_STAT_STATE ch.sector) = 3 →
        (s.sec ch.sector).bad = [] → (s.sec ch.sector).soft = [] → (s.sec ch.sector).wTick ≠ s.now → Leads (.chunkArrival i (.data bs)) s fun u =>
          match s.openChunk k.key l.man i ch bs with
          | some _ =>
            (∃ l', u.ws.load = some l' ∧ l'.got = l.got ++ [i] ∧ l'.slot = l.slot) ∧ Counted R.CHUNK_CNT 1 s u ∧
              (let b := refAddr l.man.chunks i l.slot
               ∀ a, sget 0 u.stk a = if b ≤ a ∧ a < b + bs.length then bs.getD (a - b) 0 else sget 0 s.stk a)
          | none => ChunkRetried l i s u ∧ Counted R.TAG_FAIL_CNT 1 s u ∧ u.get R.WS_EVT_TAG_FAIL = 1)) ∧
    (∀ (p : FabPkt) (i : Nat) (ch : Chunk), i = l.got.length → l.man.chunks[i]? = some ch → l.fromPeer i = true → s.fabMine p = true →
      p.tag.getLsbD 15 = true → (l.reads.find? fun r => r.1 == bits p.tag.toNat 0 11) = some (bits p.tag.toNat 0 11, i) →
      (cf c 268 12 ≠ s.ownPod → s.hasSpine = false → sget 0 l.tries i < 3 → Leads (.fabricRderr p) s (LoadFailed l c 8 s)) ∧
      (cf c 268 12 = s.ownPod ∨ s.hasSpine = true → (sget [] l.bytes i ++ p.data).length < ch.len → Leads (.fabricRdrsp p) s fun u =>
        ∃ l', u.ws.load = some l' ∧ sget [] l'.bytes i = sget [] l.bytes i ++ p.data ∧ (s.ws.nread % 2 ^ 11, i) ∈ l'.reads ∧ l'.got = l.got) ∧
      (cf c 268 12 = s.ownPod ∨ s.hasSpine = true → sget 0 l.tries i < 3 → Leads (.fabricRderr p) s (ChunkRetried l i s))) ∧
    (∀ p : FabPkt, s.fabMine p = false → (s.fabRoute p).2 = true →
      Leads (.fabricRdrsp p) s (fun u => u = (s.fabRoute p).1) ∧ Leads (.fabricRderr p) s (fun u => u = (s.fabRoute p).1)) ∧
    (s.isIngress = true → ∀ k, 0 < k → k < s.sliceN → (∀ r ∈ l.reports, r.2 = none) →
      ((∃ j, j < s.sliceN ∧ j ≠ k ∧ ∀ r ∈ l.reports, r.1 ≠ j) → Leads (.stagedReport k none) s fun u =>
        u = { s with ws := { s.ws with load := some { l with reports := l.reports ++ [(k, none)] } } }) ∧
      ((∀ j, j < s.sliceN → j ≠ k → ∃ r ∈ l.reports, r.1 = j) → Leads (.stagedReport k none) s fun u =>
        u.ws.load = none ∧ u.get (R.SLOT_STATE l.slot) = slSTAGED ∧ u.get (R.SLOT_REF_VALID l.slot) = 1 ∧ u.get (R.SLOT_EXP_VALID l.slot) = 1 ∧
          sget none u.ws.mans l.slot = some l.man ∧ Counted R.LOAD_CNT 1 s u ∧ Completed c { Done.st stDONE 0 with result := l.man.version, clamped := loadClamped c } s u) ∧
      (∀ reason, Leads (.stagedReport k (some reason)) s (LoadFailed l c wsPEER s))) ∧
    (s.isIngress = true → l.deadline ≤ s.now → Leads .loadDeadline s (LoadFailed l c (if l.done then wsPEER else wsDEADLINE) s))

/-- A request bound to slot `k` is rebuilt on the ACTIVE slot: at once, or at its commit point when it is in flight (R342, R380). -/
def Sys2Proof.Machine.Rebuilt (k : Nat) (s u : State) : Prop :=
  ∀ i r, s.serve.reqs = [(i, r)] → r.live = true → r.slot = k →
    (r.inflight = true → u.req i = { r with pendRebuild := true }) ∧
    (r.inflight = false → (u.req i).st = .rebuild ∧ (u.req i).slot = s.activeSlot.getD 0 ∧ (u.req i).next = 0 ∧ (u.req i).seq = r.seq)

/-- The switch is given up: no record is kept, its command completes with FAULT, the slots stay (R378). -/
def Sys2Proof.Machine.SwitchFailed (w : Switch) (reason : Nat) (s u : State) : Prop :=
  u.ws.switch = none ∧ u.ws.record = none ∧ Completed w.cmd { Done.st stFAULT reason with clamped := w.clamped } s u ∧ ∀ k, k < 2 → u.slotSt k = s.slotSt k

/-- VERSION_SWITCH, ABANDON, SWITCH_RECORD_ACK, SWITCH_ACK_TIMEOUT, DRAIN_END and DRAIN_TIMEOUT: a switch of the STAGED slot takes the step after every mark and waits for every device's record (R378), without a STAGED slot it is INVALID, while one is scheduled BUSY; ABANDON frees the STAGED slot, or ends the load, until every device has acknowledged (R381); the mark for S is written when all have, a refusal or 10 ms end the switch (R377, R378); at DRAIN_END or DRAIN_S after S the requests left on the DRAINING slot are rebuilt (R380). -/
def Obligations.VersionsSwitchAndDrain : Prop :=
  ∀ s : State,
    (∀ c : Cmd, Ready 0x22 c s →
      (s.isIngress = false → Leads (.versionSwitch c) s (Completed c (.st stINVALID 3) s) ∧ Leads (.abandon c) s (Completed c (.st stINVALID 3) s)) ∧
      (s.isIngress = true →
        (cf c 64 1 = 0 → s.stagedSlot = none → Leads (.versionSwitch c) s fun u => Completed c (.st stINVALID 4) s u ∧ u.ws = s.ws) ∧
        (cf c 64 1 = 0 → ∀ k, s.stagedSlot = some k →
          (s.ws.switch = none → cf c 96 32 = 0 → Leads (.versionSwitch c) s fun u =>
            let n := max (s.get R.STEP_NOW_N) s.tm.lastMark.1 + 1
            (∃ w, u.ws.switch = some w ∧ w.cmd = c ∧ w.step = n ∧ w.slot = k ∧ w.fetched = s.now ∧ w.leadUs = 1000 ∧ w.acks = [] ∧ w.marked = false ∧
              w.drainS = (if cf c 80 16 = 0 then 120 else cf c 80 16) ∧ w.rebuild = (cf c 65 1 == 1)) ∧
            (∃ t t', (HuItem.switchRec n k, t, t') ∈ u.hu) ∧ (∀ j, 0 < j → j < s.sliceN → Out.toDevice j "switch" [n, k] ∈ u.out) ∧ u.regs = s.regs) ∧
          (s.ws.switch.isSome = true → Leads (.versionSwitch c) s fun u => Completed c (.st stBUSY rsINUSE) s u ∧ u.ws = s.ws)) ∧
        (∀ i : Instr, i = .abandon c ∨ (i = .versionSwitch c ∧ cf c 64 1 = 1) →
          (s.ws.switch = none → s.ws.load = none → ∀ k, s.stagedSlot = some k → Leads i s fun u =>
            u.slotSt k = slFREE ∧ Completed c (.st stDONE 0) s u) ∧
          (s.ws.switch = none → ∀ l, s.ws.load = some l → l.restore = false → l.slot < 2 → Leads i s fun u =>
            u.ws.load = none ∧ u.slotSt l.slot = slFREE ∧ Counted R.LOAD_FAIL_CNT 1 s u) ∧
          (s.ws.switch = none → s.ws.load = none → s.stagedSlot = none → Leads i s fun u => Completed c (.st stINVALID 4) s u ∧ u.ws = s.ws) ∧
          (∀ w, s.ws.switch = some w → s.allAcked w = true → Leads i s fun u => Completed c (.st stBUSY rsINUSE) s u ∧ u.ws = s.ws)))) ∧
    (∀ w, s.ws.switch = some w → s.isIngress = true → s.allAcked w = false → InFlight true 0x22 w.cmd s →
      (∀ k, 0 < k → k < s.sliceN →
        (∀ reason, Leads (.switchRecordAck k (some reason)) s (SwitchFailed w wsHOLDUP s)) ∧
        (w.marked = false → (∃ j, j < s.sliceN ∧ j ≠ k ∧ j ∉ w.acks) → k ∉ w.acks → Leads (.switchRecordAck k none) s fun u =>
          u = { s with ws := { s.ws with switch := some { w with acks := w.acks ++ [k] } } }) ∧
        (w.marked = false → (∀ j, j < s.sliceN → j ≠ k → j ∈ w.acks) → s.tm.marks.length < 8 → Leads (.switchRecordAck k none) s fun u =>
          ∃ t, u.tm.marks = s.tm.marks ++ [(w.step, t)] ∧ u.tm.lastMark = (w.step, t) ∧ s.tm.lastMark.2 < t ∧
            s.tm.time + usTicks (s.get R.TC_CTL_LEAD_MIN) ≤ t ∧ (∃ w', u.ws.switch = some w' ∧ w'.marked = true) ∧ u.regs = s.regs)) ∧
      (w.fetched + usTicks 10000 ≤ s.now → Leads .switchAckTimeout s (SwitchFailed w wsPEER s))) ∧
    (∀ c : Cmd, Ready 0x23 c s →
      (s.drainingSlot = none → Leads (.drainEnd c) s fun u => Completed c (.st stINVALID 4) s u ∧ u.ws = s.ws) ∧
      (∀ k, s.drainingSlot = some k → Leads (.drainEnd c) s fun u =>
        Rebuilt k s u ∧ u.ws.drainAt = none ∧ Completed c { Done.st stDONE 0 with result := (s.liveReqs.filter fun e => e.2.slot == k).length } s u)) ∧
    (∀ t k, s.ws.drainAt = some t → s.drainingSlot = some k → t ≤ s.now → Leads .drainTimeout s fun u => Rebuilt k s u ∧ u.ws.drainAt = none)

/-! ### Programming, refresh, the hold-up check, spares -/

/-- The columns a programming slot works on, and their targets in 1/128 level step (R373, R374). -/
def Sys2Proof.Machine.ProgAim (t : Site) (a : ArrIx) (p : ProgRun) (g : ProgGrp) (col : Nat) (s : State) : Int :=
  clampInt 0 1920 (target128 p.code p.weights (s.spareCols t a) g.row col + (if g.row < 128 then sget 0 g.carry col else 0))

/-- The columns of a run: its one spare column, or those of group `k` (R15, R437). -/
def Sys2Proof.Machine.progCols (p : ProgRun) (k : Nat) : List Nat := match p.only with | some c => [512 + c] | none => groupCols k

/-- PROG_SLOT and PROGRAMMING_BATCH_COMPLETE: a slot is one pulse to every cell whose reading lies outside VTOL, or one verify, after which the row of the group is done when every cell lies within VTOL (R374); a programming slot of 32 cycles is granted to an array that is IDLE with no operation queued for it, or once PROG_SHARE operations have run while it was pending (R20, R45), to the first group in turn that has rows left (R374); a plane of a complete batch shows its code and gain, and its wear and PROG_PLANE_CNT have counted it (R373, R387). -/
def Sys2Proof.Machine.WeightsAreProgrammedRule : Prop :=
  ∀ s : State,
    (∀ (t : Site) (a : ArrIx) (k : Fin 4) (p : ProgRun) (g : ProgGrp), ((s.tile t).ctl a.val).prog = some p → p.grps[k.val]? = some g → p.nextGrp = some k.val →
      ((s.tile t).ctl a.val).st = .idle → ((s.tile t).ctl a.val).op = none → (s.tile t).fenced = false → (s.tile t).clkOff = false →
      (s.tile t).queuedFor a = false ∨ s.get (R.ASEQ_CTL_PROG_SHARE t.val) ≤ ((s.tile t).ctl a.val).share → (∀ j ∈ s.ws.jobs, j.what ≠ .spare) →
        let far (col : Nat) : Prop := 8 * (s.get R.PROG_CFG_VTOL : Int) < |8 * (s.cell t a p.plane g.row col : Int) - ProgAim t a p g col s|
        let after (u : State) (g' : ProgGrp) : Prop :=
          ((u.tile t).ctl a.val).prog = some { p with grps := setAt p.grps k.val g', turn := (k.val + 1) % 4 } ∧ ((u.tile t).ctl a.val).st = .prog ∧
            ((u.tile t).ctl a.val).slotEnd = s.now + 32 ∧ ((u.tile t).ctl a.val).share = 0 ∧ Counted (R.PROG_SLOT_CNT t.val) 1 s u ∧ OtherTiles t s u
        (g.pulse = true → Leads (.progSlot t a k) s fun u =>
          after u { g with pulse := false, pulses := g.pulses + 1 } ∧
            (∀ x, sget 128 u.cells x ≠ sget 128 s.cells x → ∃ col ∈ progCols p k, far col ∧ x = cellKey t a p.plane g.row col)) ∧
        (g.pulse = false → (∃ col ∈ progCols p k, far col) → g.pulses < s.get R.PROG_CFG_PMAX → Leads (.progSlot t a k) s fun u =>
          after u { g with pulse := true } ∧ u.cells = s.cells) ∧
        (g.pulse = false → (∀ col ∈ progCols p k, ¬far col) → 128 ≤ g.row → Leads (.progSlot t a k) s fun u =>
          after u { g with row := g.row + 1, pulses := 0 } ∧ u.cells = s.cells ∧ u.out = s.out)) ∧
    (∀ (j : Job) (e : Nat × ArrRec), s.ws.jobs = [j] → j.what = .refresh → j.batch = [e] → s.progOver e = true → s.ws.load = none →
      e.2.code < 4 → e.2.gain < 2 → Leads .programmingBatchComplete s fun u =>
        let t := progSite e
        let a := progArr e
        let wear : FRef := if progPlane e then R.WEAR_P1 (64 * t.val + a.val) else R.WEAR_P0 (64 * t.val + a.val)
        u.pcode t a (progPlane e) = e.2.code ∧ u.pgain t a (progPlane e) = e.2.gain ∧ Counted wear 1 s u ∧ Counted R.PROG_PLANE_CNT 1 s u ∧
          ((u.tile t).ctl a.val).prog = none ∧ u.ws.jobs = [{ j with batch := [] }] ∧
          (s.get R.WEAR_CFG_WEAR_WARN ≤ u.get wear → u.get R.WS_EVT_WEAR_WARN = 1))

/-- The stored energy is at least twice an estimate in µJ: E = C/2 times the mean of sixteen V², less VMIN² (R377). -/
def Sys2Proof.Machine.EnergyFor (est : Nat) (s : State) : Prop :=
  s.ws.vhu.length = 16 ∧ s.now ≤ s.ws.vhuAt + msTicks 1 ∧ 0 < s.get R.HU_CAP_C_UF ∧
    2 * est * 512000000 + s.get R.HU_CAP_C_UF * (256 * s.get R.HU_CAP_VMIN_MV * s.get R.HU_CAP_VMIN_MV) ≤ s.get R.HU_CAP_C_UF * (s.ws.vhu.sum * s.ws.vhu.sum)

/-- HOLDUP_CHECK: work starts when the stored energy is twice its estimate, a batch once PROG_EN is high and VDD_PROG within 2 percent of 2.50 V; else the check is repeated in 1 ms and counted, and at WAIT_MS refused: work of a command is given up, a write of the part's own records asked for again (R377, R490). -/
def Obligations.HoldupChecksGateTheWrites : Prop :=
  ∀ (s : State) (e : HuItem × Nat × Nat), s.hu = [e] → e.2.2 ≤ s.now →
    let est := s.get R.HU_EST_ECFG_UJ
    let late := e.2.1 + msTicks (s.get R.HU_EST_WAIT_MS) ≤ s.now
    (e.1 = .powered →
      (EnergyFor est s → Leads .holdupCheck s fun u =>
        u.cfg = { s.cfg with powered := s.get R.POWERED_S_S } ∧ u.hu = [] ∧ u.get R.HU_STAT_PASS = 1 ∧ u.get R.HU_STAT_V_MV = s.ws.vhu.sum / 16 % 2 ^ R.HU_STAT_V_MV.w) ∧
      (¬EnergyFor est s → ¬late → Leads .holdupCheck s fun u =>
        u.cfg = s.cfg ∧ u.hu = [(e.1, e.2.1, s.now + msTicks 1)] ∧ Counted R.HOLDUP_WAIT_CNT 1 s u ∧ u.get R.HU_STAT_PASS = 0) ∧
      (¬EnergyFor est s → late → Leads .holdupCheck s fun u =>
        u.cfg = s.cfg ∧ u.hu = [(e.1, s.now, s.now + msTicks 1)] ∧ Counted R.HOLDUP_REFUSE_CNT 1 s u ∧ u.get R.WS_EVT_HOLDUP_REFUSE = 1)) ∧
    (∀ v, e.1 = .fab v →
      (EnergyFor est s → Leads .holdupCheck s fun u => u.cfg = { s.cfg with fab := v } ∧ u.hu = []) ∧
      (¬EnergyFor est s → late → Leads .holdupCheck s fun u => u.cfg = s.cfg ∧ u.hu = [] ∧ Counted R.HOLDUP_REFUSE_CNT 1 s u)) ∧
    (e.1 = .batch → s.nextJob.isSome = true →
      (s.board.progEn = false → Leads .holdupCheck s fun u =>
        u.board = { s.board with progEn := true } ∧ u.hu = [(e.1, e.2.1, s.now + msTicks 1)] ∧ u.ws.jobs = s.ws.jobs) ∧
      (∀ j x, s.board.progEn = true → s.ws.jobs = [j] → j.what = .refresh → j.todo = [x] → 1 ≤ s.get R.PROG_CFG_BATCH →
        EnergyFor (s.get R.HU_EST_EARR_UJ + s.get R.HU_EST_EFIX_UJ) s → s.progRail = true → Leads .holdupCheck s fun u =>
          u.ws.jobs = [{ j with todo := [], batch := [x], since := some s.now }] ∧
            (∃ p, ((u.tile (progSite x)).ctl (progArr x).val).prog = some p ∧ p.plane = progPlane x ∧ p.weights = x.2.weights) ∧
            u.get (plockF (progSite x) (progArr x) (progPlane x)) = 1))

/-- REFRESH_AGE, REFRESH_REQ, REFRESH_START and REFRESH_COMPLETE: a tile is queued once AGE_DAYS have passed or GO names it (R383, R388); the first of the queue starts when the other slot is FREE and its REF is valid, fewer than MAXT + 1 tiles being refreshed, else its deferral is counted once, and wear blocks it (R384, R387); at its end PSWAP flips and the old planes are EMPTY (R384). -/
def Sys2Proof.Machine.RefreshRewritesATileRule : Prop :=
  ∀ (s : State) (l : Fin 256),
    (s.get R.REFRESH_CFG_EN = 1 → s.activeSlot.isSome = true → s.refreshing l.val = false →
      let queued (u : State) : Prop := u = { s with ws := { s.ws with queue := s.ws.queue ++ [(l.val, false)] } }
      (∀ a, s.activeSlot = some a → sget 0 s.ws.born (2 * l.val + a) + s.get R.REFRESH_CFG_AGE_DAYS * usTicks 86400000000 ≤ s.now →
        Leads (.refreshAge l) s queued) ∧
      (∀ (src : Partner) (v : BitVec 32), Passes src 0x800078 s → v.toNat = 2 ^ 31 + l.val → Leads (.refreshReq src v) s fun u =>
        u.ws = { s.ws with queue := s.ws.queue ++ [(l.val, false)] } ∧ u.out = s.out)) ∧
    (∀ a b rest, s.activeSlot = some a → s.ws.queue = (l.val, b) :: rest →
      (s.refreshMay a = false → Leads .refreshStart s fun u =>
        u.ws = { s.ws with queue := s.ws.queue.map fun e => (e.1, true) } ∧
          Counted R.REFRESH_WAIT_CNT (s.ws.queue.filter fun e => !e.2).length s u ∧ OnlyRegs [R.REFRESH_WAIT_CNT] { s with ws := u.ws } u) ∧
      (s.refreshMay a = true → s.refreshRoom l.val = true →
        ((∀ x : ArrIx, s.worn (s.siteOf l.val) x (s.physPlane (s.siteOf l.val) x (a == 0)) = false) → (∀ n, (s.sec n).bad = [] ∧ (s.sec n).soft = []) → ∀ rs, s.refRecords a (l.val / 8) = some rs →
          Leads .refreshStart s fun u =>
            (∃ j, u.ws.jobs = s.ws.jobs ++ [j] ∧ j.what = .refresh ∧ j.tile = l.val ∧ j.slot = a ∧ j.batch = [] ∧
              j.todo.map (·.2) = rs.filter fun x => x.tile == l.val) ∧
            u.ws.queue = s.ws.queue.filter (fun e => e.1 != l.val) ∧
              RegsBut ((List.range 32).flatMap fun n => [R.LATT_BYTES n, R.ADDR_ERR_CNT n, R.MC_EVT_ADDR_ERR n]) s u) ∧
        ((∃ x : ArrIx, s.worn (s.siteOf l.val) x (s.physPlane (s.siteOf l.val) x (a == 0)) = true) → Leads .refreshStart s fun u =>
          u.ws = { s.ws with queue := s.ws.queue.filter fun e => e.1 != l.val } ∧ Counted R.WEAR_BLOCK_CNT 1 s u ∧ u.get R.WS_EVT_WEAR_BLOCK = 1))) ∧
    (∀ j, s.ws.jobs = [j] → j.what = .refresh → j.tile = l.val → j.todo = [] → j.batch = [] → s.fe.repairs = [] → Leads (.refreshComplete l) s fun u =>
      let t := s.siteOf l.val
      u.ws.jobs = [] ∧ Counted R.REFRESH_CNT 1 s u ∧ u.get (R.PSWAP_PSWAP t.val) = Nat.xor (s.get (R.PSWAP_PSWAP t.val)) (2 ^ 64 - 1) % 2 ^ 64 ∧
        ∀ a : ArrIx, u.pcode t a (s.physPlane t a (j.slot == 1)) = 3 ∧ u.get (plockF t a false) = 0 ∧ u.get (plockF t a true) = 0)

/-- Weights are programmed within tolerance and refreshed: WeightsAreProgrammedRule and RefreshRewritesATileRule. -/
def Obligations.WeightsAreProgrammedAndRefreshed : Prop := WeightsAreProgrammedRule ∧ RefreshRewritesATileRule

/-- SCRATCHPAD_COPY_COMPLETE, SPARE_PROGRAMMED, SPARE_TIME and COLUMN_REPAIR_COMPLETE: 32,768 cycles after the fence the spare's scratchpad holds the tile's (R443); with its planes programmed too, the map names the spare and its vector core starts (R385, R443); a spare that takes longer than LIM_MS is a device fault (R385); a repaired column waits for its record to become valid (R437). -/
def Obligations.SparesTakeTheirTile : Prop :=
  ∀ (s : State) (l : Fin 256) (t0 : Nat), (s.siteOf l.val).val % 9 ≠ 8 →
    let t := s.siteOf l.val
    let u' := spareSite t.val
    (∀ n : Sector, swf 0 s.sp = true → s.ws.spares = [(l.val, t0, false, false)] → l.val / 8 = n.val → t0 + 32768 ≤ s.now → s.fe.repairs = [] →
      Leads (.scratchpadCopyComplete n) s fun u =>
        u.ws.spares = [(l.val, t0, false, true)] ∧ (∀ a, a < 2 ^ 21 → sget 0 u.sp (spKey u' a) = sget 0 s.sp (spKey t a)) ∧
          (∀ k, k / 2 ^ 21 ≠ u'.val → sget 0 u.sp k = sget 0 s.sp k)) ∧
    (∀ (j : Job) (copied : Bool), s.ws.jobs = [j] → j.what = .spare → j.tile = l.val → j.todo = [] → j.batch = [] → s.fe.repairs = [] →
      s.ws.spares = [(l.val, t0, false, copied)] → Leads (.spareProgrammed l) s fun u =>
        Counted R.SPARE_PROG_CNT 1 s u ∧ u.get R.WS_EVT_SPARE_DONE = 1 ∧ u.ws.jobs = [] ∧
          (copied = false → u.ws.spares = [(l.val, t0, true, false)]) ∧
          (copied = true → u.ws.spares = [] ∧ u.get (R.REMAP_SITE l.val) = u'.val ∧ u.get (R.REMAP_ADOPTED l.val) = 1 ∧ Counted R.FENCE_CNT 1 s u)) ∧
    (s.ws.spares = [(l.val, t0, false, false)] → t0 + usTicks (1000 * s.get R.SPARE_CFG_LIM_MS) ≤ s.now → s.get R.STATE_STATE ≠ devFAULT →
      Leads (.spareTime l) s fun u =>
        u.get R.STATE_STATE = devFAULT ∧ u.get R.FLT_CAUSE_CAUSE = 5 ∧ u.get R.FLT_CAUSE_SITE = t.val ∧ u.get R.FLT_CAUSE_VALID = 1 ∧ u.board.faultN = true) ∧
    (∀ (a : ArrIx) (k : Fin 8) (j : Job), s.logicalOf t.val = some l.val → s.ws.jobs = [j] → j.what = .column k.val → j.slot = a.val → j.tile = l.val →
      j.todo = [] → j.batch = [] → (t.val, a.val, k.val) ∈ s.fe.repairs → Leads (.columnRepairComplete t a k) s fun u =>
        u.ws = { s.ws with jobs := [] } ∧ (∃ x y, (HuItem.entry t.val a.val k.val, x, y) ∈ u.hu) ∧ u.regs = s.regs)

/-! ### The fault engine -/

/-- The event has been logged: the last entry of the fault log, with TIME and the action taken (R428). -/
def Sys2Proof.Machine.Logged (e : FaultEv) (act : Nat) (s u : State) : Prop :=
  u.fe.log = s.fe.log ++ [(e, s.tm.time, act)] ∧ Counted R.EVT_CNT 1 s u ∧
    u.get R.FLT_LOG_HEAD_NEXT = (s.get R.FLT_LOG_HEAD_NEXT + 1) % 2 ^ R.FLT_LOG_HEAD_NEXT.w

/-- FAULT_EVENT: an event comes in its turn as an EVT message, one met with an uncorrectable error is dropped (R215, R218); every event is logged (R428) and one whose device is in FAULT no more than that (R452); events of the device and of stacks put it in FAULT with their cause (R429, R453), NET events once NET_UE_LIM of a router fall within an hour (R429); an event of a tile waits while a decision is in progress, at most sixteen (R429), is merged while its site is BUSY (R433), and a CHK_FAIL else asks for an out-of-turn test of its array (R439). -/
def Obligations.FaultEventsAreLoggedAndDecided : Prop :=
  ∀ (s : State) (e : FaultEv) (err : NetErr) (l : List TanFly), TanTurn (.fault e) s l →
    (∀ h, Leads (.faultEvent e (.uncorrectable h)) s (TanDropped l s)) ∧
    exec (.faultEvent e err true) s = .next s ∧
    (Sound err → s.fe.log.length < 65536 →
    (s.get R.STATE_STATE = devFAULT → Leads (.faultEvent e err) s fun u => Logged e 0 s u ∧ u.fe = { s.fe with log := u.fe.log } ∧ u.hu = s.hu ∧ u.tan = l ∧ TanCounted err s u) ∧
    (s.get R.STATE_STATE ≠ devFAULT → s.fe.repairs = [] → s.ws.spares = [] → 
      (s.fe.deciding = none →
        (∀ p ∈ ([(0x0C, 0xA), (0x10, 2), (0x16, 8), (0x17, 9), (0x18, 5)] : List (Nat × Nat)), e.kind.toNat = p.1 → Leads (.faultEvent e err) s fun u =>
          Logged e 0 s u ∧ u.get R.STATE_STATE = devFAULT ∧ u.get R.FLT_CAUSE_CAUSE = p.2 ∧ u.get R.FLT_CAUSE_SITE = e.site.toNat ∧
            u.get R.FLT_CAUSE_VALID = 1 ∧ u.board.faultN = true) ∧
        (e.kind = 0x0E →
          let old := s.fe.net.filter fun x => decide (s.get R.POWERED_S_S < x.2 + 3600)
          ((old.filter fun x => x.1 == e.site.toNat).length + 1 < s.get R.FLT_CTL_NET_UE_LIM → Leads (.faultEvent e err) s fun u =>
            Logged e 0 s u ∧ u.fe.net = old ++ [(e.site.toNat, s.get R.POWERED_S_S)] ∧ u.get R.STATE_STATE = s.get R.STATE_STATE) ∧
          (s.get R.FLT_CTL_NET_UE_LIM ≤ (old.filter fun x => x.1 == e.site.toNat).length + 1 → Leads (.faultEvent e err) s fun u =>
            u.get R.STATE_STATE = devFAULT ∧ u.get R.FLT_CAUSE_CAUSE = 7)) ∧
        (∀ (t : Site) (a : ArrIx), e.kind = 0x02 → e.site.toNat = t.val → e.array.toNat = a.val → ((s.tile t).ctl a.val).ootAt = none →
          (s.isBusy t.val = true → Leads (.faultEvent e err) s fun u =>
            Counted R.MERGE_CNT 1 s u ∧ (u.histOf t.val).merged = (s.histOf t.val).merged + 1 ∧
              (u.histOf t.val).chkEvt = (s.histOf t.val).chkEvt + 1 ∧ u.tiles = s.tiles) ∧
          (s.isBusy t.val = false → (s.histOf t.val).status ≠ 2 → s.get R.FLT_CTL_TEST ≠ 0 → Leads (.faultEvent e err) s fun u =>
            Logged e 1 s u ∧ (u.histOf t.val).chkEvt = (s.histOf t.val).chkEvt + 1 ∧ u.fe.deciding = some (s.now + usTicks 20) ∧
              (t.val, 1, e) ∈ u.fe.busy ∧ OtherTiles t s u ∧
              ((u.tile t).ctl a.val).due = ((s.tile t).ctl a.val).due ++ [⟨none, ((s.tile t).ctl a.val).ksVec, none, e.wplane, 2, none, none, ((s.tile t).ctl a.val).ops⟩]))) ∧
      (∀ t, s.fe.deciding = some t → s.now < t → 2 ≤ e.kind.toNat → e.kind.toNat ≤ 0xB → e.site.toNat < 288 →
        (s.fe.pend.length < 16 → Leads (.faultEvent e err) s fun u =>
          Logged e 0 s u ∧ u.fe = { s.fe with log := u.fe.log, pend := s.fe.pend ++ [e] } ∧ u.tiles = s.tiles) ∧
        (16 ≤ s.fe.pend.length → Leads (.faultEvent e err) s fun u => u.get R.STATE_STATE = devFAULT ∧ u.get R.FLT_CAUSE_CAUSE = 4))))

/-- KNOWN_SUM_TEST, KNOWN_SUM_TEST_RESULT, FLEET_TEST and FLEET_PACKAGE: an IDLE array that has counted 2^KS_LOG operations runs its next vector on the plane next in turn while ASEQ_CTL.ENABLE stands (R47, R434, R435); a test that fails is repeated as the array's next operation, one whose repeat fails in the same column is confirmed, one whose repeat does not is unconfirmed (R436); once FLEET_PERIOD has passed every array has the tests of the stored package due (R441); a package whose form and signature hold and whose version is newer is stored at its hold-up check, another is refused (R440). -/
def Obligations.ArraysAreTestedAgainstKnownSums : Prop :=
  ∀ s : State,
    (∀ (t : Site) (a : ArrIx), 
      let c := (s.tile t).ctl a.val
      c.st = .idle → c.op = none → c.res = none → (s.tile t).awake = true → s.get (R.ASEQ_CTL_ENABLE t.val) = 1 → c.due = [] → s.get R.FLT_CTL_TEST ≠ 0 → 2 ^ s.get R.FLT_CTL_KS_LOG ≤ c.ksCnt → s.testHeld t a = false →
        (∀ p, s.ksNext t a = some p → Leads (.knownSumTest t a) s fun u =>
          let c' := (u.tile t).ctl a.val
          (∃ op, c'.op = some op ∧ op.test = some ⟨none, c.ksVec, none, p, 2, none, none, c.ops⟩ ∧ op.plane = p) ∧ c'.ksVec = (c.ksVec + 1) % 16 ∧
            c'.ksPlane = p ∧ c'.ksCnt = 0 ∧ c'.st ≠ .idle ∧ OtherTiles t s u) ∧
        (s.ksNext t a = none → Leads (.knownSumTest t a) s fun u =>
          ((u.tile t).ctl a.val) = { c with ksCnt := 0 } ∧ OtherTiles t s u)) ∧
    (∀ (t : Site) (a : ArrIx), s.get (R.ASEQ_CTL_ENABLE t.val) ≠ 1 → Leads (.knownSumTest t a) s fun u => u = s) ∧
    (∀ (t : Site) (a : ArrIx) (r : TestRes) (l : Nat) (bs : List Byte), ((s.tile t).ctl a.val).res = some r → r.op.codes = none → r.op.fleet = none →
      s.logicalOf t.val = some l →
      (s.dmaStackRead (srcAcc 5 false 0xFFFFFFFF .clean) (expAddr (s.physPlane t a r.op.plane).toNat l a.val r.op.v 0) 2112).2 = .bytes bs →
        let fails := ksFails (s.get R.FLT_KS_KS_TOL) r.lsb r.w ((List.range 528).map fun j => sxNat 32 (numAt bs (4 * j) 4))
        (r.op.rep = none → fails = [] → Leads (.knownSumTestResult t a) s fun u =>
          ((u.tile t).ctl a.val) = { (s.tile t).ctl a.val with res := none } ∧ u.get R.KS_FAIL_CNT = s.get R.KS_FAIL_CNT) ∧
        (r.op.rep = none → fails ≠ [] → Leads (.knownSumTestResult t a) s fun u =>
          ((u.tile t).ctl a.val).due = { r.op with rep := some fails, firstHalf := none } :: ((s.tile t).ctl a.val).due ∧
            ((u.tile t).ctl a.val).res = none ∧ u.get R.KS_FAIL_CNT = s.get R.KS_FAIL_CNT) ∧
        (∀ first, r.op.rep = some first →
          ((∃ x ∈ fails, x ∈ first) → Leads (.knownSumTestResult t a) s fun u =>
            Counted R.KS_FAIL_CNT 1 s u ∧ u.get R.FLT_EVT_KS_FAIL = 1 ∧ ((u.tile t).ctl a.val).res = none ∧
              ∃ ev : FaultEv, Out.fault ev ∈ u.out ∧ ev.kind = 3 ∧ ev.site = BitVec.ofNat 9 t.val ∧ ev.array = BitVec.ofNat 6 a.val ∧
                ev.wplane = r.op.plane) ∧
          ((∀ x ∈ fails, x ∉ first) → Leads (.knownSumTestResult t a) s fun u =>
            Counted R.KS_UNCONF_CNT 1 s u ∧ (u.histOf t.val).ksUnconf = (s.histOf t.val).ksUnconf + 1 ∧ ((u.tile t).ctl a.val).res = none))) ∧
    (∀ p, s.cfg.pkg = some p → 2 ≤ s.get R.FLT_CTL_TEST → s.fe.fleetAt + usTicks (s.get R.FLT_KS_FLEET_PERIOD * 1000000) ≤ s.now →
      Leads .fleetTest s fun u =>
        u.fe = { s.fe with fleetAt := s.now } ∧
          ∀ (l : Nat) (a : ArrIx), let t := s.siteOf l
            (List.range 256).filter (fun k => s.siteOf k == t) = [l] → (s.tile t).fenced = false →
              (u.tile t).ctl a.val = { (s.tile t).ctl a.val with due := ((s.tile t).ctl a.val).due ++ fleetDue p ((s.tile t).ctl a.val).ops }) ∧
    (∀ (c : Cmd) (pkg : List Byte), Ready 0x30 c s →
      (pkg.length ≠ cf c 128 32 → Leads (.fleetPackage c pkg) s fun u => Completed c (.st stINVALID wsMANIFEST) s u ∧ u.hu = s.hu) ∧
      (pkg.length = cf c 128 32 → Leads (.fleetPackage c pkg) s fun u =>
        match s.parseFleet pkg with
        | none => Completed c (.st stINVALID wsMANIFEST) s u ∧ u.hu = s.hu
        | some p =>
          if s.cfg.pkg.any fun q => decide (p.ver ≤ q.ver) then Completed c (.st stINVALID wsVERSION) s u ∧ u.hu = s.hu
          else (∃ x y, (HuItem.fleet (some c) p, x, y) ∈ u.hu) ∧ InFlight true 0x30 c u))

/-- EBA_STALL, TMR_UPSET, PARITY_SCRUB, POWERED_S_STORE and SUSPECT_EXPIRY: a block OPEN for EBA_LIM is reported (R446); a hardened register with one copy that differs is corrected and counted, one whose three copies differ is read as copy 0 and reported at its site (R450); a register with a parity error is counted and reported, a counter among them zeroed (R451); POWERED_S is recorded once per powered hour (R432); a SUSPECT site whose failures have aged is GOOD again (R431). -/
def Obligations.RegistersAndHistoriesAreKept : Prop :=
  ∀ s : State,
    (∀ (t : Site) (b : Fin 32), ((s.tile t).blk b.val).opn = true → ((s.tile t).blk b.val).since + usTicks (s.get R.FLT_CTL_EBA_LIM) ≤ s.now →
      Leads (.ebaStall t b) s fun u =>
        Raised (fun ev => ev.kind = 0x0B ∧ ev.site = BitVec.ofNat 9 t.val ∧ ev.detail = BitVec.ofNat 8 b.val) s u ∧
          (u.tile t).blk b.val = { (s.tile t).blk b.val with since := s.now } ∧ OtherTiles t s u ∧ u.regs = s.regs) ∧
    (∀ r : RegCopy, isTmr r.off = true → r.off < 0x3200000 →
      (r.allDiffer = false → Leads (.tmrUpset r) s fun u =>
        Counted R.TMR_CORR_CNT 1 s u ∧ u.get R.FLT_EVT_TMR_CORR = 1 ∧ OnlyRegs [R.TMR_CORR_CNT, R.FLT_EVT_TMR_CORR] s u) ∧
      (r.allDiffer = true → Leads (.tmrUpset r) s fun u =>
        u = { s with out := u.out, tan := u.tan, regs := u.regs, fe := { s.fe with copies := u.fe.copies } } ∧
          Raised (fun ev => ev.aux = BitVec.ofNat 32 r.off ∧
            if 0x2000000 ≤ r.off then ev.kind = 9 ∧ ev.site = BitVec.ofNat 9 ((r.off - 0x2000000) / 0x10000) else ev.kind = 0xC ∧ ev.site = 0x1FF) s u ∧
          ∀ d k, regFind r.off regTable = some (d, k) →
            (∀ f ∈ fieldRefs (r.off - k) d.fields, u.get f = bits r.copy0.toNat f.lsb f.w) ∧ RegsBut (fieldRefs (r.off - k) d.fields) s u)) ∧
    (∀ off : Nat, isTmr off = false → (regFind off regTable).isSome = true → (∀ f ∈ ctrWord off, f.key ≠ R.PARITY_CNT.key) →
      Leads (.parityScrub off true) s (fun u =>
        Counted R.PARITY_CNT 1 s u ∧ (∀ f ∈ ctrWord off, u.get f = 0) ∧ RegsBut (R.PARITY_CNT :: ctrWord off) s u ∧
          u = { s with regs := u.regs, out := u.out, tan := u.tan } ∧
          Raised (fun ev => ev.aux = BitVec.ofNat 32 off ∧ ev.kind = if 0x2000000 ≤ off then 9 else 0xD) s u) ∧
      Leads (.parityScrub off false) s (fun u => u = s)) ∧
    (s.cfg.powered + 3600 ≤ s.get R.POWERED_S_S → Leads .poweredSStore s fun u =>
      (∃ x y, (HuItem.powered, x, y) ∈ u.hu) ∧ u = { s with hu := u.hu }) ∧
    (∀ t : Site, (s.histOf t.val).status = 1 → (∀ x ∈ (s.histOf t.val).ksT, x + 86400 < s.get R.POWERED_S_S) → Leads (.suspectExpiry t) s fun u =>
      u.histOf t.val = { s.histOf t.val with status := 0 } ∧ (∀ t', t' ≠ t.val → u.histOf t' = s.histOf t') ∧ u.regs = s.regs)

/-! ### Security and management -/

/-- A security message that is served: no other is, none waits, its version is 1, and start-up has reached step 4 (R465, R466). -/
def Sys2Proof.Machine.Heard (m : SecMsg) (s : State) : Prop :=
  s.secu.serving = none ∧ s.secu.wait = [] ∧ m.ver = 1 ∧ s.board.por = true ∧ 4 ≤ s.get R.STATE_STEP

/-- The message has its answer: sent, in its mailbox with DONE when it came by one, and counted (R465, R477, R478). -/
def Sys2Proof.Machine.Answered (m : SecMsg) (code rc : Nat) (data : List Byte) (s u : State) : Prop :=
  Out.secResp m.via code m.tag.toNat rc data ∈ u.out ∧ Counted R.MSG_CNT 1 s u ∧ u.secu.serving = none ∧
    ∀ p, mboxOf m.via = some p → sget Mailbox.init u.secu.mbox p = { sget Mailbox.init s.secu.mbox p with
      busy := false, done := true, resp := leBytes 1 code ++ leBytes 1 rc ++ leBytes 2 m.tag.toNat ++ leBytes 4 data.length ++ data }

/-- GET_INFO, GET_CERT, GET_REPORT, GET_RANDOM and HEALTH_TEST_FAILURE: an information answer carries the image slot that runs, its SVN and the counter (R465); bytes of a certificate are given within it alone (R462); a report holds its sequence number, the nonce and TIME and is signed with the identity key, NO_IDENTITY while the debug port is UNLOCKED, ENTROPY without entropy (R467, R468, R471); up to 48 random bytes are given while the entropy source is healthy, a failed health test ends that (R468). While a message is served, another of its transport is answered BUSY and one of any other transport waits its turn (R466). -/
def Obligations.IdentityIsReported : Prop :=
  ∀ (s : State) (m : SecMsg),
    (Heard m s →
      (m.payload = [] → Leads (.getInfo m) s fun u => ∃ d : List Byte, Answered m 1 rcOK d s u ∧ d.length = 35 ∧ d.take 16 = fixLen 16 Config.serial ∧
        numAt d 17 1 = s.get R.SECU_STAT_IMAGE % 256 ∧ numAt d 18 4 = imgSvn s.runImage % 2 ^ 32 ∧ numAt d 22 4 = s.cfg.boot.counter % 2 ^ 32 ∧
        numAt d 26 1 = s.get R.SECU_STAT_DEBUG % 256) ∧
      (m.payload.length = 7 →
        let i := numAt m.payload 0 1
        let off := numAt m.payload 1 4
        let len := numAt m.payload 5 2
        (i ≤ 3 → len ≤ 4032 → Leads (.getCert m) s fun u =>
          if off + len ≤ (Config.cert i).length then Answered m 2 rcOK (((Config.cert i).drop off).take len) s u else Answered m 2 rcINVALID [] s u) ∧
        (3 < i ∨ 4032 < len → Leads (.getCert m) s (Answered m 2 rcINVALID [] s))) ∧
      (m.payload.length = 48 →
        (s.get R.SECU_STAT_DEBUG = 1 → Leads (.getReport m) s (Answered m 3 rcNOID [] s)) ∧
        (s.get R.SECU_STAT_DEBUG = 0 → s.get R.SECU_STAT_RNG_OK = 0 → Leads (.getReport m) s (Answered m 3 rcENTROPY [] s)) ∧
        (s.get R.SECU_STAT_DEBUG = 0 → s.get R.SECU_STAT_RNG_OK = 1 → Leads (.getReport m) s fun u =>
          ∃ d : List Byte, Answered m 3 rcOK (d ++ ((s.draw 2).signed (sha384 d)).1) s u ∧ d.length = 608 ∧
            u.secu.seq = (s.secu.seq + 1) % 2 ^ 32 ∧ numAt d 4 4 = u.secu.seq ∧ (d.drop 32).take 48 = m.payload ∧ numAt d 80 8 = s.tm.time % 2 ^ 64 ∧
            numAt d 88 8 = s.get R.STEP_NOW_N % 2 ^ 64 ∧ Counted R.REPORT_CNT 1 s u)) ∧
      (m.payload.length = 1 →
        let n := numAt m.payload 0 1
        (n = 0 ∨ 48 < n → Leads (.getRandom m) s (Answered m 8 rcINVALID [] s)) ∧
        (1 ≤ n → n ≤ 48 → s.get R.SECU_STAT_RNG_OK = 0 → Leads (.getRandom m) s (Answered m 8 rcENTROPY [] s)) ∧
        (1 ≤ n → n ≤ 48 → s.get R.SECU_STAT_RNG_OK = 1 → Leads (.getRandom m) s fun u => (s.random n).1.length = n ∧ Answered m 8 rcOK (s.random n).1 s u ∧ u.secu.drbg = (s.random n).2.secu.drbg))) ∧
    (s.get R.SECU_STAT_RNG_OK = 1 → Leads .healthTestFailure s fun u =>
      u.get R.SECU_STAT_RNG_OK = 0 ∧ Counted R.RNG_FAIL_CNT 1 s u ∧ u.get R.SECU_EVT_RNG_FAIL = 1 ∧
        Raised (fun ev => ev.kind = 0x19) s u ∧ u = { s with regs := u.regs, out := u.out, tan := u.tan }) ∧
    (∀ x : SecMsg, s.secu.serving = some x → m.via ≠ .mctp → s.board.por = true → 4 ≤ s.get R.STATE_STEP →
      ∀ i ∈ ([(1, .getInfo m), (2, .getCert m), (3, .getReport m), (4, .enrolKey m), (5, .debugChallenge m), (6, .debugUnlock m), (7, .zeroise (.msg m)),
          (8, .getRandom m), (9, .deviceReset m)] : List (Nat × Instr)),
        (m.via = x.via → Leads i.2 s fun u => u = { s with out := s.out ++ [.secResp m.via i.1 m.tag.toNat rcBUSY []] }) ∧
        (m.via ≠ x.via → (∀ e ∈ s.secu.wait, e.2.via ≠ m.via) → Leads i.2 s fun u =>
          u.secu.wait = s.secu.wait ++ [(i.1, m)] ∧ u = { s with secu := u.secu } ∧
            ∀ p, mboxOf m.via = some p → (sget Mailbox.init u.secu.mbox p).busy = true))

/-- What ZEROISE leaves, by the bits of its scope: no key and a random bit generator seeded anew, no scratchpad byte, no KV, and with MODEL no slot and no reference copy (R470). -/
def Sys2Proof.Machine.Zeroised (scope : Nat) (s u : State) : Prop :=
  let gone (k : Nat) : Prop := ∀ n o, n < 32 → o < 2 ^ 33 → s.get (R.MREG_BASE_MIB n k) * 2 ^ 20 ≤ o →
    o < (s.get (R.MREG_BASE_MIB n k) + s.get (R.MREG_SIZE_MIB n k)) * 2 ^ 20 → sget 0 u.stk (n * 2 ^ 33 + o) = 0
  (scope.testBit 0 = true → u.ws.keys = [] ∧ ∃ n, u.secu.drbg = drbgSeed (Config.entropy n)) ∧ (scope.testBit 1 = true → u.sp = [] ∧ u.ws.scrubbed = true) ∧ (scope.testBit 2 = true → gone 7) ∧
    (scope.testBit 3 = true → u.slotSt 0 = slFREE ∧ u.slotSt 1 = slFREE ∧ gone 1 ∧ gone 2) ∧ Counted R.ZEROISE_CNT 1 s u ∧ u.get R.SECU_EVT_ZEROISE = 1

/-- ENROL_KEY, ZEROISE, DEBUG_CHALLENGE, DEBUG_UNLOCK, DEVICE_RESET and DOE_ABORT: an empty key slot is filled from the holder of the lock, an occupied one under its own key's authority, at its hold-up check, else DENIED (R463, R478); a zeroisation clears what its scope names (R469, R470); a challenge is in force until the next, an unlock with the debug key's authority over it, every slot being FREE, zeroises KEYS, SCRATCH and KV, clears the identity and opens the port (R471); a device reset by message needs MCTP and its key (R465); a DOE abort drops the request of its port, served or waiting (R466). -/
def Obligations.SecretsAreGuarded : Prop :=
  ∀ (s : State) (m : SecMsg),
    (Heard m s →
      (∀ slot, m.payload.length = 195 → slot = numAt m.payload 0 1 →
        let key := (m.payload.drop 2).take 97
        let waits (u : State) : Prop := u.secu.serving = some m ∧ (∃ x y, (HuItem.enrol m slot (some key), x, y) ∈ u.hu) ∧ u.cfg = s.cfg
        let denied (u : State) : Prop := Answered m 4 rcDENIED [] s u ∧ Counted R.DENIED_CNT 1 s u ∧ u.hu = s.hu ∧ u.cfg = s.cfg
        (4 ≤ slot → Leads (.enrolKey m) s (Answered m 4 rcINVALID [] s)) ∧
        (slot < 4 → numAt m.payload 1 1 = 0 → sget none s.cfg.keys slot = none → s.get R.SETUP_LOCK_HOLDER = viaLock m.via → Leads (.enrolKey m) s waits) ∧
        (slot < 4 → numAt m.payload 1 1 = 0 → sget none s.cfg.keys slot = none → s.get R.SETUP_LOCK_HOLDER ≠ viaLock m.via → Leads (.enrolKey m) s denied) ∧
        (∀ old, slot < 4 → numAt m.payload 1 1 = 0 → sget none s.cfg.keys slot = some old → Leads (.enrolKey m) s fun u =>
          if ecdsaVerify old (sha384 (fixLen 16 Config.serial ++ leBytes 1 slot ++ key ++ leBytes 4 (sget 0 s.cfg.seqs slot)))
            ((m.payload.drop 99).take 96) = true then waits u else denied u)) ∧
      (∀ scope, s.serve.reqs = [] → s.ws.load = none → s.ws.switch = none → s.ws.jobs = [] → scope % 16 ≠ 0 →
        m.payload = [BitVec.ofNat 8 scope] → scope < 256 → Leads (.zeroise (.msg m)) s fun u =>
          Zeroised scope s u ∧ Answered m 7 rcOK [BitVec.ofNat 8 (scope % 16)] s u) ∧
      (m.payload = [] →
        (s.get R.SECU_STAT_RNG_OK = 1 → Leads (.debugChallenge m) s fun u =>
          (s.random 48).1.length = 48 ∧ Answered m 5 rcOK (s.random 48).1 s u ∧ u.secu.challenge = some (s.random 48).1) ∧
        (s.get R.SECU_STAT_RNG_OK = 0 → Leads (.debugChallenge m) s fun u => Answered m 5 rcENTROPY [] s u ∧ u.secu.challenge = s.secu.challenge)) ∧
      (m.payload.length = 193 →
        (s.secu.challenge = none → Leads (.debugUnlock m) s fun u => Answered m 6 rcDENIED [] s u ∧ u.get R.SECU_STAT_DEBUG = s.get R.SECU_STAT_DEBUG) ∧
        (∀ ch, s.secu.challenge = some ch → s.serve.reqs = [] → s.ws.load = none → s.ws.jobs = [] → Leads (.debugUnlock m) s fun u =>
          let key := m.payload.take 97
          if (sha384 key == Config.debugDigestOf s.runImage.2 && ecdsaVerify key (sha384 (fixLen 16 Config.serial ++ ch)) (m.payload.drop 97)) = true then
            if s.slotSt 0 = slFREE ∧ s.slotSt 1 = slFREE then
              Answered m 6 rcOK [] s u ∧ u.get R.SECU_STAT_DEBUG = 1 ∧ u.get R.SECU_STAT_ID_OK = 0 ∧ Zeroised 7 s u
            else Answered m 6 rcBUSY [] s u ∧ u.get R.SECU_STAT_DEBUG = s.get R.SECU_STAT_DEBUG
          else Answered m 6 rcDENIED [] s u ∧ u.get R.SECU_STAT_DEBUG = s.get R.SECU_STAT_DEBUG)) ∧
      (m.via = .mctp → m.payload = [0xC3, 0xA5] → Leads (.deviceReset m) s fun u =>
        Cleared s u ∧ Booted s u ∧ Out.secResp m.via 9 m.tag.toNat rcOK [] ∈ u.out) ∧
      (m.payload.length = 2 → m.via ≠ .mctp ∨ m.payload ≠ [0xC3, 0xA5] → Leads (.deviceReset m) s fun u => Answered m 9 rcINVALID [] s u ∧ u.cfg = s.cfg)) ∧
    (∀ (c : Cmd) (scope : Nat), Ready 0x07 c s → s.serve.reqs = [] → s.ws.load = none → s.ws.switch = none → s.ws.jobs = [] → scope = cf c 64 4 → scope ≠ 0 →
      Leads (.zeroise (.ring c)) s fun u => Zeroised scope s u ∧ Completed c { Done.st stDONE 0 with result := scope } s u) ∧
    (∀ p : Port, s.secu.serving = some m →
      (m.via = (if p.val = 0 then Transport.doeA else Transport.doeB) → Leads (.doeAbort p) s fun u =>
        u.secu = { s.secu with serving := none, wait := s.secu.wait.filter fun e => e.2.via != m.via } ∧ u.regs = s.regs ∧ u.cfg = s.cfg) ∧
      (m.via ≠ (if p.val = 0 then Transport.doeA else Transport.doeB) → Leads (.doeAbort p) s fun u =>
        u = { s with secu := { s.secu with wait := s.secu.wait.filter fun e => e.2.via != if p.val = 0 then Transport.doeA else Transport.doeB } }))

/-- An MCTP message that is heard: from start-up step 4 on it counts (R472, R478). -/
def Sys2Proof.Machine.OnMctp (s : State) : Prop := s.board.por = true ∧ 4 ≤ s.get R.STATE_STEP

/-- SETDASA, ENTDAA, SET_ENDPOINT_ID, SET_EVENT_RECEIVER, GET_SENSOR_READING, PLATFORM_EVENT_MESSAGE_ACK and EFFECTER_WRITE: the dynamic address and the endpoint ID are those assigned (R472); a reading is that of the latest slow round (R473); after an acknowledgement the oldest event held is sent (R474); the effecters write PWR.BUDGET and the profile (R473); before step 4 a message is counted and dropped (R478). -/
def Sys2Proof.Machine.ManagementPortAnswersRule : Prop :=
  ∀ s : State,
    (∀ stat dyn : BitVec 7, s.board.aonAt.isSome = true →
      (stat.toNat = 0x30 + s.board.mgmtAddr → Leads (.setdasa stat dyn) s fun u => u.get R.MGMT_STAT_DADDR = dyn.toNat ∧ OnlyRegs [R.MGMT_STAT_DADDR] s u) ∧
      (stat.toNat ≠ 0x30 + s.board.mgmtAddr → Leads (.setdasa stat dyn) s fun u => u = s) ∧
      (s.get R.MGMT_STAT_DADDR = 0 → Leads (.entdaa dyn) s fun u => u.get R.MGMT_STAT_DADDR = dyn.toNat ∧ OnlyRegs [R.MGMT_STAT_DADDR] s u)) ∧
    (OnMctp s →
      (∀ eid : BitVec 8, eid ≠ 0 → eid ≠ 0xFF → Leads (.setEndpointId eid) s fun u =>
        u.get R.MGMT_STAT_EID = eid.toNat ∧ Out.pldm "SetEndpointID" 0 [(eid.toNat : Int)] ∈ u.out ∧ Counted R.MCTP_RX_CNT 1 s u) ∧
      (∀ eid : BitVec 8, Leads (.setEventReceiver eid) s fun u => u.secu = { s.secu with receiver := some eid.toNat } ∧ Counted R.MCTP_RX_CNT 1 s u) ∧
      (∀ id : BitVec 16,
        (id.toNat ∈ sensorIds → Leads (.getSensorReading id) s fun u =>
          u.out = s.out ++ [.pldm "GetSensorReading" 0 [sget 0 s.secu.sens id.toNat]] ∧ OnlyRegs [R.MCTP_RX_CNT] { s with out := u.out } u) ∧
        (id.toNat ∉ sensorIds → Leads (.getSensorReading id) s fun u =>
          u.out = s.out ++ [.pldm "GetSensorReading" 0x80 []] ∧ OnlyRegs [R.MCTP_RX_CNT] { s with out := u.out } u)) ∧
      (s.secu.unacked = true → Leads .platformEventMessageAck s fun u =>
        match s.secu.events with
        | [] => u.secu = { s.secu with unacked := false } ∧ u.out = s.out
        | e :: r => u.secu = { s.secu with events := r } ∧ u.out = s.out ++ [.event e.1 e.2]) ∧
      (∀ v : BitVec 32, s.get R.SETUP_LOCK_HOLDER = 0 ∨ s.get R.SETUP_LOCK_HOLDER = 3 →
        (500 ≤ v.toNat → v.toNat ≤ 950 → Leads (.effecterWrite 1 v) s fun u => u.get R.BUDGET_BUDGET_W = v.toNat ∧ Counted R.MCTP_RX_CNT 1 s u) ∧
        (v.toNat < 3 → Leads (.effecterWrite 2 v) s fun u => u.pw.want = v.toNat ∧ Counted R.MCTP_RX_CNT 1 s u))) ∧
    (s.board.por = true → s.get R.STATE_STEP < 4 → ∀ i ∈ ([.setEndpointId 8, .setEventReceiver 8, .getSensorReading 1, .platformEventMessageAck, .effecterWrite 1 0] : List Instr),
      Leads i s fun u => Counted R.MCTP_RX_CNT 1 s u ∧ Counted R.MCTP_DROP_CNT 1 s u ∧ OnlyRegs [R.MCTP_RX_CNT, R.MCTP_DROP_CNT] s u)

/-- REQUEST_UPDATE, REQUEST_FIRMWARE_DATA and ACTIVATE_FIRMWARE: one update at a time, of a component of the part and a size that fits, and the image slot that does not run loses its header first (R475); every transfer asked for is taken in order and its bytes wait to be written (R475); an image or package received whole is verified, applied and then activated (R475). -/
def Sys2Proof.Machine.FirmwareIsUpdatedInStagesRule : Prop :=
  ∀ s : State, OnMctp s →
    (∀ (comp : BitVec 16) (len : Nat),
      (s.secu.update.isSome = true → Leads (.requestUpdate comp len) s fun u => u.out = s.out ++ [.pldm "RequestUpdate" 0x81 []] ∧ u.secu = s.secu) ∧
      (s.secu.update = none → comp = 1 ∨ comp = 2 → 0 < len → len ≤ 8388608 → Leads (.requestUpdate comp len) s fun u =>
        u.secu.update = some ⟨comp.toNat, len, [], false, false⟩ ∧ u.get R.MGMT_STAT_UPDATE = 1 ∧ Out.pldm "RequestUpdate" 0 [] ∈ u.out ∧
          Out.wantData 0 (min 4096 len) ∈ u.out ∧ (comp = 1 → ∃ x y, (HuItem.fwHead true, x, y) ∈ u.hu) ∧ (comp = 2 → u.hu = s.hu)) ∧
      (s.secu.update = none → (comp ≠ 1 ∧ comp ≠ 2) ∨ len = 0 ∨ 8388608 < len → Leads (.requestUpdate comp len) s fun u =>
        u.out = s.out ++ [.pldm "RequestUpdate" 0x8A []] ∧ u.secu = s.secu)) ∧
    (∀ (up : Update) (data : List Byte), s.secu.update = some up → up.got.length < up.len → data.length = min 4096 (up.len - up.got.length) →
      (up.got.length + data.length < up.len → Leads (.requestFirmwareData data) s fun u =>
        u.secu.update = some { up with got := up.got ++ data } ∧ Out.wantData (up.got.length + data.length) (min 4096 (up.len - up.got.length - data.length)) ∈ u.out ∧
          (up.comp = 1 → 512 ≤ up.got.length → ∃ x y, (HuItem.fwBody (up.got.length - 512) data, x, y) ∈ u.hu)) ∧
      (up.got.length + data.length = up.len → up.comp = 1 → Leads (.requestFirmwareData data) s fun u =>
        let all := up.got ++ data
        if imgOk s.cfg.boot (all.take 512, all.drop 512) = true then
          u.secu.update = some { up with got := all } ∧ Out.pldm "VerifyComplete" 0 [] ∈ u.out ∧ (∃ x y, (HuItem.fwHead false, x, y) ∈ u.hu)
        else u.secu.update = none ∧ u.get R.MGMT_STAT_UPDATE = 0 ∧ Out.pldm "VerifyComplete" 1 [] ∈ u.out)) ∧
    (s.secu.update = none → Leads .activateFirmware s fun u => u.out = s.out ++ [.pldm "ActivateFirmware" 0x80 []] ∧ u.secu = s.secu) ∧
    (∀ up, s.secu.update = some up →
      (up.applied = false → Leads .activateFirmware s fun u => u.out = s.out ++ [.pldm "ActivateFirmware" 0x84 []] ∧ u.secu = s.secu) ∧
      (up.applied = true → up.comp = 1 → Leads .activateFirmware s fun u => (∃ x y, (HuItem.activate, x, y) ∈ u.hu) ∧ u.cfg = s.cfg) ∧
      (up.applied = true → up.comp ≠ 1 → Leads .activateFirmware s fun u =>
        u.secu.update = none ∧ u.get R.MGMT_STAT_UPDATE = 0 ∧ Out.pldm "ActivateFirmware" 0 [152] ∈ u.out))

/-- The management port answers; firmware is updated in stages: ManagementPortAnswersRule and FirmwareIsUpdatedInStagesRule. -/
def Obligations.ManagementAndUpdateFollowTheirRules : Prop := ManagementPortAnswersRule ∧ FirmwareIsUpdatedInStagesRule

/-! ### The whole part -/

/-- Every command and every state: a step with the command at the front of the queue is the command's effect on the state with the queue's rest. -/
def Obligations.StepRunsTheFrontCommand : Prop :=
  ∀ (s : State) (c : Instr) (r : List Instr), s.pending = c :: r → step s = exec c { s with pending := r }

/-- Nothing is due to the part's own engines. -/
def Sys2Proof.Machine.Quiet (s : State) : Prop :=
  s.pw.wake = none ∧ s.fe.deciding = none ∧ s.fe.pend = [] ∧ s.fe.repairs = [] ∧ s.ws.spares = [] ∧ s.fails = [] ∧
    (∀ e ∈ s.serve.reqs, e.2.waitEnd = none) ∧ s.bind = none ∧ s.pw.stopAt = none ∧ s.secu.wait = [] ∧ (∀ e ∈ s.lnks, e.2.wait = []) ∧ ∀ l, s.ws.load = some l → l.whole l.got.length = false

/-- The model's choice (DESIGN CHOICE, log entry 4): a step on an empty queue lets one tick pass. While nothing is due to the part's own engines, TIME counts it if the root clock runs and no slew is due (R12, R272), powered seconds and cycle counters may count, array controllers, bank ownership and the time of parking may move on (R20, R30, R99, R233), and nothing else changes; no vector core's registers do. -/
def Obligations.EmptyQueueLetsATickPass : Prop :=
  ∀ s : State, s.pending = [] → Quiet s → ∃ u, step s = .next u ∧ u.now = s.now + 1 ∧
    (s.rooted = true → s.tm.slew.natAbs < 8 → u.tm = { s.tm with time := (s.tm.time + 1) % 2 ^ 64 }) ∧ (s.rooted = false → u.tm = s.tm) ∧
    u = { s with now := u.now, tm := u.tm, fe := u.fe, regs := u.regs, tiles := u.tiles, fbind := u.fbind } ∧ u.fe = { s.fe with frac := u.fe.frac } ∧
    ∀ t : Site, u.tile t = { s.tile t with
      arr := (u.tile t).arr, parked := (u.tile t).parked, banks := (u.tile t).banks, qArr := (u.tile t).qArr, qTu := (u.tile t).qTu
      qDma := (u.tile t).qDma, qSync := (u.tile t).qSync, vc := (u.tile t).vc, inwait := (u.tile t).inwait, vcResume := (u.tile t).vcResume }

/-- After reset: the queue is empty, the device is in BOOT at step 1, nobody holds the lock, both slots are FREE, every tile is mapped to its own site (R154), every vector core is in HALT (R111), every object is FREE (R223), scratchpad and stacks read as zero (R287). -/
def Obligations.ResetStateIsAsTheSpecSays : Prop :=
  let s := State.reset
  s.pending = [] ∧ s.get R.STATE_STATE = 1 ∧ s.get R.STATE_STEP = 1 ∧ s.get R.SETUP_LOCK_HOLDER = 0 ∧ s.get R.FLT_CAUSE_VALID = 0 ∧
    s.get R.BUDGET_BUDGET_W = 950 ∧ (∀ k, k < 2 → s.slotSt k = slFREE) ∧ (∀ l, l < 256 → (s.siteOf l).val = l + l / 8) ∧
    (∀ t : Site, (s.tile t).vc = .halt ∧ (s.tile t).fenced = false ∧ ∀ q, ((s.tile t).queue q).ents = []) ∧
    (∀ i, (s.obj i).mode = 0) ∧ (∀ k, sget 0 s.sp k = 0 ∧ sget 0 s.stk k = 0)

/-- Every store of the part is in canonical form: keys strictly rising, no entry equal to what an unlisted key reads as. -/
def Sys2Proof.Machine.Canonical (s : State) : Prop :=
  swf 0 s.sp = true ∧ swf 0 s.stk = true ∧ swf 128 s.cells = true ∧ swf 0 s.regs = true

/-- Scratchpad, stacks, array cells and the register file keep their canonical form through every step. -/
def Obligations.StoresStayCanonical : Prop := ∀ s u : State, Canonical s → step s = .next u → Canonical u

/-- Scratchpad, stacks, array cells and the register file are in canonical form after reset. -/
def Obligations.ResetStoresAreCanonical : Prop := Canonical State.reset

/-- Through every step, whatever command it runs, the anti-rollback COUNTER does not decrease and no revoked key is restored (R459). -/
def Obligations.RollbackCounterNeverFalls : Prop :=
  ∀ s u : State, step s = .next u →
    s.cfg.boot.counter ≤ u.cfg.boot.counter ∧ ∀ k, s.cfg.boot.revoked.testBit k = true → u.cfg.boot.revoked.testBit k = true
end

