-- ==== Sys2Proof/Laws/State.lean ====
section
/-! SUPPORT. What each named update of the state leaves: one lemma for each field and update. -/

namespace Sys2Proof.Machine

open Sys2Proof

variable (s : State)

@[simp] theorem State.put_pending (r : FRef) (v : Nat) : (s.put r v).pending = s.pending := rfl
@[simp] theorem State.put_now (r : FRef) (v : Nat) : (s.put r v).now = s.now := rfl
@[simp] theorem State.put_cycle0 (r : FRef) (v : Nat) : (s.put r v).cycle0 = s.cycle0 := rfl
@[simp] theorem State.put_sp (r : FRef) (v : Nat) : (s.put r v).sp = s.sp := rfl
@[simp] theorem State.put_stk (r : FRef) (v : Nat) : (s.put r v).stk = s.stk := rfl
@[simp] theorem State.put_cells (r : FRef) (v : Nat) : (s.put r v).cells = s.cells := rfl
@[simp] theorem State.put_tiles (r : FRef) (v : Nat) : (s.put r v).tiles = s.tiles := rfl
@[simp] theorem State.put_objs (r : FRef) (v : Nat) : (s.put r v).objs = s.objs := rfl
@[simp] theorem State.put_chans (r : FRef) (v : Nat) : (s.put r v).chans = s.chans := rfl
@[simp] theorem State.put_secs (r : FRef) (v : Nat) : (s.put r v).secs = s.secs := rfl
@[simp] theorem State.put_lnks (r : FRef) (v : Nat) : (s.put r v).lnks = s.lnks := rfl
@[simp] theorem State.put_bundles (r : FRef) (v : Nat) : (s.put r v).bundles = s.bundles := rfl
@[simp] theorem State.put_fab (r : FRef) (v : Nat) : (s.put r v).fab = s.fab := rfl
@[simp] theorem State.put_bind (r : FRef) (v : Nat) : (s.put r v).bind = s.bind := rfl
@[simp] theorem State.put_fbind (r : FRef) (v : Nat) : (s.put r v).fbind = s.fbind := rfl
@[simp] theorem State.put_tm (r : FRef) (v : Nat) : (s.put r v).tm = s.tm := rfl
@[simp] theorem State.put_latSw (r : FRef) (v : Nat) : (s.put r v).latSw = s.latSw := rfl
@[simp] theorem State.put_lat (r : FRef) (v : Nat) : (s.put r v).lat = s.lat := rfl
@[simp] theorem State.put_latHold (r : FRef) (v : Nat) : (s.put r v).latHold = s.latHold := rfl
@[simp] theorem State.put_tan (r : FRef) (v : Nat) : (s.put r v).tan = s.tan := rfl
@[simp] theorem State.put_chTurn (r : FRef) (v : Nat) : (s.put r v).chTurn = s.chTurn := rfl
@[simp] theorem State.put_board (r : FRef) (v : Nat) : (s.put r v).board = s.board := rfl
@[simp] theorem State.put_ports (r : FRef) (v : Nat) : (s.put r v).ports = s.ports := rfl
@[simp] theorem State.put_serve (r : FRef) (v : Nat) : (s.put r v).serve = s.serve := rfl
@[simp] theorem State.put_ws (r : FRef) (v : Nat) : (s.put r v).ws = s.ws := rfl
@[simp] theorem State.put_pw (r : FRef) (v : Nat) : (s.put r v).pw = s.pw := rfl
@[simp] theorem State.put_fe (r : FRef) (v : Nat) : (s.put r v).fe = s.fe := rfl
@[simp] theorem State.put_cfg (r : FRef) (v : Nat) : (s.put r v).cfg = s.cfg := rfl
@[simp] theorem State.put_hu (r : FRef) (v : Nat) : (s.put r v).hu = s.hu := rfl
@[simp] theorem State.put_secu (r : FRef) (v : Nat) : (s.put r v).secu = s.secu := rfl
@[simp] theorem State.put_latch (r : FRef) (v : Nat) : (s.put r v).latch = s.latch := rfl
@[simp] theorem State.put_wrB (r : FRef) (v : Nat) : (s.put r v).wrB = s.wrB := rfl
@[simp] theorem State.put_lost (r : FRef) (v : Nat) : (s.put r v).lost = s.lost := rfl
@[simp] theorem State.put_fails (r : FRef) (v : Nat) : (s.put r v).fails = s.fails := rfl
@[simp] theorem State.put_free (r : FRef) (v : Nat) : (s.put r v).free = s.free := rfl
@[simp] theorem State.put_out (r : FRef) (v : Nat) : (s.put r v).out = s.out := rfl

@[simp] theorem State.emit_pending (o : Out) : (s.emit o).pending = s.pending := rfl
@[simp] theorem State.emit_regs (o : Out) : (s.emit o).regs = s.regs := rfl
@[simp] theorem State.emit_now (o : Out) : (s.emit o).now = s.now := rfl
@[simp] theorem State.emit_cycle0 (o : Out) : (s.emit o).cycle0 = s.cycle0 := rfl
@[simp] theorem State.emit_sp (o : Out) : (s.emit o).sp = s.sp := rfl
@[simp] theorem State.emit_stk (o : Out) : (s.emit o).stk = s.stk := rfl
@[simp] theorem State.emit_cells (o : Out) : (s.emit o).cells = s.cells := rfl
@[simp] theorem State.emit_tiles (o : Out) : (s.emit o).tiles = s.tiles := rfl
@[simp] theorem State.emit_objs (o : Out) : (s.emit o).objs = s.objs := rfl
@[simp] theorem State.emit_chans (o : Out) : (s.emit o).chans = s.chans := rfl
@[simp] theorem State.emit_secs (o : Out) : (s.emit o).secs = s.secs := rfl
@[simp] theorem State.emit_lnks (o : Out) : (s.emit o).lnks = s.lnks := rfl
@[simp] theorem State.emit_bundles (o : Out) : (s.emit o).bundles = s.bundles := rfl
@[simp] theorem State.emit_fab (o : Out) : (s.emit o).fab = s.fab := rfl
@[simp] theorem State.emit_bind (o : Out) : (s.emit o).bind = s.bind := rfl
@[simp] theorem State.emit_fbind (o : Out) : (s.emit o).fbind = s.fbind := rfl
@[simp] theorem State.emit_tm (o : Out) : (s.emit o).tm = s.tm := rfl
@[simp] theorem State.emit_latSw (o : Out) : (s.emit o).latSw = s.latSw := rfl
@[simp] theorem State.emit_lat (o : Out) : (s.emit o).lat = s.lat := rfl
@[simp] theorem State.emit_latHold (o : Out) : (s.emit o).latHold = s.latHold := rfl
@[simp] theorem State.emit_tan (o : Out) : (s.emit o).tan = s.tan := rfl
@[simp] theorem State.emit_chTurn (o : Out) : (s.emit o).chTurn = s.chTurn := rfl
@[simp] theorem State.emit_board (o : Out) : (s.emit o).board = s.board := rfl
@[simp] theorem State.emit_ports (o : Out) : (s.emit o).ports = s.ports := rfl
@[simp] theorem State.emit_serve (o : Out) : (s.emit o).serve = s.serve := rfl
@[simp] theorem State.emit_ws (o : Out) : (s.emit o).ws = s.ws := rfl
@[simp] theorem State.emit_pw (o : Out) : (s.emit o).pw = s.pw := rfl
@[simp] theorem State.emit_fe (o : Out) : (s.emit o).fe = s.fe := rfl
@[simp] theorem State.emit_cfg (o : Out) : (s.emit o).cfg = s.cfg := rfl
@[simp] theorem State.emit_hu (o : Out) : (s.emit o).hu = s.hu := rfl
@[simp] theorem State.emit_secu (o : Out) : (s.emit o).secu = s.secu := rfl
@[simp] theorem State.emit_latch (o : Out) : (s.emit o).latch = s.latch := rfl
@[simp] theorem State.emit_wrB (o : Out) : (s.emit o).wrB = s.wrB := rfl
@[simp] theorem State.emit_lost (o : Out) : (s.emit o).lost = s.lost := rfl
@[simp] theorem State.emit_fails (o : Out) : (s.emit o).fails = s.fails := rfl
@[simp] theorem State.emit_free (o : Out) : (s.emit o).free = s.free := rfl

@[simp] theorem State.draw_pending (n : Nat) : (s.draw n).pending = s.pending := rfl
@[simp] theorem State.draw_regs (n : Nat) : (s.draw n).regs = s.regs := rfl
@[simp] theorem State.draw_now (n : Nat) : (s.draw n).now = s.now := rfl
@[simp] theorem State.draw_cycle0 (n : Nat) : (s.draw n).cycle0 = s.cycle0 := rfl
@[simp] theorem State.draw_sp (n : Nat) : (s.draw n).sp = s.sp := rfl
@[simp] theorem State.draw_stk (n : Nat) : (s.draw n).stk = s.stk := rfl
@[simp] theorem State.draw_cells (n : Nat) : (s.draw n).cells = s.cells := rfl
@[simp] theorem State.draw_tiles (n : Nat) : (s.draw n).tiles = s.tiles := rfl
@[simp] theorem State.draw_objs (n : Nat) : (s.draw n).objs = s.objs := rfl
@[simp] theorem State.draw_chans (n : Nat) : (s.draw n).chans = s.chans := rfl
@[simp] theorem State.draw_secs (n : Nat) : (s.draw n).secs = s.secs := rfl
@[simp] theorem State.draw_lnks (n : Nat) : (s.draw n).lnks = s.lnks := rfl
@[simp] theorem State.draw_bundles (n : Nat) : (s.draw n).bundles = s.bundles := rfl
@[simp] theorem State.draw_fab (n : Nat) : (s.draw n).fab = s.fab := rfl
@[simp] theorem State.draw_bind (n : Nat) : (s.draw n).bind = s.bind := rfl
@[simp] theorem State.draw_fbind (n : Nat) : (s.draw n).fbind = s.fbind := rfl
@[simp] theorem State.draw_tm (n : Nat) : (s.draw n).tm = s.tm := rfl
@[simp] theorem State.draw_latSw (n : Nat) : (s.draw n).latSw = s.latSw := rfl
@[simp] theorem State.draw_lat (n : Nat) : (s.draw n).lat = s.lat := rfl
@[simp] theorem State.draw_latHold (n : Nat) : (s.draw n).latHold = s.latHold := rfl
@[simp] theorem State.draw_tan (n : Nat) : (s.draw n).tan = s.tan := rfl
@[simp] theorem State.draw_chTurn (n : Nat) : (s.draw n).chTurn = s.chTurn := rfl
@[simp] theorem State.draw_board (n : Nat) : (s.draw n).board = s.board := rfl
@[simp] theorem State.draw_ports (n : Nat) : (s.draw n).ports = s.ports := rfl
@[simp] theorem State.draw_serve (n : Nat) : (s.draw n).serve = s.serve := rfl
@[simp] theorem State.draw_ws (n : Nat) : (s.draw n).ws = s.ws := rfl
@[simp] theorem State.draw_pw (n : Nat) : (s.draw n).pw = s.pw := rfl
@[simp] theorem State.draw_fe (n : Nat) : (s.draw n).fe = s.fe := rfl
@[simp] theorem State.draw_cfg (n : Nat) : (s.draw n).cfg = s.cfg := rfl
@[simp] theorem State.draw_hu (n : Nat) : (s.draw n).hu = s.hu := rfl
@[simp] theorem State.draw_secu (n : Nat) : (s.draw n).secu = s.secu := rfl
@[simp] theorem State.draw_latch (n : Nat) : (s.draw n).latch = s.latch := rfl
@[simp] theorem State.draw_wrB (n : Nat) : (s.draw n).wrB = s.wrB := rfl
@[simp] theorem State.draw_lost (n : Nat) : (s.draw n).lost = s.lost := rfl
@[simp] theorem State.draw_fails (n : Nat) : (s.draw n).fails = s.fails := rfl
@[simp] theorem State.draw_out (n : Nat) : (s.draw n).out = s.out := rfl

@[simp] theorem State.bump_pending (r : FRef) (n : Nat) : (s.bump r n).pending = s.pending := rfl
@[simp] theorem State.bump_now (r : FRef) (n : Nat) : (s.bump r n).now = s.now := rfl
@[simp] theorem State.bump_cycle0 (r : FRef) (n : Nat) : (s.bump r n).cycle0 = s.cycle0 := rfl
@[simp] theorem State.bump_sp (r : FRef) (n : Nat) : (s.bump r n).sp = s.sp := rfl
@[simp] theorem State.bump_stk (r : FRef) (n : Nat) : (s.bump r n).stk = s.stk := rfl
@[simp] theorem State.bump_cells (r : FRef) (n : Nat) : (s.bump r n).cells = s.cells := rfl
@[simp] theorem State.bump_tiles (r : FRef) (n : Nat) : (s.bump r n).tiles = s.tiles := rfl
@[simp] theorem State.bump_objs (r : FRef) (n : Nat) : (s.bump r n).objs = s.objs := rfl
@[simp] theorem State.bump_chans (r : FRef) (n : Nat) : (s.bump r n).chans = s.chans := rfl
@[simp] theorem State.bump_secs (r : FRef) (n : Nat) : (s.bump r n).secs = s.secs := rfl
@[simp] theorem State.bump_lnks (r : FRef) (n : Nat) : (s.bump r n).lnks = s.lnks := rfl
@[simp] theorem State.bump_bundles (r : FRef) (n : Nat) : (s.bump r n).bundles = s.bundles := rfl
@[simp] theorem State.bump_fab (r : FRef) (n : Nat) : (s.bump r n).fab = s.fab := rfl
@[simp] theorem State.bump_bind (r : FRef) (n : Nat) : (s.bump r n).bind = s.bind := rfl
@[simp] theorem State.bump_fbind (r : FRef) (n : Nat) : (s.bump r n).fbind = s.fbind := rfl
@[simp] theorem State.bump_tm (r : FRef) (n : Nat) : (s.bump r n).tm = s.tm := rfl
@[simp] theorem State.bump_latSw (r : FRef) (n : Nat) : (s.bump r n).latSw = s.latSw := rfl
@[simp] theorem State.bump_lat (r : FRef) (n : Nat) : (s.bump r n).lat = s.lat := rfl
@[simp] theorem State.bump_latHold (r : FRef) (n : Nat) : (s.bump r n).latHold = s.latHold := rfl
@[simp] theorem State.bump_tan (r : FRef) (n : Nat) : (s.bump r n).tan = s.tan := rfl
@[simp] theorem State.bump_chTurn (r : FRef) (n : Nat) : (s.bump r n).chTurn = s.chTurn := rfl
@[simp] theorem State.bump_board (r : FRef) (n : Nat) : (s.bump r n).board = s.board := rfl
@[simp] theorem State.bump_ports (r : FRef) (n : Nat) : (s.bump r n).ports = s.ports := rfl
@[simp] theorem State.bump_serve (r : FRef) (n : Nat) : (s.bump r n).serve = s.serve := rfl
@[simp] theorem State.bump_ws (r : FRef) (n : Nat) : (s.bump r n).ws = s.ws := rfl
@[simp] theorem State.bump_pw (r : FRef) (n : Nat) : (s.bump r n).pw = s.pw := rfl
@[simp] theorem State.bump_fe (r : FRef) (n : Nat) : (s.bump r n).fe = s.fe := rfl
@[simp] theorem State.bump_cfg (r : FRef) (n : Nat) : (s.bump r n).cfg = s.cfg := rfl
@[simp] theorem State.bump_hu (r : FRef) (n : Nat) : (s.bump r n).hu = s.hu := rfl
@[simp] theorem State.bump_secu (r : FRef) (n : Nat) : (s.bump r n).secu = s.secu := rfl
@[simp] theorem State.bump_latch (r : FRef) (n : Nat) : (s.bump r n).latch = s.latch := rfl
@[simp] theorem State.bump_wrB (r : FRef) (n : Nat) : (s.bump r n).wrB = s.wrB := rfl
@[simp] theorem State.bump_lost (r : FRef) (n : Nat) : (s.bump r n).lost = s.lost := rfl
@[simp] theorem State.bump_fails (r : FRef) (n : Nat) : (s.bump r n).fails = s.fails := rfl
@[simp] theorem State.bump_free (r : FRef) (n : Nat) : (s.bump r n).free = s.free := rfl
@[simp] theorem State.bump_out (r : FRef) (n : Nat) : (s.bump r n).out = s.out := rfl

@[simp] theorem State.set1_pending (r : FRef) : (s.set1 r).pending = s.pending := rfl
@[simp] theorem State.set1_now (r : FRef) : (s.set1 r).now = s.now := rfl
@[simp] theorem State.set1_cycle0 (r : FRef) : (s.set1 r).cycle0 = s.cycle0 := rfl
@[simp] theorem State.set1_sp (r : FRef) : (s.set1 r).sp = s.sp := rfl
@[simp] theorem State.set1_stk (r : FRef) : (s.set1 r).stk = s.stk := rfl
@[simp] theorem State.set1_cells (r : FRef) : (s.set1 r).cells = s.cells := rfl
@[simp] theorem State.set1_tiles (r : FRef) : (s.set1 r).tiles = s.tiles := rfl
@[simp] theorem State.set1_objs (r : FRef) : (s.set1 r).objs = s.objs := rfl
@[simp] theorem State.set1_chans (r : FRef) : (s.set1 r).chans = s.chans := rfl
@[simp] theorem State.set1_secs (r : FRef) : (s.set1 r).secs = s.secs := rfl
@[simp] theorem State.set1_lnks (r : FRef) : (s.set1 r).lnks = s.lnks := rfl
@[simp] theorem State.set1_bundles (r : FRef) : (s.set1 r).bundles = s.bundles := rfl
@[simp] theorem State.set1_fab (r : FRef) : (s.set1 r).fab = s.fab := rfl
@[simp] theorem State.set1_bind (r : FRef) : (s.set1 r).bind = s.bind := rfl
@[simp] theorem State.set1_fbind (r : FRef) : (s.set1 r).fbind = s.fbind := rfl
@[simp] theorem State.set1_tm (r : FRef) : (s.set1 r).tm = s.tm := rfl
@[simp] theorem State.set1_latSw (r : FRef) : (s.set1 r).latSw = s.latSw := rfl
@[simp] theorem State.set1_lat (r : FRef) : (s.set1 r).lat = s.lat := rfl
@[simp] theorem State.set1_latHold (r : FRef) : (s.set1 r).latHold = s.latHold := rfl
@[simp] theorem State.set1_tan (r : FRef) : (s.set1 r).tan = s.tan := rfl
@[simp] theorem State.set1_chTurn (r : FRef) : (s.set1 r).chTurn = s.chTurn := rfl
@[simp] theorem State.set1_board (r : FRef) : (s.set1 r).board = s.board := rfl
@[simp] theorem State.set1_ports (r : FRef) : (s.set1 r).ports = s.ports := rfl
@[simp] theorem State.set1_serve (r : FRef) : (s.set1 r).serve = s.serve := rfl
@[simp] theorem State.set1_ws (r : FRef) : (s.set1 r).ws = s.ws := rfl
@[simp] theorem State.set1_pw (r : FRef) : (s.set1 r).pw = s.pw := rfl
@[simp] theorem State.set1_fe (r : FRef) : (s.set1 r).fe = s.fe := rfl
@[simp] theorem State.set1_cfg (r : FRef) : (s.set1 r).cfg = s.cfg := rfl
@[simp] theorem State.set1_hu (r : FRef) : (s.set1 r).hu = s.hu := rfl
@[simp] theorem State.set1_secu (r : FRef) : (s.set1 r).secu = s.secu := rfl
@[simp] theorem State.set1_latch (r : FRef) : (s.set1 r).latch = s.latch := rfl
@[simp] theorem State.set1_wrB (r : FRef) : (s.set1 r).wrB = s.wrB := rfl
@[simp] theorem State.set1_lost (r : FRef) : (s.set1 r).lost = s.lost := rfl
@[simp] theorem State.set1_fails (r : FRef) : (s.set1 r).fails = s.fails := rfl
@[simp] theorem State.set1_free (r : FRef) : (s.set1 r).free = s.free := rfl
@[simp] theorem State.set1_out (r : FRef) : (s.set1 r).out = s.out := rfl

@[simp] theorem State.onTile_pending (t : Site) (f : Tile → Tile) : (s.onTile t f).pending = s.pending := rfl
@[simp] theorem State.onTile_regs (t : Site) (f : Tile → Tile) : (s.onTile t f).regs = s.regs := rfl
@[simp] theorem State.onTile_now (t : Site) (f : Tile → Tile) : (s.onTile t f).now = s.now := rfl
@[simp] theorem State.onTile_cycle0 (t : Site) (f : Tile → Tile) : (s.onTile t f).cycle0 = s.cycle0 := rfl
@[simp] theorem State.onTile_sp (t : Site) (f : Tile → Tile) : (s.onTile t f).sp = s.sp := rfl
@[simp] theorem State.onTile_stk (t : Site) (f : Tile → Tile) : (s.onTile t f).stk = s.stk := rfl
@[simp] theorem State.onTile_cells (t : Site) (f : Tile → Tile) : (s.onTile t f).cells = s.cells := rfl
@[simp] theorem State.onTile_objs (t : Site) (f : Tile → Tile) : (s.onTile t f).objs = s.objs := rfl
@[simp] theorem State.onTile_chans (t : Site) (f : Tile → Tile) : (s.onTile t f).chans = s.chans := rfl
@[simp] theorem State.onTile_secs (t : Site) (f : Tile → Tile) : (s.onTile t f).secs = s.secs := rfl
@[simp] theorem State.onTile_lnks (t : Site) (f : Tile → Tile) : (s.onTile t f).lnks = s.lnks := rfl
@[simp] theorem State.onTile_bundles (t : Site) (f : Tile → Tile) : (s.onTile t f).bundles = s.bundles := rfl
@[simp] theorem State.onTile_fab (t : Site) (f : Tile → Tile) : (s.onTile t f).fab = s.fab := rfl
@[simp] theorem State.onTile_bind (t : Site) (f : Tile → Tile) : (s.onTile t f).bind = s.bind := rfl
@[simp] theorem State.onTile_fbind (t : Site) (f : Tile → Tile) : (s.onTile t f).fbind = s.fbind := rfl
@[simp] theorem State.onTile_tm (t : Site) (f : Tile → Tile) : (s.onTile t f).tm = s.tm := rfl
@[simp] theorem State.onTile_latSw (t : Site) (f : Tile → Tile) : (s.onTile t f).latSw = s.latSw := rfl
@[simp] theorem State.onTile_lat (t : Site) (f : Tile → Tile) : (s.onTile t f).lat = s.lat := rfl
@[simp] theorem State.onTile_latHold (t : Site) (f : Tile → Tile) : (s.onTile t f).latHold = s.latHold := rfl
@[simp] theorem State.onTile_tan (t : Site) (f : Tile → Tile) : (s.onTile t f).tan = s.tan := rfl
@[simp] theorem State.onTile_chTurn (t : Site) (f : Tile → Tile) : (s.onTile t f).chTurn = s.chTurn := rfl
@[simp] theorem State.onTile_board (t : Site) (f : Tile → Tile) : (s.onTile t f).board = s.board := rfl
@[simp] theorem State.onTile_ports (t : Site) (f : Tile → Tile) : (s.onTile t f).ports = s.ports := rfl
@[simp] theorem State.onTile_serve (t : Site) (f : Tile → Tile) : (s.onTile t f).serve = s.serve := rfl
@[simp] theorem State.onTile_ws (t : Site) (f : Tile → Tile) : (s.onTile t f).ws = s.ws := rfl
@[simp] theorem State.onTile_pw (t : Site) (f : Tile → Tile) : (s.onTile t f).pw = s.pw := rfl
@[simp] theorem State.onTile_fe (t : Site) (f : Tile → Tile) : (s.onTile t f).fe = s.fe := rfl
@[simp] theorem State.onTile_cfg (t : Site) (f : Tile → Tile) : (s.onTile t f).cfg = s.cfg := rfl
@[simp] theorem State.onTile_hu (t : Site) (f : Tile → Tile) : (s.onTile t f).hu = s.hu := rfl
@[simp] theorem State.onTile_secu (t : Site) (f : Tile → Tile) : (s.onTile t f).secu = s.secu := rfl
@[simp] theorem State.onTile_latch (t : Site) (f : Tile → Tile) : (s.onTile t f).latch = s.latch := rfl
@[simp] theorem State.onTile_wrB (t : Site) (f : Tile → Tile) : (s.onTile t f).wrB = s.wrB := rfl
@[simp] theorem State.onTile_lost (t : Site) (f : Tile → Tile) : (s.onTile t f).lost = s.lost := rfl
@[simp] theorem State.onTile_fails (t : Site) (f : Tile → Tile) : (s.onTile t f).fails = s.fails := rfl
@[simp] theorem State.onTile_free (t : Site) (f : Tile → Tile) : (s.onTile t f).free = s.free := rfl
@[simp] theorem State.onTile_out (t : Site) (f : Tile → Tile) : (s.onTile t f).out = s.out := rfl

@[simp] theorem State.onObj_pending (i : Nat) (f : Obj → Obj) : (s.onObj i f).pending = s.pending := rfl
@[simp] theorem State.onObj_regs (i : Nat) (f : Obj → Obj) : (s.onObj i f).regs = s.regs := rfl
@[simp] theorem State.onObj_now (i : Nat) (f : Obj → Obj) : (s.onObj i f).now = s.now := rfl
@[simp] theorem State.onObj_cycle0 (i : Nat) (f : Obj → Obj) : (s.onObj i f).cycle0 = s.cycle0 := rfl
@[simp] theorem State.onObj_sp (i : Nat) (f : Obj → Obj) : (s.onObj i f).sp = s.sp := rfl
@[simp] theorem State.onObj_stk (i : Nat) (f : Obj → Obj) : (s.onObj i f).stk = s.stk := rfl
@[simp] theorem State.onObj_cells (i : Nat) (f : Obj → Obj) : (s.onObj i f).cells = s.cells := rfl
@[simp] theorem State.onObj_tiles (i : Nat) (f : Obj → Obj) : (s.onObj i f).tiles = s.tiles := rfl
@[simp] theorem State.onObj_chans (i : Nat) (f : Obj → Obj) : (s.onObj i f).chans = s.chans := rfl
@[simp] theorem State.onObj_secs (i : Nat) (f : Obj → Obj) : (s.onObj i f).secs = s.secs := rfl
@[simp] theorem State.onObj_lnks (i : Nat) (f : Obj → Obj) : (s.onObj i f).lnks = s.lnks := rfl
@[simp] theorem State.onObj_bundles (i : Nat) (f : Obj → Obj) : (s.onObj i f).bundles = s.bundles := rfl
@[simp] theorem State.onObj_fab (i : Nat) (f : Obj → Obj) : (s.onObj i f).fab = s.fab := rfl
@[simp] theorem State.onObj_bind (i : Nat) (f : Obj → Obj) : (s.onObj i f).bind = s.bind := rfl
@[simp] theorem State.onObj_fbind (i : Nat) (f : Obj → Obj) : (s.onObj i f).fbind = s.fbind := rfl
@[simp] theorem State.onObj_tm (i : Nat) (f : Obj → Obj) : (s.onObj i f).tm = s.tm := rfl
@[simp] theorem State.onObj_latSw (i : Nat) (f : Obj → Obj) : (s.onObj i f).latSw = s.latSw := rfl
@[simp] theorem State.onObj_lat (i : Nat) (f : Obj → Obj) : (s.onObj i f).lat = s.lat := rfl
@[simp] theorem State.onObj_latHold (i : Nat) (f : Obj → Obj) : (s.onObj i f).latHold = s.latHold := rfl
@[simp] theorem State.onObj_tan (i : Nat) (f : Obj → Obj) : (s.onObj i f).tan = s.tan := rfl
@[simp] theorem State.onObj_chTurn (i : Nat) (f : Obj → Obj) : (s.onObj i f).chTurn = s.chTurn := rfl
@[simp] theorem State.onObj_board (i : Nat) (f : Obj → Obj) : (s.onObj i f).board = s.board := rfl
@[simp] theorem State.onObj_ports (i : Nat) (f : Obj → Obj) : (s.onObj i f).ports = s.ports := rfl
@[simp] theorem State.onObj_serve (i : Nat) (f : Obj → Obj) : (s.onObj i f).serve = s.serve := rfl
@[simp] theorem State.onObj_ws (i : Nat) (f : Obj → Obj) : (s.onObj i f).ws = s.ws := rfl
@[simp] theorem State.onObj_pw (i : Nat) (f : Obj → Obj) : (s.onObj i f).pw = s.pw := rfl
@[simp] theorem State.onObj_fe (i : Nat) (f : Obj → Obj) : (s.onObj i f).fe = s.fe := rfl
@[simp] theorem State.onObj_cfg (i : Nat) (f : Obj → Obj) : (s.onObj i f).cfg = s.cfg := rfl
@[simp] theorem State.onObj_hu (i : Nat) (f : Obj → Obj) : (s.onObj i f).hu = s.hu := rfl
@[simp] theorem State.onObj_secu (i : Nat) (f : Obj → Obj) : (s.onObj i f).secu = s.secu := rfl
@[simp] theorem State.onObj_latch (i : Nat) (f : Obj → Obj) : (s.onObj i f).latch = s.latch := rfl
@[simp] theorem State.onObj_wrB (i : Nat) (f : Obj → Obj) : (s.onObj i f).wrB = s.wrB := rfl
@[simp] theorem State.onObj_lost (i : Nat) (f : Obj → Obj) : (s.onObj i f).lost = s.lost := rfl
@[simp] theorem State.onObj_fails (i : Nat) (f : Obj → Obj) : (s.onObj i f).fails = s.fails := rfl
@[simp] theorem State.onObj_free (i : Nat) (f : Obj → Obj) : (s.onObj i f).free = s.free := rfl
@[simp] theorem State.onObj_out (i : Nat) (f : Obj → Obj) : (s.onObj i f).out = s.out := rfl

@[simp] theorem State.onChan_pending (c : Nat) (f : Chan → Chan) : (s.onChan c f).pending = s.pending := rfl
@[simp] theorem State.onChan_regs (c : Nat) (f : Chan → Chan) : (s.onChan c f).regs = s.regs := rfl
@[simp] theorem State.onChan_now (c : Nat) (f : Chan → Chan) : (s.onChan c f).now = s.now := rfl
@[simp] theorem State.onChan_cycle0 (c : Nat) (f : Chan → Chan) : (s.onChan c f).cycle0 = s.cycle0 := rfl
@[simp] theorem State.onChan_sp (c : Nat) (f : Chan → Chan) : (s.onChan c f).sp = s.sp := rfl
@[simp] theorem State.onChan_stk (c : Nat) (f : Chan → Chan) : (s.onChan c f).stk = s.stk := rfl
@[simp] theorem State.onChan_cells (c : Nat) (f : Chan → Chan) : (s.onChan c f).cells = s.cells := rfl
@[simp] theorem State.onChan_tiles (c : Nat) (f : Chan → Chan) : (s.onChan c f).tiles = s.tiles := rfl
@[simp] theorem State.onChan_objs (c : Nat) (f : Chan → Chan) : (s.onChan c f).objs = s.objs := rfl
@[simp] theorem State.onChan_secs (c : Nat) (f : Chan → Chan) : (s.onChan c f).secs = s.secs := rfl
@[simp] theorem State.onChan_lnks (c : Nat) (f : Chan → Chan) : (s.onChan c f).lnks = s.lnks := rfl
@[simp] theorem State.onChan_bundles (c : Nat) (f : Chan → Chan) : (s.onChan c f).bundles = s.bundles := rfl
@[simp] theorem State.onChan_fab (c : Nat) (f : Chan → Chan) : (s.onChan c f).fab = s.fab := rfl
@[simp] theorem State.onChan_bind (c : Nat) (f : Chan → Chan) : (s.onChan c f).bind = s.bind := rfl
@[simp] theorem State.onChan_fbind (c : Nat) (f : Chan → Chan) : (s.onChan c f).fbind = s.fbind := rfl
@[simp] theorem State.onChan_tm (c : Nat) (f : Chan → Chan) : (s.onChan c f).tm = s.tm := rfl
@[simp] theorem State.onChan_latSw (c : Nat) (f : Chan → Chan) : (s.onChan c f).latSw = s.latSw := rfl
@[simp] theorem State.onChan_lat (c : Nat) (f : Chan → Chan) : (s.onChan c f).lat = s.lat := rfl
@[simp] theorem State.onChan_latHold (c : Nat) (f : Chan → Chan) : (s.onChan c f).latHold = s.latHold := rfl
@[simp] theorem State.onChan_tan (c : Nat) (f : Chan → Chan) : (s.onChan c f).tan = s.tan := rfl
@[simp] theorem State.onChan_chTurn (c : Nat) (f : Chan → Chan) : (s.onChan c f).chTurn = s.chTurn := rfl
@[simp] theorem State.onChan_board (c : Nat) (f : Chan → Chan) : (s.onChan c f).board = s.board := rfl
@[simp] theorem State.onChan_ports (c : Nat) (f : Chan → Chan) : (s.onChan c f).ports = s.ports := rfl
@[simp] theorem State.onChan_serve (c : Nat) (f : Chan → Chan) : (s.onChan c f).serve = s.serve := rfl
@[simp] theorem State.onChan_ws (c : Nat) (f : Chan → Chan) : (s.onChan c f).ws = s.ws := rfl
@[simp] theorem State.onChan_pw (c : Nat) (f : Chan → Chan) : (s.onChan c f).pw = s.pw := rfl
@[simp] theorem State.onChan_fe (c : Nat) (f : Chan → Chan) : (s.onChan c f).fe = s.fe := rfl
@[simp] theorem State.onChan_cfg (c : Nat) (f : Chan → Chan) : (s.onChan c f).cfg = s.cfg := rfl
@[simp] theorem State.onChan_hu (c : Nat) (f : Chan → Chan) : (s.onChan c f).hu = s.hu := rfl
@[simp] theorem State.onChan_secu (c : Nat) (f : Chan → Chan) : (s.onChan c f).secu = s.secu := rfl
@[simp] theorem State.onChan_latch (c : Nat) (f : Chan → Chan) : (s.onChan c f).latch = s.latch := rfl
@[simp] theorem State.onChan_wrB (c : Nat) (f : Chan → Chan) : (s.onChan c f).wrB = s.wrB := rfl
@[simp] theorem State.onChan_lost (c : Nat) (f : Chan → Chan) : (s.onChan c f).lost = s.lost := rfl
@[simp] theorem State.onChan_fails (c : Nat) (f : Chan → Chan) : (s.onChan c f).fails = s.fails := rfl
@[simp] theorem State.onChan_free (c : Nat) (f : Chan → Chan) : (s.onChan c f).free = s.free := rfl
@[simp] theorem State.onChan_out (c : Nat) (f : Chan → Chan) : (s.onChan c f).out = s.out := rfl

@[simp] theorem State.onSec_pending (n : Nat) (f : Sec → Sec) : (s.onSec n f).pending = s.pending := rfl
@[simp] theorem State.onSec_regs (n : Nat) (f : Sec → Sec) : (s.onSec n f).regs = s.regs := rfl
@[simp] theorem State.onSec_now (n : Nat) (f : Sec → Sec) : (s.onSec n f).now = s.now := rfl
@[simp] theorem State.onSec_cycle0 (n : Nat) (f : Sec → Sec) : (s.onSec n f).cycle0 = s.cycle0 := rfl
@[simp] theorem State.onSec_sp (n : Nat) (f : Sec → Sec) : (s.onSec n f).sp = s.sp := rfl
@[simp] theorem State.onSec_stk (n : Nat) (f : Sec → Sec) : (s.onSec n f).stk = s.stk := rfl
@[simp] theorem State.onSec_cells (n : Nat) (f : Sec → Sec) : (s.onSec n f).cells = s.cells := rfl
@[simp] theorem State.onSec_tiles (n : Nat) (f : Sec → Sec) : (s.onSec n f).tiles = s.tiles := rfl
@[simp] theorem State.onSec_objs (n : Nat) (f : Sec → Sec) : (s.onSec n f).objs = s.objs := rfl
@[simp] theorem State.onSec_chans (n : Nat) (f : Sec → Sec) : (s.onSec n f).chans = s.chans := rfl
@[simp] theorem State.onSec_lnks (n : Nat) (f : Sec → Sec) : (s.onSec n f).lnks = s.lnks := rfl
@[simp] theorem State.onSec_bundles (n : Nat) (f : Sec → Sec) : (s.onSec n f).bundles = s.bundles := rfl
@[simp] theorem State.onSec_fab (n : Nat) (f : Sec → Sec) : (s.onSec n f).fab = s.fab := rfl
@[simp] theorem State.onSec_bind (n : Nat) (f : Sec → Sec) : (s.onSec n f).bind = s.bind := rfl
@[simp] theorem State.onSec_fbind (n : Nat) (f : Sec → Sec) : (s.onSec n f).fbind = s.fbind := rfl
@[simp] theorem State.onSec_tm (n : Nat) (f : Sec → Sec) : (s.onSec n f).tm = s.tm := rfl
@[simp] theorem State.onSec_latSw (n : Nat) (f : Sec → Sec) : (s.onSec n f).latSw = s.latSw := rfl
@[simp] theorem State.onSec_lat (n : Nat) (f : Sec → Sec) : (s.onSec n f).lat = s.lat := rfl
@[simp] theorem State.onSec_latHold (n : Nat) (f : Sec → Sec) : (s.onSec n f).latHold = s.latHold := rfl
@[simp] theorem State.onSec_tan (n : Nat) (f : Sec → Sec) : (s.onSec n f).tan = s.tan := rfl
@[simp] theorem State.onSec_chTurn (n : Nat) (f : Sec → Sec) : (s.onSec n f).chTurn = s.chTurn := rfl
@[simp] theorem State.onSec_board (n : Nat) (f : Sec → Sec) : (s.onSec n f).board = s.board := rfl
@[simp] theorem State.onSec_ports (n : Nat) (f : Sec → Sec) : (s.onSec n f).ports = s.ports := rfl
@[simp] theorem State.onSec_serve (n : Nat) (f : Sec → Sec) : (s.onSec n f).serve = s.serve := rfl
@[simp] theorem State.onSec_ws (n : Nat) (f : Sec → Sec) : (s.onSec n f).ws = s.ws := rfl
@[simp] theorem State.onSec_pw (n : Nat) (f : Sec → Sec) : (s.onSec n f).pw = s.pw := rfl
@[simp] theorem State.onSec_fe (n : Nat) (f : Sec → Sec) : (s.onSec n f).fe = s.fe := rfl
@[simp] theorem State.onSec_cfg (n : Nat) (f : Sec → Sec) : (s.onSec n f).cfg = s.cfg := rfl
@[simp] theorem State.onSec_hu (n : Nat) (f : Sec → Sec) : (s.onSec n f).hu = s.hu := rfl
@[simp] theorem State.onSec_secu (n : Nat) (f : Sec → Sec) : (s.onSec n f).secu = s.secu := rfl
@[simp] theorem State.onSec_latch (n : Nat) (f : Sec → Sec) : (s.onSec n f).latch = s.latch := rfl
@[simp] theorem State.onSec_wrB (n : Nat) (f : Sec → Sec) : (s.onSec n f).wrB = s.wrB := rfl
@[simp] theorem State.onSec_lost (n : Nat) (f : Sec → Sec) : (s.onSec n f).lost = s.lost := rfl
@[simp] theorem State.onSec_fails (n : Nat) (f : Sec → Sec) : (s.onSec n f).fails = s.fails := rfl
@[simp] theorem State.onSec_free (n : Nat) (f : Sec → Sec) : (s.onSec n f).free = s.free := rfl
@[simp] theorem State.onSec_out (n : Nat) (f : Sec → Sec) : (s.onSec n f).out = s.out := rfl

@[simp] theorem State.onLnk_pending (l : Nat) (f : Lnk → Lnk) : (s.onLnk l f).pending = s.pending := rfl
@[simp] theorem State.onLnk_regs (l : Nat) (f : Lnk → Lnk) : (s.onLnk l f).regs = s.regs := rfl
@[simp] theorem State.onLnk_now (l : Nat) (f : Lnk → Lnk) : (s.onLnk l f).now = s.now := rfl
@[simp] theorem State.onLnk_cycle0 (l : Nat) (f : Lnk → Lnk) : (s.onLnk l f).cycle0 = s.cycle0 := rfl
@[simp] theorem State.onLnk_sp (l : Nat) (f : Lnk → Lnk) : (s.onLnk l f).sp = s.sp := rfl
@[simp] theorem State.onLnk_stk (l : Nat) (f : Lnk → Lnk) : (s.onLnk l f).stk = s.stk := rfl
@[simp] theorem State.onLnk_cells (l : Nat) (f : Lnk → Lnk) : (s.onLnk l f).cells = s.cells := rfl
@[simp] theorem State.onLnk_tiles (l : Nat) (f : Lnk → Lnk) : (s.onLnk l f).tiles = s.tiles := rfl
@[simp] theorem State.onLnk_objs (l : Nat) (f : Lnk → Lnk) : (s.onLnk l f).objs = s.objs := rfl
@[simp] theorem State.onLnk_chans (l : Nat) (f : Lnk → Lnk) : (s.onLnk l f).chans = s.chans := rfl
@[simp] theorem State.onLnk_secs (l : Nat) (f : Lnk → Lnk) : (s.onLnk l f).secs = s.secs := rfl
@[simp] theorem State.onLnk_bundles (l : Nat) (f : Lnk → Lnk) : (s.onLnk l f).bundles = s.bundles := rfl
@[simp] theorem State.onLnk_fab (l : Nat) (f : Lnk → Lnk) : (s.onLnk l f).fab = s.fab := rfl
@[simp] theorem State.onLnk_bind (l : Nat) (f : Lnk → Lnk) : (s.onLnk l f).bind = s.bind := rfl
@[simp] theorem State.onLnk_fbind (l : Nat) (f : Lnk → Lnk) : (s.onLnk l f).fbind = s.fbind := rfl
@[simp] theorem State.onLnk_tm (l : Nat) (f : Lnk → Lnk) : (s.onLnk l f).tm = s.tm := rfl
@[simp] theorem State.onLnk_latSw (l : Nat) (f : Lnk → Lnk) : (s.onLnk l f).latSw = s.latSw := rfl
@[simp] theorem State.onLnk_lat (l : Nat) (f : Lnk → Lnk) : (s.onLnk l f).lat = s.lat := rfl
@[simp] theorem State.onLnk_latHold (l : Nat) (f : Lnk → Lnk) : (s.onLnk l f).latHold = s.latHold := rfl
@[simp] theorem State.onLnk_tan (l : Nat) (f : Lnk → Lnk) : (s.onLnk l f).tan = s.tan := rfl
@[simp] theorem State.onLnk_chTurn (l : Nat) (f : Lnk → Lnk) : (s.onLnk l f).chTurn = s.chTurn := rfl
@[simp] theorem State.onLnk_board (l : Nat) (f : Lnk → Lnk) : (s.onLnk l f).board = s.board := rfl
@[simp] theorem State.onLnk_ports (l : Nat) (f : Lnk → Lnk) : (s.onLnk l f).ports = s.ports := rfl
@[simp] theorem State.onLnk_serve (l : Nat) (f : Lnk → Lnk) : (s.onLnk l f).serve = s.serve := rfl
@[simp] theorem State.onLnk_ws (l : Nat) (f : Lnk → Lnk) : (s.onLnk l f).ws = s.ws := rfl
@[simp] theorem State.onLnk_pw (l : Nat) (f : Lnk → Lnk) : (s.onLnk l f).pw = s.pw := rfl
@[simp] theorem State.onLnk_fe (l : Nat) (f : Lnk → Lnk) : (s.onLnk l f).fe = s.fe := rfl
@[simp] theorem State.onLnk_cfg (l : Nat) (f : Lnk → Lnk) : (s.onLnk l f).cfg = s.cfg := rfl
@[simp] theorem State.onLnk_hu (l : Nat) (f : Lnk → Lnk) : (s.onLnk l f).hu = s.hu := rfl
@[simp] theorem State.onLnk_secu (l : Nat) (f : Lnk → Lnk) : (s.onLnk l f).secu = s.secu := rfl
@[simp] theorem State.onLnk_latch (l : Nat) (f : Lnk → Lnk) : (s.onLnk l f).latch = s.latch := rfl
@[simp] theorem State.onLnk_wrB (l : Nat) (f : Lnk → Lnk) : (s.onLnk l f).wrB = s.wrB := rfl
@[simp] theorem State.onLnk_lost (l : Nat) (f : Lnk → Lnk) : (s.onLnk l f).lost = s.lost := rfl
@[simp] theorem State.onLnk_fails (l : Nat) (f : Lnk → Lnk) : (s.onLnk l f).fails = s.fails := rfl
@[simp] theorem State.onLnk_free (l : Nat) (f : Lnk → Lnk) : (s.onLnk l f).free = s.free := rfl
@[simp] theorem State.onLnk_out (l : Nat) (f : Lnk → Lnk) : (s.onLnk l f).out = s.out := rfl

@[simp] theorem State.onPort_pending (p : Nat) (f : PortSt → PortSt) : (s.onPort p f).pending = s.pending := rfl
@[simp] theorem State.onPort_regs (p : Nat) (f : PortSt → PortSt) : (s.onPort p f).regs = s.regs := rfl
@[simp] theorem State.onPort_now (p : Nat) (f : PortSt → PortSt) : (s.onPort p f).now = s.now := rfl
@[simp] theorem State.onPort_cycle0 (p : Nat) (f : PortSt → PortSt) : (s.onPort p f).cycle0 = s.cycle0 := rfl
@[simp] theorem State.onPort_sp (p : Nat) (f : PortSt → PortSt) : (s.onPort p f).sp = s.sp := rfl
@[simp] theorem State.onPort_stk (p : Nat) (f : PortSt → PortSt) : (s.onPort p f).stk = s.stk := rfl
@[simp] theorem State.onPort_cells (p : Nat) (f : PortSt → PortSt) : (s.onPort p f).cells = s.cells := rfl
@[simp] theorem State.onPort_tiles (p : Nat) (f : PortSt → PortSt) : (s.onPort p f).tiles = s.tiles := rfl
@[simp] theorem State.onPort_objs (p : Nat) (f : PortSt → PortSt) : (s.onPort p f).objs = s.objs := rfl
@[simp] theorem State.onPort_chans (p : Nat) (f : PortSt → PortSt) : (s.onPort p f).chans = s.chans := rfl
@[simp] theorem State.onPort_secs (p : Nat) (f : PortSt → PortSt) : (s.onPort p f).secs = s.secs := rfl
@[simp] theorem State.onPort_lnks (p : Nat) (f : PortSt → PortSt) : (s.onPort p f).lnks = s.lnks := rfl
@[simp] theorem State.onPort_bundles (p : Nat) (f : PortSt → PortSt) : (s.onPort p f).bundles = s.bundles := rfl
@[simp] theorem State.onPort_fab (p : Nat) (f : PortSt → PortSt) : (s.onPort p f).fab = s.fab := rfl
@[simp] theorem State.onPort_bind (p : Nat) (f : PortSt → PortSt) : (s.onPort p f).bind = s.bind := rfl
@[simp] theorem State.onPort_fbind (p : Nat) (f : PortSt → PortSt) : (s.onPort p f).fbind = s.fbind := rfl
@[simp] theorem State.onPort_tm (p : Nat) (f : PortSt → PortSt) : (s.onPort p f).tm = s.tm := rfl
@[simp] theorem State.onPort_latSw (p : Nat) (f : PortSt → PortSt) : (s.onPort p f).latSw = s.latSw := rfl
@[simp] theorem State.onPort_lat (p : Nat) (f : PortSt → PortSt) : (s.onPort p f).lat = s.lat := rfl
@[simp] theorem State.onPort_latHold (p : Nat) (f : PortSt → PortSt) : (s.onPort p f).latHold = s.latHold := rfl
@[simp] theorem State.onPort_tan (p : Nat) (f : PortSt → PortSt) : (s.onPort p f).tan = s.tan := rfl
@[simp] theorem State.onPort_chTurn (p : Nat) (f : PortSt → PortSt) : (s.onPort p f).chTurn = s.chTurn := rfl
@[simp] theorem State.onPort_board (p : Nat) (f : PortSt → PortSt) : (s.onPort p f).board = s.board := rfl
@[simp] theorem State.onPort_serve (p : Nat) (f : PortSt → PortSt) : (s.onPort p f).serve = s.serve := rfl
@[simp] theorem State.onPort_ws (p : Nat) (f : PortSt → PortSt) : (s.onPort p f).ws = s.ws := rfl
@[simp] theorem State.onPort_pw (p : Nat) (f : PortSt → PortSt) : (s.onPort p f).pw = s.pw := rfl
@[simp] theorem State.onPort_fe (p : Nat) (f : PortSt → PortSt) : (s.onPort p f).fe = s.fe := rfl
@[simp] theorem State.onPort_cfg (p : Nat) (f : PortSt → PortSt) : (s.onPort p f).cfg = s.cfg := rfl
@[simp] theorem State.onPort_hu (p : Nat) (f : PortSt → PortSt) : (s.onPort p f).hu = s.hu := rfl
@[simp] theorem State.onPort_secu (p : Nat) (f : PortSt → PortSt) : (s.onPort p f).secu = s.secu := rfl
@[simp] theorem State.onPort_latch (p : Nat) (f : PortSt → PortSt) : (s.onPort p f).latch = s.latch := rfl
@[simp] theorem State.onPort_wrB (p : Nat) (f : PortSt → PortSt) : (s.onPort p f).wrB = s.wrB := rfl
@[simp] theorem State.onPort_lost (p : Nat) (f : PortSt → PortSt) : (s.onPort p f).lost = s.lost := rfl
@[simp] theorem State.onPort_fails (p : Nat) (f : PortSt → PortSt) : (s.onPort p f).fails = s.fails := rfl
@[simp] theorem State.onPort_free (p : Nat) (f : PortSt → PortSt) : (s.onPort p f).free = s.free := rfl
@[simp] theorem State.onPort_out (p : Nat) (f : PortSt → PortSt) : (s.onPort p f).out = s.out := rfl

@[simp] theorem State.onReq_pending (i : Nat) (f : Req → Req) : (s.onReq i f).pending = s.pending := rfl
@[simp] theorem State.onReq_regs (i : Nat) (f : Req → Req) : (s.onReq i f).regs = s.regs := rfl
@[simp] theorem State.onReq_now (i : Nat) (f : Req → Req) : (s.onReq i f).now = s.now := rfl
@[simp] theorem State.onReq_cycle0 (i : Nat) (f : Req → Req) : (s.onReq i f).cycle0 = s.cycle0 := rfl
@[simp] theorem State.onReq_sp (i : Nat) (f : Req → Req) : (s.onReq i f).sp = s.sp := rfl
@[simp] theorem State.onReq_stk (i : Nat) (f : Req → Req) : (s.onReq i f).stk = s.stk := rfl
@[simp] theorem State.onReq_cells (i : Nat) (f : Req → Req) : (s.onReq i f).cells = s.cells := rfl
@[simp] theorem State.onReq_tiles (i : Nat) (f : Req → Req) : (s.onReq i f).tiles = s.tiles := rfl
@[simp] theorem State.onReq_objs (i : Nat) (f : Req → Req) : (s.onReq i f).objs = s.objs := rfl
@[simp] theorem State.onReq_chans (i : Nat) (f : Req → Req) : (s.onReq i f).chans = s.chans := rfl
@[simp] theorem State.onReq_secs (i : Nat) (f : Req → Req) : (s.onReq i f).secs = s.secs := rfl
@[simp] theorem State.onReq_lnks (i : Nat) (f : Req → Req) : (s.onReq i f).lnks = s.lnks := rfl
@[simp] theorem State.onReq_bundles (i : Nat) (f : Req → Req) : (s.onReq i f).bundles = s.bundles := rfl
@[simp] theorem State.onReq_fab (i : Nat) (f : Req → Req) : (s.onReq i f).fab = s.fab := rfl
@[simp] theorem State.onReq_bind (i : Nat) (f : Req → Req) : (s.onReq i f).bind = s.bind := rfl
@[simp] theorem State.onReq_fbind (i : Nat) (f : Req → Req) : (s.onReq i f).fbind = s.fbind := rfl
@[simp] theorem State.onReq_tm (i : Nat) (f : Req → Req) : (s.onReq i f).tm = s.tm := rfl
@[simp] theorem State.onReq_latSw (i : Nat) (f : Req → Req) : (s.onReq i f).latSw = s.latSw := rfl
@[simp] theorem State.onReq_lat (i : Nat) (f : Req → Req) : (s.onReq i f).lat = s.lat := rfl
@[simp] theorem State.onReq_latHold (i : Nat) (f : Req → Req) : (s.onReq i f).latHold = s.latHold := rfl
@[simp] theorem State.onReq_tan (i : Nat) (f : Req → Req) : (s.onReq i f).tan = s.tan := rfl
@[simp] theorem State.onReq_chTurn (i : Nat) (f : Req → Req) : (s.onReq i f).chTurn = s.chTurn := rfl
@[simp] theorem State.onReq_board (i : Nat) (f : Req → Req) : (s.onReq i f).board = s.board := rfl
@[simp] theorem State.onReq_ports (i : Nat) (f : Req → Req) : (s.onReq i f).ports = s.ports := rfl
@[simp] theorem State.onReq_ws (i : Nat) (f : Req → Req) : (s.onReq i f).ws = s.ws := rfl
@[simp] theorem State.onReq_pw (i : Nat) (f : Req → Req) : (s.onReq i f).pw = s.pw := rfl
@[simp] theorem State.onReq_fe (i : Nat) (f : Req → Req) : (s.onReq i f).fe = s.fe := rfl
@[simp] theorem State.onReq_cfg (i : Nat) (f : Req → Req) : (s.onReq i f).cfg = s.cfg := rfl
@[simp] theorem State.onReq_hu (i : Nat) (f : Req → Req) : (s.onReq i f).hu = s.hu := rfl
@[simp] theorem State.onReq_secu (i : Nat) (f : Req → Req) : (s.onReq i f).secu = s.secu := rfl
@[simp] theorem State.onReq_latch (i : Nat) (f : Req → Req) : (s.onReq i f).latch = s.latch := rfl
@[simp] theorem State.onReq_wrB (i : Nat) (f : Req → Req) : (s.onReq i f).wrB = s.wrB := rfl
@[simp] theorem State.onReq_lost (i : Nat) (f : Req → Req) : (s.onReq i f).lost = s.lost := rfl
@[simp] theorem State.onReq_fails (i : Nat) (f : Req → Req) : (s.onReq i f).fails = s.fails := rfl
@[simp] theorem State.onReq_free (i : Nat) (f : Req → Req) : (s.onReq i f).free = s.free := rfl
@[simp] theorem State.onReq_out (i : Nat) (f : Req → Req) : (s.onReq i f).out = s.out := rfl

@[simp] theorem State.onTenant_pending (i : Nat) (f : Tenant → Tenant) : (s.onTenant i f).pending = s.pending := rfl
@[simp] theorem State.onTenant_regs (i : Nat) (f : Tenant → Tenant) : (s.onTenant i f).regs = s.regs := rfl
@[simp] theorem State.onTenant_now (i : Nat) (f : Tenant → Tenant) : (s.onTenant i f).now = s.now := rfl
@[simp] theorem State.onTenant_cycle0 (i : Nat) (f : Tenant → Tenant) : (s.onTenant i f).cycle0 = s.cycle0 := rfl
@[simp] theorem State.onTenant_sp (i : Nat) (f : Tenant → Tenant) : (s.onTenant i f).sp = s.sp := rfl
@[simp] theorem State.onTenant_stk (i : Nat) (f : Tenant → Tenant) : (s.onTenant i f).stk = s.stk := rfl
@[simp] theorem State.onTenant_cells (i : Nat) (f : Tenant → Tenant) : (s.onTenant i f).cells = s.cells := rfl
@[simp] theorem State.onTenant_tiles (i : Nat) (f : Tenant → Tenant) : (s.onTenant i f).tiles = s.tiles := rfl
@[simp] theorem State.onTenant_objs (i : Nat) (f : Tenant → Tenant) : (s.onTenant i f).objs = s.objs := rfl
@[simp] theorem State.onTenant_chans (i : Nat) (f : Tenant → Tenant) : (s.onTenant i f).chans = s.chans := rfl
@[simp] theorem State.onTenant_secs (i : Nat) (f : Tenant → Tenant) : (s.onTenant i f).secs = s.secs := rfl
@[simp] theorem State.onTenant_lnks (i : Nat) (f : Tenant → Tenant) : (s.onTenant i f).lnks = s.lnks := rfl
@[simp] theorem State.onTenant_bundles (i : Nat) (f : Tenant → Tenant) : (s.onTenant i f).bundles = s.bundles := rfl
@[simp] theorem State.onTenant_fab (i : Nat) (f : Tenant → Tenant) : (s.onTenant i f).fab = s.fab := rfl
@[simp] theorem State.onTenant_bind (i : Nat) (f : Tenant → Tenant) : (s.onTenant i f).bind = s.bind := rfl
@[simp] theorem State.onTenant_fbind (i : Nat) (f : Tenant → Tenant) : (s.onTenant i f).fbind = s.fbind := rfl
@[simp] theorem State.onTenant_tm (i : Nat) (f : Tenant → Tenant) : (s.onTenant i f).tm = s.tm := rfl
@[simp] theorem State.onTenant_latSw (i : Nat) (f : Tenant → Tenant) : (s.onTenant i f).latSw = s.latSw := rfl
@[simp] theorem State.onTenant_lat (i : Nat) (f : Tenant → Tenant) : (s.onTenant i f).lat = s.lat := rfl
@[simp] theorem State.onTenant_latHold (i : Nat) (f : Tenant → Tenant) : (s.onTenant i f).latHold = s.latHold := rfl
@[simp] theorem State.onTenant_tan (i : Nat) (f : Tenant → Tenant) : (s.onTenant i f).tan = s.tan := rfl
@[simp] theorem State.onTenant_chTurn (i : Nat) (f : Tenant → Tenant) : (s.onTenant i f).chTurn = s.chTurn := rfl
@[simp] theorem State.onTenant_board (i : Nat) (f : Tenant → Tenant) : (s.onTenant i f).board = s.board := rfl
@[simp] theorem State.onTenant_ports (i : Nat) (f : Tenant → Tenant) : (s.onTenant i f).ports = s.ports := rfl
@[simp] theorem State.onTenant_ws (i : Nat) (f : Tenant → Tenant) : (s.onTenant i f).ws = s.ws := rfl
@[simp] theorem State.onTenant_pw (i : Nat) (f : Tenant → Tenant) : (s.onTenant i f).pw = s.pw := rfl
@[simp] theorem State.onTenant_fe (i : Nat) (f : Tenant → Tenant) : (s.onTenant i f).fe = s.fe := rfl
@[simp] theorem State.onTenant_cfg (i : Nat) (f : Tenant → Tenant) : (s.onTenant i f).cfg = s.cfg := rfl
@[simp] theorem State.onTenant_hu (i : Nat) (f : Tenant → Tenant) : (s.onTenant i f).hu = s.hu := rfl
@[simp] theorem State.onTenant_secu (i : Nat) (f : Tenant → Tenant) : (s.onTenant i f).secu = s.secu := rfl
@[simp] theorem State.onTenant_latch (i : Nat) (f : Tenant → Tenant) : (s.onTenant i f).latch = s.latch := rfl
@[simp] theorem State.onTenant_wrB (i : Nat) (f : Tenant → Tenant) : (s.onTenant i f).wrB = s.wrB := rfl
@[simp] theorem State.onTenant_lost (i : Nat) (f : Tenant → Tenant) : (s.onTenant i f).lost = s.lost := rfl
@[simp] theorem State.onTenant_fails (i : Nat) (f : Tenant → Tenant) : (s.onTenant i f).fails = s.fails := rfl
@[simp] theorem State.onTenant_free (i : Nat) (f : Tenant → Tenant) : (s.onTenant i f).free = s.free := rfl
@[simp] theorem State.onTenant_out (i : Nat) (f : Tenant → Tenant) : (s.onTenant i f).out = s.out := rfl

@[simp] theorem State.onPfx_pending (i : Nat) (f : Pfx → Pfx) : (s.onPfx i f).pending = s.pending := rfl
@[simp] theorem State.onPfx_regs (i : Nat) (f : Pfx → Pfx) : (s.onPfx i f).regs = s.regs := rfl
@[simp] theorem State.onPfx_now (i : Nat) (f : Pfx → Pfx) : (s.onPfx i f).now = s.now := rfl
@[simp] theorem State.onPfx_cycle0 (i : Nat) (f : Pfx → Pfx) : (s.onPfx i f).cycle0 = s.cycle0 := rfl
@[simp] theorem State.onPfx_sp (i : Nat) (f : Pfx → Pfx) : (s.onPfx i f).sp = s.sp := rfl
@[simp] theorem State.onPfx_stk (i : Nat) (f : Pfx → Pfx) : (s.onPfx i f).stk = s.stk := rfl
@[simp] theorem State.onPfx_cells (i : Nat) (f : Pfx → Pfx) : (s.onPfx i f).cells = s.cells := rfl
@[simp] theorem State.onPfx_tiles (i : Nat) (f : Pfx → Pfx) : (s.onPfx i f).tiles = s.tiles := rfl
@[simp] theorem State.onPfx_objs (i : Nat) (f : Pfx → Pfx) : (s.onPfx i f).objs = s.objs := rfl
@[simp] theorem State.onPfx_chans (i : Nat) (f : Pfx → Pfx) : (s.onPfx i f).chans = s.chans := rfl
@[simp] theorem State.onPfx_secs (i : Nat) (f : Pfx → Pfx) : (s.onPfx i f).secs = s.secs := rfl
@[simp] theorem State.onPfx_lnks (i : Nat) (f : Pfx → Pfx) : (s.onPfx i f).lnks = s.lnks := rfl
@[simp] theorem State.onPfx_bundles (i : Nat) (f : Pfx → Pfx) : (s.onPfx i f).bundles = s.bundles := rfl
@[simp] theorem State.onPfx_fab (i : Nat) (f : Pfx → Pfx) : (s.onPfx i f).fab = s.fab := rfl
@[simp] theorem State.onPfx_bind (i : Nat) (f : Pfx → Pfx) : (s.onPfx i f).bind = s.bind := rfl
@[simp] theorem State.onPfx_fbind (i : Nat) (f : Pfx → Pfx) : (s.onPfx i f).fbind = s.fbind := rfl
@[simp] theorem State.onPfx_tm (i : Nat) (f : Pfx → Pfx) : (s.onPfx i f).tm = s.tm := rfl
@[simp] theorem State.onPfx_latSw (i : Nat) (f : Pfx → Pfx) : (s.onPfx i f).latSw = s.latSw := rfl
@[simp] theorem State.onPfx_lat (i : Nat) (f : Pfx → Pfx) : (s.onPfx i f).lat = s.lat := rfl
@[simp] theorem State.onPfx_latHold (i : Nat) (f : Pfx → Pfx) : (s.onPfx i f).latHold = s.latHold := rfl
@[simp] theorem State.onPfx_tan (i : Nat) (f : Pfx → Pfx) : (s.onPfx i f).tan = s.tan := rfl
@[simp] theorem State.onPfx_chTurn (i : Nat) (f : Pfx → Pfx) : (s.onPfx i f).chTurn = s.chTurn := rfl
@[simp] theorem State.onPfx_board (i : Nat) (f : Pfx → Pfx) : (s.onPfx i f).board = s.board := rfl
@[simp] theorem State.onPfx_ports (i : Nat) (f : Pfx → Pfx) : (s.onPfx i f).ports = s.ports := rfl
@[simp] theorem State.onPfx_ws (i : Nat) (f : Pfx → Pfx) : (s.onPfx i f).ws = s.ws := rfl
@[simp] theorem State.onPfx_pw (i : Nat) (f : Pfx → Pfx) : (s.onPfx i f).pw = s.pw := rfl
@[simp] theorem State.onPfx_fe (i : Nat) (f : Pfx → Pfx) : (s.onPfx i f).fe = s.fe := rfl
@[simp] theorem State.onPfx_cfg (i : Nat) (f : Pfx → Pfx) : (s.onPfx i f).cfg = s.cfg := rfl
@[simp] theorem State.onPfx_hu (i : Nat) (f : Pfx → Pfx) : (s.onPfx i f).hu = s.hu := rfl
@[simp] theorem State.onPfx_secu (i : Nat) (f : Pfx → Pfx) : (s.onPfx i f).secu = s.secu := rfl
@[simp] theorem State.onPfx_latch (i : Nat) (f : Pfx → Pfx) : (s.onPfx i f).latch = s.latch := rfl
@[simp] theorem State.onPfx_wrB (i : Nat) (f : Pfx → Pfx) : (s.onPfx i f).wrB = s.wrB := rfl
@[simp] theorem State.onPfx_lost (i : Nat) (f : Pfx → Pfx) : (s.onPfx i f).lost = s.lost := rfl
@[simp] theorem State.onPfx_fails (i : Nat) (f : Pfx → Pfx) : (s.onPfx i f).fails = s.fails := rfl
@[simp] theorem State.onPfx_free (i : Nat) (f : Pfx → Pfx) : (s.onPfx i f).free = s.free := rfl
@[simp] theorem State.onPfx_out (i : Nat) (f : Pfx → Pfx) : (s.onPfx i f).out = s.out := rfl

@[simp] theorem State.onMb_pending (m : Nat) (f : MBatch → MBatch) : (s.onMb m f).pending = s.pending := rfl
@[simp] theorem State.onMb_regs (m : Nat) (f : MBatch → MBatch) : (s.onMb m f).regs = s.regs := rfl
@[simp] theorem State.onMb_now (m : Nat) (f : MBatch → MBatch) : (s.onMb m f).now = s.now := rfl
@[simp] theorem State.onMb_cycle0 (m : Nat) (f : MBatch → MBatch) : (s.onMb m f).cycle0 = s.cycle0 := rfl
@[simp] theorem State.onMb_sp (m : Nat) (f : MBatch → MBatch) : (s.onMb m f).sp = s.sp := rfl
@[simp] theorem State.onMb_stk (m : Nat) (f : MBatch → MBatch) : (s.onMb m f).stk = s.stk := rfl
@[simp] theorem State.onMb_cells (m : Nat) (f : MBatch → MBatch) : (s.onMb m f).cells = s.cells := rfl
@[simp] theorem State.onMb_tiles (m : Nat) (f : MBatch → MBatch) : (s.onMb m f).tiles = s.tiles := rfl
@[simp] theorem State.onMb_objs (m : Nat) (f : MBatch → MBatch) : (s.onMb m f).objs = s.objs := rfl
@[simp] theorem State.onMb_chans (m : Nat) (f : MBatch → MBatch) : (s.onMb m f).chans = s.chans := rfl
@[simp] theorem State.onMb_secs (m : Nat) (f : MBatch → MBatch) : (s.onMb m f).secs = s.secs := rfl
@[simp] theorem State.onMb_lnks (m : Nat) (f : MBatch → MBatch) : (s.onMb m f).lnks = s.lnks := rfl
@[simp] theorem State.onMb_bundles (m : Nat) (f : MBatch → MBatch) : (s.onMb m f).bundles = s.bundles := rfl
@[simp] theorem State.onMb_fab (m : Nat) (f : MBatch → MBatch) : (s.onMb m f).fab = s.fab := rfl
@[simp] theorem State.onMb_bind (m : Nat) (f : MBatch → MBatch) : (s.onMb m f).bind = s.bind := rfl
@[simp] theorem State.onMb_fbind (m : Nat) (f : MBatch → MBatch) : (s.onMb m f).fbind = s.fbind := rfl
@[simp] theorem State.onMb_tm (m : Nat) (f : MBatch → MBatch) : (s.onMb m f).tm = s.tm := rfl
@[simp] theorem State.onMb_latSw (m : Nat) (f : MBatch → MBatch) : (s.onMb m f).latSw = s.latSw := rfl
@[simp] theorem State.onMb_lat (m : Nat) (f : MBatch → MBatch) : (s.onMb m f).lat = s.lat := rfl
@[simp] theorem State.onMb_latHold (m : Nat) (f : MBatch → MBatch) : (s.onMb m f).latHold = s.latHold := rfl
@[simp] theorem State.onMb_tan (m : Nat) (f : MBatch → MBatch) : (s.onMb m f).tan = s.tan := rfl
@[simp] theorem State.onMb_chTurn (m : Nat) (f : MBatch → MBatch) : (s.onMb m f).chTurn = s.chTurn := rfl
@[simp] theorem State.onMb_board (m : Nat) (f : MBatch → MBatch) : (s.onMb m f).board = s.board := rfl
@[simp] theorem State.onMb_ports (m : Nat) (f : MBatch → MBatch) : (s.onMb m f).ports = s.ports := rfl
@[simp] theorem State.onMb_ws (m : Nat) (f : MBatch → MBatch) : (s.onMb m f).ws = s.ws := rfl
@[simp] theorem State.onMb_pw (m : Nat) (f : MBatch → MBatch) : (s.onMb m f).pw = s.pw := rfl
@[simp] theorem State.onMb_fe (m : Nat) (f : MBatch → MBatch) : (s.onMb m f).fe = s.fe := rfl
@[simp] theorem State.onMb_cfg (m : Nat) (f : MBatch → MBatch) : (s.onMb m f).cfg = s.cfg := rfl
@[simp] theorem State.onMb_hu (m : Nat) (f : MBatch → MBatch) : (s.onMb m f).hu = s.hu := rfl
@[simp] theorem State.onMb_secu (m : Nat) (f : MBatch → MBatch) : (s.onMb m f).secu = s.secu := rfl
@[simp] theorem State.onMb_latch (m : Nat) (f : MBatch → MBatch) : (s.onMb m f).latch = s.latch := rfl
@[simp] theorem State.onMb_wrB (m : Nat) (f : MBatch → MBatch) : (s.onMb m f).wrB = s.wrB := rfl
@[simp] theorem State.onMb_lost (m : Nat) (f : MBatch → MBatch) : (s.onMb m f).lost = s.lost := rfl
@[simp] theorem State.onMb_fails (m : Nat) (f : MBatch → MBatch) : (s.onMb m f).fails = s.fails := rfl
@[simp] theorem State.onMb_free (m : Nat) (f : MBatch → MBatch) : (s.onMb m f).free = s.free := rfl
@[simp] theorem State.onMb_out (m : Nat) (f : MBatch → MBatch) : (s.onMb m f).out = s.out := rfl

@[simp] theorem State.raiseFlags_pending (t : Site) (g : Flags) : (s.raiseFlags t g).pending = s.pending := rfl
@[simp] theorem State.raiseFlags_regs (t : Site) (g : Flags) : (s.raiseFlags t g).regs = s.regs := rfl
@[simp] theorem State.raiseFlags_now (t : Site) (g : Flags) : (s.raiseFlags t g).now = s.now := rfl
@[simp] theorem State.raiseFlags_cycle0 (t : Site) (g : Flags) : (s.raiseFlags t g).cycle0 = s.cycle0 := rfl
@[simp] theorem State.raiseFlags_sp (t : Site) (g : Flags) : (s.raiseFlags t g).sp = s.sp := rfl
@[simp] theorem State.raiseFlags_stk (t : Site) (g : Flags) : (s.raiseFlags t g).stk = s.stk := rfl
@[simp] theorem State.raiseFlags_cells (t : Site) (g : Flags) : (s.raiseFlags t g).cells = s.cells := rfl
@[simp] theorem State.raiseFlags_objs (t : Site) (g : Flags) : (s.raiseFlags t g).objs = s.objs := rfl
@[simp] theorem State.raiseFlags_chans (t : Site) (g : Flags) : (s.raiseFlags t g).chans = s.chans := rfl
@[simp] theorem State.raiseFlags_secs (t : Site) (g : Flags) : (s.raiseFlags t g).secs = s.secs := rfl
@[simp] theorem State.raiseFlags_lnks (t : Site) (g : Flags) : (s.raiseFlags t g).lnks = s.lnks := rfl
@[simp] theorem State.raiseFlags_bundles (t : Site) (g : Flags) : (s.raiseFlags t g).bundles = s.bundles := rfl
@[simp] theorem State.raiseFlags_fab (t : Site) (g : Flags) : (s.raiseFlags t g).fab = s.fab := rfl
@[simp] theorem State.raiseFlags_bind (t : Site) (g : Flags) : (s.raiseFlags t g).bind = s.bind := rfl
@[simp] theorem State.raiseFlags_fbind (t : Site) (g : Flags) : (s.raiseFlags t g).fbind = s.fbind := rfl
@[simp] theorem State.raiseFlags_tm (t : Site) (g : Flags) : (s.raiseFlags t g).tm = s.tm := rfl
@[simp] theorem State.raiseFlags_latSw (t : Site) (g : Flags) : (s.raiseFlags t g).latSw = s.latSw := rfl
@[simp] theorem State.raiseFlags_lat (t : Site) (g : Flags) : (s.raiseFlags t g).lat = s.lat := rfl
@[simp] theorem State.raiseFlags_latHold (t : Site) (g : Flags) : (s.raiseFlags t g).latHold = s.latHold := rfl
@[simp] theorem State.raiseFlags_tan (t : Site) (g : Flags) : (s.raiseFlags t g).tan = s.tan := rfl
@[simp] theorem State.raiseFlags_chTurn (t : Site) (g : Flags) : (s.raiseFlags t g).chTurn = s.chTurn := rfl
@[simp] theorem State.raiseFlags_board (t : Site) (g : Flags) : (s.raiseFlags t g).board = s.board := rfl
@[simp] theorem State.raiseFlags_ports (t : Site) (g : Flags) : (s.raiseFlags t g).ports = s.ports := rfl
@[simp] theorem State.raiseFlags_serve (t : Site) (g : Flags) : (s.raiseFlags t g).serve = s.serve := rfl
@[simp] theorem State.raiseFlags_ws (t : Site) (g : Flags) : (s.raiseFlags t g).ws = s.ws := rfl
@[simp] theorem State.raiseFlags_pw (t : Site) (g : Flags) : (s.raiseFlags t g).pw = s.pw := rfl
@[simp] theorem State.raiseFlags_fe (t : Site) (g : Flags) : (s.raiseFlags t g).fe = s.fe := rfl
@[simp] theorem State.raiseFlags_cfg (t : Site) (g : Flags) : (s.raiseFlags t g).cfg = s.cfg := rfl
@[simp] theorem State.raiseFlags_hu (t : Site) (g : Flags) : (s.raiseFlags t g).hu = s.hu := rfl
@[simp] theorem State.raiseFlags_secu (t : Site) (g : Flags) : (s.raiseFlags t g).secu = s.secu := rfl
@[simp] theorem State.raiseFlags_latch (t : Site) (g : Flags) : (s.raiseFlags t g).latch = s.latch := rfl
@[simp] theorem State.raiseFlags_wrB (t : Site) (g : Flags) : (s.raiseFlags t g).wrB = s.wrB := rfl
@[simp] theorem State.raiseFlags_lost (t : Site) (g : Flags) : (s.raiseFlags t g).lost = s.lost := rfl
@[simp] theorem State.raiseFlags_fails (t : Site) (g : Flags) : (s.raiseFlags t g).fails = s.fails := rfl
@[simp] theorem State.raiseFlags_free (t : Site) (g : Flags) : (s.raiseFlags t g).free = s.free := rfl
@[simp] theorem State.raiseFlags_out (t : Site) (g : Flags) : (s.raiseFlags t g).out = s.out := rfl

@[simp] theorem State.emit_out (o : Out) : (s.emit o).out = s.out ++ [o] := rfl
@[simp] theorem State.draw_free (n : Nat) : (s.draw n).free = s.free + n := rfl

end Sys2Proof.Machine
end

