-- ==== Sys2Proof/Laws/Store.lean ====
section
/-! SUPPORT. What the operations of a sparse store do to what it reads as, and that they keep the canonical form. -/

namespace Sys2Proof.Machine

open Sys2Proof

theorem sget_sdel_same {α : Type} (d : α) (m : Sparse α) (k : Nat) : sget d (sdel m k) k = d := by
  induction m with
  | nil => rfl
  | cons e r ih =>
    obtain ⟨k', v⟩ := e
    by_cases h : k' = k <;> simp [sdel, sget, h, ih]

theorem sget_sdel_ne {α : Type} (d : α) (m : Sparse α) {k j : Nat} (h : j ≠ k) : sget d (sdel m k) j = sget d m j := by
  induction m with
  | nil => rfl
  | cons e r ih =>
    obtain ⟨k', v⟩ := e
    by_cases h1 : k' = k
    · have h2 : k' ≠ j := fun h2 => h (h2.symm.trans h1)
      simp [sdel, sget, h1, ih, Ne.symm h]
    · simp [sdel, sget, h1, ih]

theorem sget_sins_same {α : Type} (d : α) (m : Sparse α) (k : Nat) (v : α) : sget d (sins m k v) k = v := by
  induction m with
  | nil => simp [sins, sget]
  | cons e r ih =>
    obtain ⟨k', v'⟩ := e
    by_cases h1 : k < k'
    · simp [sins, sget, h1]
    · by_cases h2 : k' = k <;> simp [sins, sget, h1, h2, ih]

theorem sget_sins_ne {α : Type} (d : α) (m : Sparse α) {k j : Nat} (v : α) (h : j ≠ k) : sget d (sins m k v) j = sget d m j := by
  induction m with
  | nil => simp [sins, sget, Ne.symm h]
  | cons e r ih =>
    obtain ⟨k', v'⟩ := e
    by_cases h1 : k < k'
    · simp [sins, sget, h1, Ne.symm h]
    · by_cases h2 : k' = k
      · have h3 : k ≠ j := Ne.symm h
        simp [sins, sget, h2, h3]
      · simp [sins, sget, h1, h2, ih]

/-- A store reads back what was set. -/
@[simp] theorem sget_sset_same {α : Type} [DecidableEq α] (d : α) (m : Sparse α) (k : Nat) (v : α) : sget d (sset d m k v) k = v := by
  by_cases h : v = d
  · simp [sset, h, sget_sdel_same]
  · simp [sset, h, sget_sins_same]

/-- Setting one key leaves every other. -/
theorem sget_sset_ne {α : Type} [DecidableEq α] (d : α) (m : Sparse α) {k j : Nat} (v : α) (h : j ≠ k) :
    sget d (sset d m k v) j = sget d m j := by
  by_cases h1 : v = d
  · simp [sset, h1, sget_sdel_ne d m h]
  · simp [sset, h1, sget_sins_ne d m v h]

theorem sget_sset {α : Type} [DecidableEq α] (d : α) (m : Sparse α) (k j : Nat) (v : α) :
    sget d (sset d m k v) j = if j = k then v else sget d m j := by
  by_cases h : j = k
  · simp [h]
  · simp [h, sget_sset_ne d m v h]

@[simp] theorem sget_supd_same {α : Type} [DecidableEq α] (d : α) (m : Sparse α) (k : Nat) (f : α → α) :
    sget d (supd d m k f) k = f (sget d m k) := by simp [supd]

theorem sget_supd_ne {α : Type} [DecidableEq α] (d : α) (m : Sparse α) {k j : Nat} (f : α → α) (h : j ≠ k) :
    sget d (supd d m k f) j = sget d m j := sget_sset_ne d m _ h

/-- Every key of the list is above `b`. -/
def sabove {α : Type} (b : Nat) (m : Sparse α) : Prop := ∀ e ∈ m, b < e.1

/-- Strictly rising keys, as a recursive fact. -/
theorem srising_cons {α : Type} (e : Nat × α) (r : Sparse α) : srising (e :: r) = true ↔ sabove e.1 r ∧ srising r = true := by
  induction r generalizing e with
  | nil => simp [srising, sabove]
  | cons e' r ih =>
    obtain ⟨k, v⟩ := e
    obtain ⟨k', v'⟩ := e'
    have h := ih (k', v')
    constructor
    · intro h0
      have h1 : k < k' ∧ srising ((k', v') :: r) = true := by simpa [srising] using h0
      refine ⟨?_, h1.2⟩
      intro x hx
      rcases List.mem_cons.1 hx with rfl | hx
      · exact h1.1
      · exact lt_trans h1.1 ((h.1 h1.2).1 x hx)
    · intro h0
      have h1 : k < k' := h0.1 (k', v') (by simp)
      simp [srising, h1, h0.2]

theorem sabove_sdel {α : Type} {b : Nat} {m : Sparse α} (k : Nat) (h : sabove b m) : sabove b (sdel m k) := by
  induction m with
  | nil => simpa [sdel] using h
  | cons e r ih =>
    obtain ⟨k', v⟩ := e
    have hr : sabove b r := fun x hx => h x (List.mem_cons_of_mem _ hx)
    by_cases h1 : k' = k
    · simpa [sdel, h1] using ih hr
    · intro x hx
      simp only [sdel, h1, if_false, List.mem_cons] at hx
      rcases hx with rfl | hx
      · exact h _ (by simp)
      · exact ih hr x hx

theorem srising_sdel {α : Type} {m : Sparse α} (k : Nat) (h : srising m = true) : srising (sdel m k) = true := by
  induction m with
  | nil => rfl
  | cons e r ih =>
    obtain ⟨k', v⟩ := e
    have h1 := (srising_cons _ _).1 h
    by_cases h2 : k' = k
    · simpa [sdel, h2] using ih h1.2
    · simp only [sdel, h2, if_false]
      exact (srising_cons _ _).2 ⟨sabove_sdel k h1.1, ih h1.2⟩

theorem sabove_sins {α : Type} {b : Nat} {m : Sparse α} {k : Nat} (v : α) (h : sabove b m) (hk : b < k) : sabove b (sins m k v) := by
  induction m with
  | nil => intro x hx; simp [sins] at hx; subst hx; exact hk
  | cons e r ih =>
    obtain ⟨k', v'⟩ := e
    have hr : sabove b r := fun x hx => h x (List.mem_cons_of_mem _ hx)
    have hk' : b < k' := h (k', v') (by simp)
    intro x hx
    by_cases h1 : k < k'
    · simp only [sins, h1, if_true, List.mem_cons] at hx
      rcases hx with rfl | rfl | hx
      · exact hk
      · exact hk'
      · exact hr x hx
    · by_cases h2 : k' = k
      · simp only [sins, h1, h2, if_true, if_false, lt_irrefl, List.mem_cons] at hx
        rcases hx with rfl | hx
        · exact hk
        · exact hr x hx
      · simp only [sins, h1, h2, if_false, List.mem_cons] at hx
        rcases hx with rfl | hx
        · exact hk'
        · exact ih hr x hx

theorem srising_sins {α : Type} {m : Sparse α} (k : Nat) (v : α) (h : srising m = true) : srising (sins m k v) = true := by
  induction m with
  | nil => simp [sins, srising]
  | cons e r ih =>
    obtain ⟨k', v'⟩ := e
    have h1 := (srising_cons _ _).1 h
    by_cases h2 : k < k'
    · simp only [sins, h2, if_true]
      refine (srising_cons _ _).2 ⟨?_, h⟩
      intro x hx
      rcases List.mem_cons.1 hx with rfl | hx
      · exact h2
      · exact lt_trans h2 (h1.1 x hx)
    · by_cases h3 : k' = k
      · subst h3
        simp only [sins, lt_irrefl, if_true, if_false]
        exact (srising_cons _ _).2 ⟨h1.1, h1.2⟩
      · simp only [sins, h2, h3, if_false]
        exact (srising_cons _ _).2 ⟨sabove_sins v h1.1 (by omega), ih h1.2⟩

theorem sdel_ne_default {α : Type} {d : α} {m : Sparse α} (k : Nat) (h : ∀ e ∈ m, e.2 ≠ d) : ∀ e ∈ sdel m k, e.2 ≠ d := by
  induction m with
  | nil => simp [sdel]
  | cons e r ih =>
    obtain ⟨k', v⟩ := e
    have hr : ∀ e ∈ r, e.2 ≠ d := fun x hx => h x (List.mem_cons_of_mem _ hx)
    by_cases h1 : k' = k
    · simpa [sdel, h1] using ih hr
    · intro x hx
      simp only [sdel, h1, if_false, List.mem_cons] at hx
      rcases hx with rfl | hx
      · exact h _ (by simp)
      · exact ih hr x hx

theorem sins_ne_default {α : Type} {d : α} {m : Sparse α} (k : Nat) {v : α} (h : ∀ e ∈ m, e.2 ≠ d) (hv : v ≠ d) :
    ∀ e ∈ sins m k v, e.2 ≠ d := by
  induction m with
  | nil => intro x hx; simp [sins] at hx; subst hx; exact hv
  | cons e r ih =>
    obtain ⟨k', v'⟩ := e
    have hr : ∀ e ∈ r, e.2 ≠ d := fun x hx => h x (List.mem_cons_of_mem _ hx)
    have h0 : v' ≠ d := h (k', v') (by simp)
    intro x hx
    by_cases h1 : k < k'
    · simp only [sins, h1, if_true, List.mem_cons] at hx
      rcases hx with rfl | rfl | hx
      · exact hv
      · exact h0
      · exact hr x hx
    · by_cases h2 : k' = k
      · simp only [sins, h1, h2, if_true, if_false, lt_irrefl, List.mem_cons] at hx
        rcases hx with rfl | hx
        · exact hv
        · exact hr x hx
      · simp only [sins, h1, h2, if_false, List.mem_cons] at hx
        rcases hx with rfl | hx
        · exact h0
        · exact ih hr x hx

theorem swf_iff {α : Type} [DecidableEq α] (d : α) (m : Sparse α) : swf d m = true ↔ srising m = true ∧ ∀ e ∈ m, e.2 ≠ d := by
  simp [swf, List.all_eq_true]

/-- Setting a key keeps the canonical form. -/
theorem swf_sset {α : Type} [DecidableEq α] (d : α) (m : Sparse α) (k : Nat) (v : α) (h : swf d m = true) : swf d (sset d m k v) = true := by
  rw [swf_iff] at h ⊢
  by_cases h1 : v = d
  · simp only [sset, h1, if_true]
    exact ⟨srising_sdel k h.1, sdel_ne_default k h.2⟩
  · simp only [sset, h1, if_false]
    exact ⟨srising_sins k v h.1, sins_ne_default k h.2 h1⟩

/-- Changing a key keeps the canonical form. -/
theorem swf_supd {α : Type} [DecidableEq α] (d : α) (m : Sparse α) (k : Nat) (f : α → α) (h : swf d m = true) : swf d (supd d m k f) = true :=
  swf_sset d m k _ h

/-- Writing bytes keeps the canonical form. -/
theorem swf_sputBytes (d : Byte) (m : Sparse Byte) (k : Nat) (bs : List Byte) (h : swf d m = true) : swf d (sputBytes d m k bs) = true := by
  induction bs generalizing m k with
  | nil => exact h
  | cons b r ih => exact ih _ _ (swf_sset d m k b h)

end Sys2Proof.Machine
end

