-- ==== Sys2Proof/Laws/Access.lean ====
section
/-! SUPPORT. What reading a register, a tile, an object, a channel, a controller or a link answers after an update. -/

namespace Sys2Proof.Machine

open Sys2Proof

theorem xor_cancel (a b : Nat) : Nat.xor (Nat.xor a b) b = a := by
  show (a ^^^ b) ^^^ b = a
  rw [Nat.xor_assoc, Nat.xor_self, Nat.xor_zero]

/-- A field reads back the low bits that were put into it. -/
@[simp] theorem State.get_put_same (s : State) (f : FRef) (v : Nat) : (s.put f v).get f = v % 2 ^ f.w := by
  simp [State.get, State.put]

/-- Another field is as it was. -/
theorem State.get_put_ne (s : State) {f g : FRef} (v : Nat) (h : g.key ≠ f.key) : (s.put f v).get g = s.get g := by
  simp [State.get, State.put, sget_sset_ne _ _ _ h]

theorem State.sget_put_ne (s : State) {f : FRef} {k : Nat} (v : Nat) (h : k ≠ f.key) : sget 0 (s.put f v).regs k = sget 0 s.regs k := by
  simp [State.put, sget_sset_ne _ _ _ h]

/-- A read depends on the register file alone. -/
theorem State.get_congr {s u : State} (h : u.regs = s.regs) (f : FRef) : u.get f = s.get f := by simp [State.get, h]

/-- A counter has counted. -/
theorem State.counted_bump (s : State) (f : FRef) (n : Nat) : Counted f n s (s.bump f n) := by
  have h : min (s.get f + n) (2 ^ f.w - 1) < 2 ^ f.w := lt_of_le_of_lt (min_le_right _ _) (Nat.sub_lt (Nat.two_pow_pos _) one_pos)
  left
  simp [State.bump, Nat.mod_eq_of_lt h]

@[simp] theorem State.get_set1_same (s : State) (f : FRef) (h : 0 < f.w) : (s.set1 f).get f = 1 := by
  have : 1 < 2 ^ f.w := Nat.one_lt_two_pow (by omega)
  simp [State.set1, Nat.mod_eq_of_lt this]

/-- No two fields of a register begin at one bit, and a field's bits lie within a register. -/
theorem regTable_fields : ∀ d ∈ regTable, (d.fields.map fun f => f.lsb).Nodup ∧ ∀ f ∈ d.fields, 0 < f.w ∧ f.lsb + f.w ≤ 256 := by decide +kernel

/-- The register found at an offset is one of the map's. -/
theorem regFind_mem {off k : Nat} {d : RDesc} : ∀ {l : List RDesc}, regFind off l = some (d, k) → d ∈ l
  | [], h => by simp [regFind] at h
  | r :: l, h => by
    simp only [regFind] at h
    split at h
    · cases h; simp
    · exact List.mem_cons_of_mem _ (regFind_mem h)

theorem RegsBut.refl (l : List FRef) (s : State) : RegsBut l s s := fun _ _ => rfl

theorem RegsBut.trans {l : List FRef} {s u w : State} (h1 : RegsBut l s u) (h2 : RegsBut l u w) : RegsBut l s w :=
  fun k hk => (h2 k hk).trans (h1 k hk)

theorem RegsBut.mono {l l' : List FRef} {s u : State} (h : RegsBut l s u) (hl : ∀ f ∈ l, f ∈ l') : RegsBut l' s u :=
  fun k hk => h k fun f hf => hk f (hl f hf)

theorem RegsBut.of_regs {l : List FRef} {s u : State} (h : u.regs = s.regs) : RegsBut l s u := fun _ _ => by rw [h]

theorem RegsBut.put {l : List FRef} {s u : State} (h : RegsBut l s u) (f : FRef) (v : Nat) (hf : f ∈ l) : RegsBut l s (u.put f v) :=
  fun k hk => by rw [State.sget_put_ne u v (hk f hf)]; exact h k hk

theorem RegsBut.bump {l : List FRef} {s u : State} (h : RegsBut l s u) (f : FRef) (n : Nat) (hf : f ∈ l) : RegsBut l s (u.bump f n) :=
  h.put f _ hf

/-- A field outside the list reads as before. -/
theorem RegsBut.get {l : List FRef} {s u : State} (h : RegsBut l s u) {f : FRef} (hf : ∀ g ∈ l, f.key ≠ g.key) : u.get f = s.get f := by
  simp [State.get, h f.key hf]

@[simp] theorem State.tile_onTile_same (s : State) (t : Site) (f : Tile → Tile) : (s.onTile t f).tile t = f (s.tile t) := by
  simp [State.tile, State.onTile]

theorem State.tile_onTile_ne (s : State) {t t' : Site} (f : Tile → Tile) (h : t' ≠ t) : (s.onTile t f).tile t' = s.tile t' := by
  have : t'.val ≠ t.val := fun e => h (Fin.ext e)
  simp [State.tile, State.onTile, sget_supd_ne _ _ _ this]

theorem State.tile_congr {s u : State} (h : u.tiles = s.tiles) (t : Site) : u.tile t = s.tile t := by simp [State.tile, h]

@[simp] theorem State.tile_put (s : State) (f : FRef) (v : Nat) (t : Site) : (s.put f v).tile t = s.tile t := rfl
@[simp] theorem State.tile_bump (s : State) (f : FRef) (n : Nat) (t : Site) : (s.bump f n).tile t = s.tile t := rfl
@[simp] theorem State.tile_set1 (s : State) (f : FRef) (t : Site) : (s.set1 f).tile t = s.tile t := rfl
@[simp] theorem State.tile_emit (s : State) (o : Out) (t : Site) : (s.emit o).tile t = s.tile t := rfl
@[simp] theorem State.get_onTile (s : State) (t : Site) (g : Tile → Tile) (f : FRef) : (s.onTile t g).get f = s.get f := rfl
@[simp] theorem State.get_emit (s : State) (o : Out) (f : FRef) : (s.emit o).get f = s.get f := rfl
@[simp] theorem State.owner_onTile (s : State) (t t' : Site) (g : Tile → Tile) (b : Nat) : (s.onTile t g).owner t' b = s.owner t' b := rfl

theorem OtherTiles.onTile {t : Site} {s u : State} (h : OtherTiles t s u) (f : Tile → Tile) : OtherTiles t s (u.onTile t f) :=
  fun t' ht => (State.tile_onTile_ne u f ht).trans (h t' ht)

theorem OtherTiles.refl (t : Site) (s : State) : OtherTiles t s s := fun _ _ => rfl

@[simp] theorem Tile.bank_onBank_same (x : Tile) (b : Nat) (f : Bank → Bank) : (x.onBank b f).bank b = f (x.bank b) := by
  simp [Tile.bank, Tile.onBank]

theorem Tile.bank_onBank_ne (x : Tile) {b b' : Nat} (f : Bank → Bank) (h : b' ≠ b) : (x.onBank b f).bank b' = x.bank b' := by
  simp [Tile.bank, Tile.onBank, sget_supd_ne _ _ _ h]

theorem Tile.s_setS (x : Tile) (d i : BitVec 5) (v : Word64) : (x.setS d v).s i = if i = d ∧ d ≠ 0 then v else x.s i := by
  by_cases hd : d = 0
  · simp [Tile.setS, hd]
  · by_cases hi : i = d
    · subst hi
      rw [if_pos ⟨rfl, hd⟩]
      simp only [Tile.setS, Tile.s, if_neg hd, sget_sset_same]
    · have : i.toNat ≠ d.toNat := fun e => hi (BitVec.eq_of_toNat_eq e)
      rw [if_neg fun h => hi h.1]
      simp only [Tile.setS, Tile.s, if_neg hd, sget_sset_ne _ _ _ this]

theorem Tile.v_setV (x : Tile) (d i : BitVec 5) (v : BitVec 1024) : (x.setV d v).v i = if i = d then v else x.v i := by
  by_cases hi : i = d
  · subst hi; simp [Tile.setV, Tile.v]
  · have : i.toNat ≠ d.toNat := fun e => hi (BitVec.eq_of_toNat_eq e)
    simp [Tile.setV, Tile.v, hi, sget_sset_ne _ _ _ this]

theorem Tile.x_setX (x : Tile) (d i : BitVec 5) (v : BitVec 64) : (x.setX d v).x i = if i = d then v else x.x i := by
  by_cases hi : i = d
  · subst hi; simp [Tile.setX, Tile.x]
  · have : i.toNat ≠ d.toNat := fun e => hi (BitVec.eq_of_toNat_eq e)
    simp [Tile.setX, Tile.x, hi, sget_sset_ne _ _ _ this]

theorem Tile.m_setM (x : Tile) (d i : Nat) (v : BitVec 512) :
    (x.setM d v).m i = if i % 8 = d % 8 ∧ d % 8 ≠ 0 then v else x.m i := by
  by_cases hd : d % 8 = 0
  · simp [Tile.setM, hd]
  · by_cases hi : i % 8 = d % 8
    · simp [Tile.setM, Tile.m, hd, hi]
    · rw [if_neg fun h => hi h.1]
      by_cases h0 : i % 8 = 0
      · simp [Tile.m, h0]
      · simp [Tile.setM, Tile.m, hd, h0, sget_sset_ne _ _ _ hi]

/-- A write of a scalar register changes the scalar registers alone. -/
theorem Tile.setS_frame (x : Tile) (d : BitVec 5) (v : Word64) : x.setS d v = { x with sr := (x.setS d v).sr } := by
  unfold Tile.setS
  split <;> rfl

/-- A write of a mask register changes the mask registers alone. -/
theorem Tile.setM_frame (x : Tile) (d : Nat) (v : BitVec 512) : x.setM d v = { x with mr := (x.setM d v).mr } := by
  unfold Tile.setM
  split <;> rfl

@[simp] theorem State.obj_onObj_same (s : State) (i : Nat) (f : Obj → Obj) : (s.onObj i f).obj i = f (s.obj i) := by
  simp [State.obj, State.onObj]

theorem State.obj_onObj_ne (s : State) {i j : Nat} (f : Obj → Obj) (h : j ≠ i) : (s.onObj i f).obj j = s.obj j := by
  simp [State.obj, State.onObj, sget_supd_ne _ _ _ h]

@[simp] theorem State.chan_onChan_same (s : State) (i : Nat) (f : Chan → Chan) : (s.onChan i f).chan i = f (s.chan i) := by
  simp [State.chan, State.onChan]

theorem State.chan_onChan_ne (s : State) {i j : Nat} (f : Chan → Chan) (h : j ≠ i) : (s.onChan i f).chan j = s.chan j := by
  simp [State.chan, State.onChan, sget_supd_ne _ _ _ h]

@[simp] theorem State.sec_onSec_same (s : State) (i : Nat) (f : Sec → Sec) : (s.onSec i f).sec i = f (s.sec i) := by
  simp [State.sec, State.onSec]

theorem State.sec_onSec_ne (s : State) {i j : Nat} (f : Sec → Sec) (h : j ≠ i) : (s.onSec i f).sec j = s.sec j := by
  simp [State.sec, State.onSec, sget_supd_ne _ _ _ h]

@[simp] theorem State.lnk_onLnk_same (s : State) (i : Nat) (f : Lnk → Lnk) : (s.onLnk i f).lnk i = f (s.lnk i) := by
  simp [State.lnk, State.onLnk]

theorem State.lnk_onLnk_ne (s : State) {i j : Nat} (f : Lnk → Lnk) (h : j ≠ i) : (s.onLnk i f).lnk j = s.lnk j := by
  simp [State.lnk, State.onLnk, sget_supd_ne _ _ _ h]

end Sys2Proof.Machine
end

