-- ==== Sys2Proof/Laws/Issue.lean ====
section
/-! SUPPORT. What the issue of an instruction does: fetch, retirement, exceptions, accesses to scratchpad. -/

namespace Sys2Proof.Machine

open Sys2Proof

theorem State.spTouch_awake {s : State} {t : Site} {b : Nat} (h : ((s.tile t).bank b).pst ≠ .ret) :
    s.spTouch t b = s.onTile t fun x => x.onBank b fun k => { k with last := s.now } := by simp [State.spTouch, h]

/-- No bank of an access that VC may make is asleep. -/
theorem State.sleepsOn_awake {s : State} {t : Site} {unit : Nat} : ∀ {l : List (Nat × Nat)}, (∀ w ∈ l, Awake s t (bankOf w.1)) → s.sleepsOn t unit l = none
  | [], _ => rfl
  | (a, n) :: r, h => by
    have ha := h (a, n) (by simp)
    simp only [State.sleepsOn, ha.1, ha.2, false_or, if_false]
    split
    · rfl
    · exact State.sleepsOn_awake fun w hw => h w (List.mem_cons_of_mem _ hw)

/-- A ready vector core fetches its word: where `is` knows it, `k` follows, the fetch having touched its bank. -/
theorem State.vcFetch_ready {s : State} {t : Site} (h : VcReady s t) (is : BitVec 64 → Bool) (k : State → State) :
    s.vcFetch t is k =
      if is (s.vcWord t) then k (s.onTile t fun x => x.onBank (bankOf (s.tile t).pc) fun b => { b with last := s.now }) else s := by
  obtain ⟨h1, h2, h3, h4, h5⟩ := h
  have ha : s.vcAsleep t [((s.tile t).pc, 8)] = none := State.sleepsOn_awake (by simpa using h5)
  simp only [State.vcFetch, h1, h2, h4, ha, State.spTouch_awake h5.1]
  rw [if_neg (by simp), if_neg (by omega)]
  simp

/-- A ready vector core runs the instruction that the word at its PC spells, the fetch having touched its bank. -/
theorem State.vcIssue_ready {s : State} {t : Site} {i : Instr} (h : VcReady s t) (hi : bviDecode t (s.vcWord t) = some i) (k : State → State) :
    s.vcIssue t i k = k (s.onTile t fun x => x.onBank (bankOf (s.tile t).pc) fun b => { b with last := s.now }) := by
  simp [State.vcIssue, State.vcFetch_ready h, hi]

/-- A command whose instruction is not the one fetched leaves a ready vector core alone. -/
theorem State.vcIssue_other {s : State} {t : Site} {i : Instr} (h : VcReady s t) (hi : bviDecode t (s.vcWord t) ≠ some i) (k : State → State) :
    s.vcIssue t i k = s := by
  simp [State.vcIssue, State.vcFetch_ready h, hi]

/-- Outside RUN, or with the clock stopped, nothing issues. -/
theorem State.vcIssue_idle {s : State} {t : Site} (h : (s.tile t).vc ≠ .run ∨ (s.tile t).clkOff = true) (i : Instr) (k : State → State) :
    s.vcIssue t i k = s := by
  unfold State.vcIssue State.vcFetch
  rw [if_pos h]

/-- The tile after retirement. -/
theorem State.tile_vcRetire (s : State) (t : Site) (n : Nat) :
    (s.vcRetire t n).tile t = { s.tile t with pc := n % 2 ^ 64, ord := (s.tile t).ord + 1 } := by
  simp [State.vcRetire]

/-- What retirement leaves beside the tile and VC_INSTR_CNT. -/
theorem State.vcRetire_frame (s : State) (t : Site) (n : Nat) :
    s.vcRetire t n = { s with tiles := (s.vcRetire t n).tiles, regs := (s.vcRetire t n).regs } ∧
      OtherTiles t s (s.vcRetire t n) ∧ RegsBut [R.VC_INSTR_CNT t.val] s (s.vcRetire t n) ∧
      Counted (R.VC_INSTR_CNT t.val) 1 s (s.vcRetire t n) := by
  refine ⟨rfl, ?_, ?_, ?_⟩
  · exact fun t' ht => (State.tile_bump _ _ _ t').trans (State.tile_onTile_ne s _ ht)
  · exact (RegsBut.of_regs rfl : RegsBut _ s (s.onTile t _)).bump _ _ (by simp)
  · exact State.counted_bump (s.onTile t _) _ _

theorem State.vcRetire_get (s : State) (t : Site) (n : Nat) {f : FRef} (h : f.key ≠ (R.VC_INSTR_CNT t.val).key) :
    (s.vcRetire t n).get f = s.get f := (s.vcRetire_frame t n).2.2.1.get (by simpa using h)

/-- An instruction that only changes registers and flags of its tile by `g`, and then goes on, leaves what VcDone says. -/
theorem VcDone.of_regs {s : State} {t : Site} (h : VcReady s t) (g : Tile → Tile) (d : VcDelta)
    (hmem : d.mem = []) (hcnt : d.counts = []) (hvc : d.vc = .run) (hpc : d.npc = (s.tile t).pc + 8)
    (hg : ∀ x, g x = { x with sr := (g x).sr, vr := (g x).vr, xt := (g x).xt, mr := (g x).mr, vflags := (g x).vflags })
    (hs : ∀ x : Tile, x.sr = (s.tile t).sr → x.vr = (s.tile t).vr → x.xt = (s.tile t).xt → x.mr = (s.tile t).mr →
      x.vflags = (s.tile t).vflags →
      (∀ i, (g x).s i = match d.sd with | some (r, v) => if i = r ∧ r ≠ 0 then v else (s.tile t).s i | none => (s.tile t).s i) ∧
      (∀ i, (g x).v i = match d.vd with | some (r, v) => if i = r then v else (s.tile t).v i | none => (s.tile t).v i) ∧
      (∀ i, (g x).x i = match d.xd with | some (r, v) => if i = r then v else (s.tile t).x i | none => (s.tile t).x i) ∧
      (∀ i, (g x).m i =
        match d.md with | some (r, v) => if i % 8 = r % 8 ∧ r % 8 ≠ 0 then v else (s.tile t).m i | none => (s.tile t).m i) ∧
      (g x).vflags = d.flags (s.tile t).vflags) :
    VcDone d t s (((s.onTile t fun x => x.onBank (bankOf (s.tile t).pc) fun b => { b with last := s.now }).onTile t g).vcNext t) := by
  obtain ⟨h1, h2, h3, h4, h5⟩ := h
  have hx := hs ((s.tile t).onBank (bankOf (s.tile t).pc) fun b => { b with last := s.now }) rfl rfl rfl rfl rfl
  have hgx := hg ((s.tile t).onBank (bankOf (s.tile t).pc) fun b => { b with last := s.now })
  generalize hy : g ((s.tile t).onBank (bankOf (s.tile t).pc) fun b => { b with last := s.now }) = y at hx hgx
  have e : (((s.onTile t fun x => x.onBank (bankOf (s.tile t).pc) fun b => { b with last := s.now }).onTile t g).vcNext t).tile t =
      { y with pc := (s.tile t).pc + 8, ord := (s.tile t).ord + 1 } := by
    rw [State.vcNext, State.tile_vcRetire]
    simp only [State.tile_onTile_same, hy]
    rw [hgx]
    simp only [Tile.onBank]
    congr 1
    exact Nat.mod_eq_of_lt (by omega)
  have fr := ((s.onTile t fun x => x.onBank (bankOf (s.tile t).pc) fun b => { b with last := s.now }).onTile t g).vcRetire_frame t
    ((((s.onTile t fun x => x.onBank (bankOf (s.tile t).pc) fun b => { b with last := s.now }).onTile t g).tile t).pc + 8)
  refine ⟨?_, ?_, ?_, ?_, ?_, ?_, ?_, ?_, ?_, ?_, ?_, ?_, ?_, ?_, ?_⟩
  · intro i; rw [e]; exact hx.1 i
  · intro i; rw [e]; exact hx.2.1 i
  · intro i; rw [e]; exact hx.2.2.1 i
  · intro i; rw [e]; exact hx.2.2.2.1 i
  · rw [e]; exact hx.2.2.2.2
  · rw [e, hpc]
  · rw [e, hvc, hgx]; exact h1
  · intro b
    have eb : ({ y with pc := (s.tile t).pc + 8, ord := (s.tile t).ord + 1 } : Tile).bank b =
        ((s.tile t).onBank (bankOf (s.tile t).pc) fun k => { k with last := s.now }).bank b := by rw [hgx]; rfl
    rw [e, eb]
    by_cases hb : b = bankOf (s.tile t).pc
    · rw [hb, Tile.bank_onBank_same]
    · rw [Tile.bank_onBank_ne _ _ hb]
  · rw [e, hgx]; rfl
  · exact fun t' ht => (fr.2.1 t' ht).trans (((OtherTiles.refl t s).onTile _).onTile _ t' ht)
  · intro k; rw [hmem]; rfl
  · exact fr.2.2.2
  · rw [hcnt]; simp
  · rw [hcnt]; exact fr.2.2.1
  · exact fr.1

end Sys2Proof.Machine
end

