-- ==== Sys2Proof/Tests/Slice0.lean ====
section
/-! SUPPORT. The model's own tests: terms that are not well-formed, and for the hypotheses of every statement a state and operands that meet them. -/

namespace Sys2Proof.Tests

set_option Elab.async false

open Sys2Proof Sys2Proof.Machine

/-- The state after reset with fields of the register file set. -/
def sR (l : List (FRef × Nat)) : State := l.foldl (fun s p => s.put p.1 p.2) State.reset

/-! ### Well-formed commands (every check refuses a term) -/

/-- A lattice packet with the given words and bytes. -/
def latP (words : Nat) (data : List Byte) : LatPkt := ⟨false, false, false, 0, 0, 0, words, 0xFFFFFFFF, 0, 0, 0, 0, 0, data, []⟩

/-- A fabric packet with the given operation, words, space, TAG and bytes, from device 1 of the pod to device 0. -/
def fabP (op : BitVec 4) (words : Nat) (space : BitVec 2) (tag : BitVec 16) (data : List Byte) : FabPkt :=
  ⟨op, 0, false, false, false, words, space, 0, 1, 0, 0, 0, 0, 0, 0xFFFFFFFF, 0, 0, 0, 0, tag, 0, 0, 0, data, 6⟩

/-- A stack access of 64 bytes. -/
def stkA (addr : BitVec 48) (write : Bool) (data : List Byte) : StackAcc :=
  { addr := addr, write := write, data := data, be := BitVec.allOnes 64, source := 4, bus := true, owner := 0xFFFFFFFF, ecc := .clean, sa := false, sigH := 0, sigN := 0 }

theorem test_wf_lattice_write : (Instr.latticeWrite (.tile 0) (latP 9 []) .clean .none).wf = false ∧
    (Instr.latticeWrite (.tile 0) (latP 1 [1]) .clean .none).wf = true ∧ (Instr.latticeWrite (.tile 0) (latP 0 []) .clean .none).wf = false := by decide
theorem test_wf_lattice_read : (Instr.latticeRead (.tile 0) (latP 9 []) .clean .none).wf = false ∧ (Instr.latticeRead (.tile 0) (latP 0 []) .clean .none).wf = false := by decide
theorem test_wf_lattice_rdrsp : (Instr.latticeRdrsp 0 (latP 0 (List.replicate 513 0)) .none).wf = false := by decide +kernel
theorem test_wf_part_w : (Instr.partW 0 { latP 1 [] with parts := List.replicate 129 0 } .none).wf = false := by decide +kernel
theorem test_wf_part_f : (Instr.partF 0 { latP 1 [] with parts := List.replicate 129 0 } .none).wf = false := by decide +kernel
theorem test_wf_val : (Instr.val 0 ⟨0, List.replicate 17 0, false, 0, 0, 0⟩ .none).wf = false ∧ (Instr.val 0 ⟨0, [], false, 0, 0, 0⟩ .none).wf = false := by decide
theorem test_wf_stack_access : (Instr.stackAccess (stkA 32 true [])).wf = false := by decide
theorem test_wf_stack_training : (Instr.stackTrainingComplete 0 []).wf = false := by decide
theorem test_wf_data_flit : (Instr.dataFlit 0 ⟨0, 0, 0, 0, 0, true, 0, 0, [fabP 0 9 0 0 []]⟩).wf = false := by decide
theorem test_wf_fabric : (Instr.fabricWrite 0 (fabP 0 9 0 0 [])).wf = false ∧ (Instr.fabricRead 0 (fabP 1 9 0 0 [])).wf = false ∧
    (Instr.fabricSig 0 (fabP 2 9 0 0 [])).wf = false := by decide
theorem test_wf_fabric_answers : (Instr.wack (fabP 3 9 0 0 [])).wf = false ∧ (Instr.wnak (fabP 4 9 0 0 [])).wf = false ∧
    (Instr.fabricRdrsp (fabP 5 9 0 0 [])).wf = false ∧ (Instr.fabricRderr (fabP 6 9 0 0 [])).wf = false := by decide
theorem test_wf_reference_row : (Instr.referenceRowTest 0 0 0 [8, 0, 0, 0]).wf = false ∧ (Instr.referenceRowTest 0 0 0 [7]).wf = false := by decide
theorem test_wf_port_link_up : (Instr.portLinkUp 0 1 3 false).wf = false := by decide
theorem test_wf_register_write : (Instr.registerWrite .portA (2 ^ 26) 4 0).wf = false ∧ (Instr.registerWrite .portA 0 65 0).wf = false ∧
    (Instr.registerWrite .portA 0 1 256).wf = false := by decide
theorem test_wf_doorbells : (Instr.sqTailDoorbell 0 (2 ^ 18) 0).wf = false ∧ (Instr.cqHeadDoorbell 0 (2 ^ 18) 0).wf = false ∧
    (Instr.tqHeadDoorbell 0 (2 ^ 18) 0).wf = false := by decide
theorem test_wf_sq_fetch : (Instr.sqFetch 0 64 true []).wf = false ∧ (Instr.sqFetch 0 0 true (List.replicate 9 0)).wf = false := by decide
theorem test_wf_rails : (Instr.railTelemetry []).wf = false ∧ (Instr.vddCoreTargetUpdate []).wf = false ∧ (Instr.slowRound [] []).wf = false := by decide

/-! ### The vector core -/

/-- Tile 0 with its vector core in RUN at PC 0, bank 0 its own, at tick 1. -/
def vcS : State := { (sR [(R.SPOWN_OWNER_0 0, 1)]).onTile 0 fun x => { x with vc := .run } with now := 1 }

/-- The same with s1 = 4 and one mask with lane 0 alone in m1. -/
def vcS1 : State := vcS.onTile 0 fun x => { x with sr := [(1, 4)], mr := [(1, 1)] }

/-- Operand forms with every field zero. -/
def fS : FmtS := ⟨0, 0, 0, false, 0⟩
def fV : FmtV := ⟨0, 0, 0, 0, 0, false, 0, 0, 0, false, false, 0, 0⟩
def fM : FmtM := ⟨0, 0, 0, 0, false, 0, 0, 0⟩
def fX : FmtX := ⟨0, 0, 0, 0, 0⟩
def fY : FmtY := ⟨0, 0, false, false, 0, 0, 0⟩

/-- The same with the word `w` at its PC. -/
def vcAt (w : BitVec 64) : State := { vcS1 with sp := sputBytes 0 [] 0 (leBytes 8 w.toNat) }

theorem wit_vc_ready : VcReady vcS 0 ∧ VcReady vcS1 0 := by unfold VcReady Awake; decide

/-- Whatever the word at PC, the core is ready and its tile, banks and accesses are those of vcS1. -/
theorem wit_vc_at (w : BitVec 64) : VcReady (vcAt w) 0 ∧ (vcAt w).tile 0 = vcS1.tile 0 ∧ PortsQuiet (vcAt w) 0 ∧
    ∀ a n, VcMay (vcAt w) 0 a n = VcMay vcS1 0 a n :=
  ⟨wit_vc_ready.2, rfl, by show (vcS1.tile 0).wTick ≠ vcS1.now; decide, fun _ _ => rfl⟩

theorem wit_words_s : ∀ p ∈ opcodesS, ∀ f ∈ [fS, { fS with imm := BitVec.allOnes 32 }, { fS with sa := 1 }],
    bviDecode 0 ((vcAt (FmtS.word p.1 f)).vcWord 0) = some (p.2 0 f) := by decide +kernel
theorem wit_words_v : ∀ p ∈ opcodesV, ∀ f ∈ [fV, { fV with msk := 1 }, { fV with fmt := 10 }, { fV with fmt := 8, nma := 7 }, { fV with fmt2 := 10 }],
    bviDecode 0 ((vcAt (FmtV.word p.1 f)).vcWord 0) = some (p.2 0 f) := by decide +kernel
theorem wit_words_m : ∀ p ∈ opcodesM, ∀ f ∈ [fM, { fM with fmt := 6 }, { fM with msk := 1 }, { fM with fmt := 8, nma := 7 }],
    bviDecode 0 ((vcAt (FmtM.word p.1 f)).vcWord 0) = some (p.2 0 f) := by decide +kernel
theorem wit_words_x : ∀ p ∈ opcodesX, ∀ f ∈ [fX, { fX with sc := 1, imm := BitVec.ofNat 36 (8 * 2 ^ 10) }],
    bviDecode 0 ((vcAt (FmtX.word p.1 f)).vcWord 0) = some (p.2 0 f) := by decide +kernel
theorem wit_words_y : ∀ p ∈ opcodesY, ∀ f ∈ [fY, { fY with q := 5 }, { fY with q := 4 }],
    bviDecode 0 ((vcAt (FmtY.word p.1 f)).vcWord 0) = some (p.2 0 f) := by decide +kernel
theorem wit_fetched : Fetched (.add 0 fS) 0 (vcAt (FmtS.word 1 fS)) ∧ Fetched (.illegalOpcode 0 0xFF) 0 (vcAt 0xFF) := by
  show bviDecode 0 _ = some _ ∧ _ = _ ∧ bviDecode 0 _ = none
  decide +kernel
theorem wit_not_fetched : ¬ Fetched (.add 0 fS) 0 (vcAt 0) := by
  show ¬ bviDecode 0 _ = some _
  decide +kernel

/-- Words written out from Table 4-2: MOVI s3, 0x12345678, and JR s2. -/
theorem test_word_movi : bviDecode 0 0x123456780000030C = some (.movi 0 { fS with sd := 3, imm := 0x12345678 }) := by decide +kernel
theorem test_word_jr : bviDecode 0 0x4017 = some (.jr 0 { fS with sa := 2 }) := by decide +kernel
theorem wit_branch_taken : (vcS.tile 0).s fS.sa = (vcS.tile 0).s fS.sb ∧ 0 ≤ ((vcS.tile 0).pc : Int) + fS.imm.toInt * 8 := by decide
theorem wit_branch_below_zero : ((vcS.tile 0).pc : Int) + ({ fS with imm := BitVec.allOnes 32 } : FmtS).imm.toInt * 8 < 0 := by decide
theorem wit_branch_not_taken : ¬ (vcS.tile 0).s fS.sa ≠ (vcS.tile 0).s fS.sb := by decide
theorem wit_jr : ((vcS1.tile 0).s 0).toNat % 8 = 0 ∧ ((vcS1.tile 0).s 1).toNat % 8 ≠ 0 := by decide

/-- The vector core at the first address past 21 bits. -/
def vcFar : State := vcS.onTile 0 fun x => { x with pc := 2 ^ 21 }

theorem wit_fetch_beyond : coreOf (.nop 0 fS) = some 0 ∧ (vcFar.tile 0).vc = .run ∧ (vcFar.tile 0).clkOff = false ∧ 2 ^ 21 ≤ (vcFar.tile 0).pc := by decide
theorem wit_not_running : coreOf (.nop 0 fS) = some 0 ∧ (State.reset.tile 0).vc ≠ .run := by decide

/-- Its bank owned by no core; and in retention; and waking. -/
def vcOther : State := State.reset.onTile 0 fun x => { x with vc := .run }
def vcRet : State := vcS.onTile 0 fun x => x.onBank 0 fun b => { b with pst := .ret }

theorem wit_fetch_owner : (vcOther.tile 0).vc = .run ∧ (vcOther.tile 0).clkOff = false ∧ (vcOther.tile 0).pc < 2 ^ 21 ∧
    vcOther.owner 0 (bankOf (vcOther.tile 0).pc) ≠ 1 ∧ vcOther.get (R.SPERR_VALID 0) ≠ 1 := by decide
theorem wit_fetch_asleep : (vcRet.tile 0).vc = .run ∧ (vcRet.tile 0).clkOff = false ∧ (vcRet.tile 0).pc < 2 ^ 21 ∧
    vcRet.owner 0 (bankOf (vcRet.tile 0).pc) = 1 ∧ ¬ Awake vcRet 0 (bankOf (vcRet.tile 0).pc) ∧
    ((vcRet.tile 0).bank (bankOf (vcRet.tile 0).pc)).pst = .ret := by unfold Awake; decide

theorem wit_scalar_access : (scalarAddr (vcS.tile 0) fS).toNat % 8 = 0 ∧ VcMay vcS 0 (scalarAddr (vcS.tile 0) fS).toNat 8 ∧ PortsQuiet vcS 0 := by
  unfold VcMay Awake PortsQuiet; decide
theorem wit_vector_access : ¬ (fM.fmt = 8 ∧ fM.nma = 7) ∧ (FmtM.addr fM (vcS.tile 0)).toNat % 128 = 0 ∧ VcMay vcS 0 (FmtM.addr fM (vcS.tile 0)).toNat 128 := by
  unfold VcMay Awake; decide

/-- A block format. -/
def fMx : FmtM := { fM with fmt := 6 }

theorem wit_xtag_access : isBlockFmt fMx.fmt.toNat = true ∧ ¬ (fMx.fmt = 8 ∧ fMx.nma = 7) ∧
    VcMay vcS 0 (FmtM.addr fMx (vcS.tile 0)).toNat (blockCount fMx.fmt.toNat (fMx.nma.toNat + 2)) := by unfold VcMay Awake; decide

theorem wit_gather_lanes : ∀ i, (decide (i < 32) && ((vcS1.tile 0).m 1).getLsbD i) = true →
    VcMay vcS1 0 ((vcS1.tile 0).s 0 + fM.imm.signExtend 64 + BitVec.ofNat 64 (elemCode ((vcS1.tile 0).v fM.vb) 0 0 i * (elemBits 0 2 / 8))).toNat (elemBits 0 2 / 8) := by
  have h : ∀ i, i < 32 → ((vcS1.tile 0).m 1).getLsbD i = true → VcMay vcS1 0
      ((vcS1.tile 0).s 0 + fM.imm.signExtend 64 + BitVec.ofNat 64 (elemCode ((vcS1.tile 0).v fM.vb) 0 0 i * (elemBits 0 2 / 8))).toNat (elemBits 0 2 / 8) := by
    unfold VcMay Awake; decide +kernel
  intro i hi
  simp only [Bool.and_eq_true, decide_eq_true_eq] at hi
  exact h i hi.1 hi.2

theorem wit_vector_formats : badFmt fV.fmt fV.nma = false ∧ badFmt fV.fmt2 fV.nmb = false ∧ fV.fmt.toNat ≤ 5 := by decide
theorem wit_masked_element : 1 < elemCount ({ fV with msk := 1 } : FmtV).fmt.toNat 2 ∧ ((vcS1.tile 0).m 1).getLsbD 1 = false := by decide +kernel
theorem wit_malformed : 10 ≤ ({ fV with fmt := 10 } : FmtV).fmt.toNat ∧ (let f : FmtV := { fV with fmt := 8, nma := 7 }; f.fmt = 8 ∧ f.nma = 7) ∧ 10 ≤ ({ fV with fmt2 := 10 } : FmtV).fmt2.toNat ∧ 6 ≤ fMx.fmt.toNat ∧ isBlockFmt fM.fmt.toNat = false := by decide

/-- A register above 29 apart, the forms of the unit instructions that pass every check. -/
def fXa : FmtX := { fX with sc := 1, imm := BitVec.ofNat 36 (8 * 2 ^ 10) }

theorem wit_rqu_qv : fX.sb.toNat ≤ 29 ∧ ∀ a ∈ [((vcS1.tile 0).s fX.sa).toNat, FmtX.area fX (vcS1.tile 0) 0, FmtX.area fX (vcS1.tile 0) 1,
    FmtX.area fX (vcS1.tile 0) 2, ((vcS1.tile 0).s fX.sc).toNat], a < 2 ^ 21 := by decide
theorem wit_arr_mvm : fXa.sb.toNat ≤ 29 ∧ (vcS1.tile 0).s fXa.sc ≠ 0 ∧ FmtX.fld fXa 28 7 + ((vcS1.tile 0).s fXa.sd).toNat % 128 ≤ 127 ∧
    (FmtX.fld fXa 38 4 = 8 ∨ FmtX.fld fXa 38 4 = 9) ∧ FmtX.fld fXa 42 3 ≠ 7 := by decide
theorem wit_eba_open : FmtX.fld fX 28 5 + (FmtX.fld fX 33 5 + 1) ≤ 32 ∧ ((vcS1.tile 0).s fX.sb).toNat % 64 = 0 := by decide
theorem wit_tu_mma : FmtX.fld fX 41 1 = 1 ∨ ((vcS1.tile 0).s fX.sc).toNat < 2 ^ 21 := by decide
theorem wit_unit_checks : 29 < ({ fX with sb := 30 } : FmtX).sb.toNat ∧ (vcS1.tile 0).s fX.sc = 0 ∧
    127 < FmtX.fld { fX with imm := 127 } 28 7 + ((vcS1.tile 0).s 1).toNat % 128 ∧ FmtX.fld fX 38 4 = 0 ∧
    FmtX.fld { fX with imm := BitVec.ofNat 36 (7 * 2 ^ 14) } 42 3 = 7 ∧ 32 < FmtX.fld { fX with imm := 63 } 28 5 + (FmtX.fld { fX with imm := 63 } 33 5 + 1) := by
  decide
/-- The core with s1 at 2 MiB, s2 at 2 MiB less 1 and s3 at 1. -/
def vcS2 : State := vcS1.onTile 0 fun x => { x with sr := [(1, 0x200000), (2, 0x1FFFFF), (3, 1)] }
theorem wit_unit_addr : VcReady vcS2 0 ∧ 2 ^ 21 ≤ ((vcS2.tile 0).s 1).toNat ∧ ((vcS2.tile 0).s 2).toNat < 2 ^ 21 ∧ ((vcS2.tile 0).s 3).toNat % 64 ≠ 0 := by
  unfold VcReady Awake; decide +kernel
theorem wit_sp_own : (({ fY with immn := 0x57 } : FmtY).immn.toNat / 16 % 8 < 6) ∧ 6 ≤ ({ fY with immn := 0x60 } : FmtY).immn.toNat / 16 % 8 := by decide
theorem wit_sync_q : fY.q.toNat < 4 ∧ 4 < ({ fY with q := 5 } : FmtY).q.toNat ∧ ({ fY with q := 4 } : FmtY).q = 4 := by decide

/-! ### Tiles -/

/-- Tile 0 changed, at tick 5,000, over fields of the register file. -/
def tS (l : List (FRef × Nat)) (f : Tile → Tile) : State := { (sR l).onTile 0 f with now := 5000 }

/-- An entry of a queue. -/
def qe (op : QOp) : QEntry := ⟨0, 0, op⟩

theorem wit_issue_stall : let s := tS [] fun x => { x with vc := .issueStall, stall := some (.queue 3 (qe (.signal 0 1))) }
    (s.tile 0).vc = .issueStall ∧ (s.tile 0).stall = some (.queue 3 (qe (.signal 0 1))) ∧ (s.tile 0).awake = true ∧
      ((s.tile 0).queue 3).ents.length < queueDepth 3 := by decide
theorem wit_queue_head : let s := tS [] fun x => { x with qSync := ⟨[qe (.wait 0 1)], .free⟩ }
    ((s.tile 0).queue 3).ents = qe (.wait 0 1) :: [] ∧ (s.tile 0).awake = true ∧ (s.tile 0).clear 3 = true := by decide
theorem wit_queue_ops : (qe (.signal 0 1)).op = .signal 0 1 ∧ (qe (.reset 0 1)).op = .reset 0 1 ∧ (qe (.acquire 0 1)).op = .acquire 0 1 ∧
    (qe (.spOwn 7 5)).op = .spOwn 7 5 := by decide
theorem wit_qstall : let s := tS [(R.QSTALL_LIM_LIMIT 0, 1)] fun x => { x with qSync := ⟨[qe (.wait 0 1)], .waiting 0 false none⟩ }
    ((s.tile 0).queue 3).head = .waiting 0 false none ∧ s.get (R.QSTALL_LIM_LIMIT 0) * 940 < s.now - 0 := by decide
theorem wit_vc_start : Passes .firmware (tileOff 0 4) (tS [] id) ∧ ((tS [] id).tile 0).fenced = false ∧ ((tS [] id).tile 0).pstate = 0 ∧
    ((tS [] id).tile 0).vc = .halt := by unfold Passes; decide
theorem wit_vc_restart : ((tS [] fun x => { x with vc := .fault }).tile 0).vc = .fault := by decide
theorem wit_spown_reserved : 6 ≤ (0x60000000 : BitVec 32).toNat / 16 ^ 7 % 8 ∧ (tS [] id).owner 0 7 ≠ 0 := by decide
theorem wit_spown_write : Passes .firmware (tileOff 0 0x10) (tS [] id) ∧ ∀ b, b < 8 → (0x55555555 : BitVec 32).toNat / 16 ^ b % 8 ≤ 5 := by
  unfold Passes; decide
theorem wit_own_change : let s := tS [] fun x => x.onBank 7 fun b => { b with chg := [⟨0, 0, 5⟩] }
    ((s.tile 0).bank 7).chg = [] ++ [⟨0, 0, 5⟩] ∧ (∀ d ∈ [(⟨0, 0, 5⟩ : OwnChg)], d.time < s.now) ∧ (⟨0, 0, 5⟩ : OwnChg).owner < 8 := by decide
theorem wit_own_at_once : let s := tS [] fun x => x.onBank 7 fun b => { b with chg := [⟨5000, 0, 5⟩] }
    ∀ d ∈ ((s.tile 0).bank 7).chg, s.now ≤ d.time := by decide
theorem wit_own_waiter : ((tS [] fun x => { x with inwait := some (.own 7) }).tile 0).inwait = some (.own 7) ∧
    ((tS [] id).tile 0).pstate = 0 := by decide
theorem wit_spret : Passes .firmware (tileOff 0 0x14) (tS [] id) ∧ ((tS [] id).tile 0).pstate ≠ 2 := by unfold Passes; decide
theorem wit_bank_entering : (((tS [] fun x => x.onBank 7 fun b => { b with pst := .entering }).tile 0).bank 7).pst = .entering := by decide
theorem wit_bank_waking : let s := tS [] fun x => { x.onBank 7 (fun b => { b with pst := .waking, wakeAt := 5000 }) with vc := .issueStall, stall := some (.bank 7) }
    ((s.tile 0).bank 7).pst = .waking ∧ ((s.tile 0).bank 7).wakeAt ≤ s.now ∧ (s.tile 0).vc = .issueStall ∧ (s.tile 0).stall = some (.bank 7) := by decide
theorem wit_bank_idle : let s := tS [(R.SPRET_RET 0, 128)] id
    ((s.tile 0).bank 7).pst = .on ∧ (s.get (R.SPRET_RET 0)).testBit 7 = true ∧ ((s.tile 0).bank 7).last + 1024 ≤ s.now := by decide
theorem wit_release_queue : let s := tS [] fun x => { x with qSync := ⟨[qe (.wait 0 1)], .waiting 0 false (some 4872)⟩ }
    (s.tile 0).fenced = false ∧ ((s.tile 0).queue 3).head = .waiting 0 false (some 4872) ∧ ((s.tile 0).queue 3).ents = [qe (.wait 0 1)] ∧
      4872 + 128 ≤ s.now := by decide
theorem wit_release_inline : let s := tS [] fun x => { x with vc := .wait, inwait := some (.obj true 0 1 (some 4872)) }
    (s.tile 0).inwait = some (.obj true 0 1 (some 4872)) ∧ (s.tile 0).vc = .wait ∧ (s.tile 0).pstate = 0 ∧ 4872 + 128 ≤ s.now := by decide
/-- No message on its way: the turn of any has come, whatever unit sent it. -/
theorem wit_tan_turn (o : Out) : TanTurn o (tS [] id) [] := ⟨none, rfl⟩
/-- The turn of a message on its way; and one behind another of its stop, destination and class, whose turn has not come. -/
def tanA : Out := .release (.tile 0 3)
def tanFly (o : Out) : TanFly := ⟨⟨.sector 0, 11⟩, ⟨.sector 0, 0⟩, 0, o, [], 0⟩
theorem wit_tan_first : TanTurn tanA { tS [] id with tan := [tanFly tanA, tanFly (.refuse (.tile 0 3))] } [tanFly (.refuse (.tile 0 3))] :=
  ⟨some (tanFly tanA), rfl⟩
theorem wit_tan_waits : State.tanTake { tS [] id with tan := [tanFly (.refuse (.tile 0 3)), tanFly tanA] } tanA = none := by decide +kernel
theorem wit_sound : Sound .none ∧ Sound (.corrected 0) := by constructor <;> simp [Sound]
theorem wit_tile_park : let s := tS [(R.LEND_CTL_THR_US, 5), (R.LEND_CTL_EN, 1)] fun x =>
      { x with vc := .wait, inwait := some (.obj true 0 1 none), parked := some 300 }
    (s.tile 0).parked = some 300 ∧ (s.tile 0).isParked = true ∧ (s.tile 0).pstate = 0 ∧ (s.tile 0).fenced = false ∧
      300 + s.get R.LEND_CTL_THR_US * 940 ≤ s.now ∧ s.get R.LEND_CTL_EN = 1 ∧ s.get R.LAT_STAT_MODE = 0 := by decide
theorem wit_reclaim : ((tS [] fun x => { x with reclaim := some 0 }).tile 0).reclaim = some 0 := by decide

/-! ### Arrays, RQU, EBA, tensor unit -/

/-- Every bank of tile 0 owned by unit `o`. -/
def owned (o : Nat) : List (FRef × Nat) := (List.range 8).map fun b => (spownF 0 b, o)

/-- An ARR.MVM of array 63 alone. -/
def mvm : QEntry := qe (.arrMvm 0 64 0 128 (2 ^ 63) 0 false 0 8 0 0 0 0)

/-- Tile 0 ready to load it. -/
def mvmS : State := tS ((R.ASEQ_CTL_ENABLE 0, 1) :: (R.ARRCFG_PCODE0 0 63, 0) :: owned 5) fun x => { x with qArr := ⟨[mvm], .free⟩ }

theorem wit_array_load : (mvmS.tile 0).qArr = ⟨[mvm], .free⟩ ∧ (mvmS.tile 0).awake = true ∧ mvmS.get (R.ASEQ_CTL_ENABLE 0) = 1 ∧
    mvmS.gateOpen 0 = true ∧ (mvmS.tile 0).unquantised 0 0 = false ∧ maskArrays (2 ^ 63) ≠ [] ∧
    ∀ a ∈ maskArrays (2 ^ 63), ((mvmS.tile 0).ctl a.val).accepts = true ∧ mvmS.testDue 0 a = false ∧ mvmS.slotFirst 0 a = false ∧
      mvmS.planeOut 0 a (mvmS.physPlane 0 a false) = false := by decide +kernel
/-- Tile 0 where it stays: not enabled; the gate closed; and on a block left unquantised. -/
theorem wit_array_load_stays : (tS [(R.ASEQ_CTL_ENABLE 0, 0)] id).get (R.ASEQ_CTL_ENABLE 0) = 0 ∧
    ((tS [] fun x => { x with energy := [(5000, 10 ^ 9)] }).gateOpen 0 = false) ∧
    (((tS [] fun x => { x with unq := [(0, 0)] }).tile 0).unquantised 0 0 = true) := by decide +kernel
theorem wit_array_load_reads : let q := qrec (mvmS.spBytes 0 0 16)
    UnitMay mvmS 0 5 0 16 ∧ UnitMay mvmS 0 5 (64 + 0 * 16 * q.n) (16 * q.n) ∧ UnitMay mvmS 0 5 (0 + 0) 1 ∧
      UnitMay mvmS 0 5 (128 + 0 * 2 * ocapN q.ocap) (2 * ocapN q.ocap) := by unfold UnitMay Awake; decide +kernel

/-- An operation with one row group left; and one with none. -/
def arrOp (plan : List Grp) : ArrOp :=
  { id := 0, test := none, dcol := 0, e8 := 0, plane := false, wcode := 0, reduced := false, rerun := false, chk := false, tol := 0,
    spares := List.replicate 8 none, plan := plan, tail := 0, gtrim := 0, otrim := [], orig := none, half := none,
    lim := List.replicate 524 false, narrow := List.replicate 524 0, m := 0, parts := 0, pLast := none, vecOut := false, wide := List.replicate 524 0 }
/-- Its last group. -/
def grp1 : Grp := ⟨[0], 0, false, true, 0, false⟩

theorem wit_conversion : let s := tS [] fun x => x.onCtl 63 fun c => { c with st := .conv, op := some (arrOp [grp1]) }
    (s.tile 0).clkOff = false ∧ ((s.tile 0).ctl 63).op = some (arrOp [grp1]) ∧ (arrOp [grp1]).plan = grp1 :: [] ∧ (arrOp [grp1]).orig = none ∧
      ((s.tile 0).ctl 63).st = .conv := by decide +kernel
theorem wit_drain : let s := tS [] fun x => x.onCtl 63 fun c => { c with st := .drain, op := some (arrOp []) }
    (s.tile 0).clkOff = false ∧ ((s.tile 0).ctl 63).op = some (arrOp []) ∧ ((s.tile 0).ctl 63).draining (arrOp []) = true ∧ (arrOp []).test = none ∧ ((s.tile 0).ctl 63).edge = none := by decide +kernel
/-- A reference-row test on a written plane, and on an EMPTY one. -/
theorem wit_reference_test : let s := tS [(R.ASEQ_CTL_ENABLE 0, 1), (R.ARRCFG_PCODE0 0 63, 0)] id
    (s.tile 0).awake = true ∧ s.get (R.ASEQ_CTL_ENABLE 0) = 1 ∧ ((s.tile 0).ctl 63).st = .idle ∧ ((s.tile 0).ctl 63).op = none ∧
      ((s.tile 0).ctl 63).due = [] ∧ s.planeOut 0 63 false = false ∧ s.planeOut 0 63 true = true := by decide +kernel

/-- An RQU.QV of one block of FP32 elements. -/
def qv : QEntry := qe (.rquQv 0 4096 8192 12288 16384 512 1)
/-- Tile 0 before it, and with the RQU at block `b`. -/
def qvS : State := tS (owned 5) fun x => { x with qArr := ⟨[qv], .free⟩ }
def qvRun (b : Nat) : State := tS (owned 5) fun x => { x with qArr := ⟨[], .busy qv⟩, rqu := some ⟨qv, qrec (List.replicate 16 0), b⟩ }

theorem wit_rqu_start : (qvS.tile 0).awake = true ∧ (qvS.tile 0).qArr = ⟨[qv], .free⟩ ∧ (qvS.tile 0).rqu = none ∧ UnitMay qvS 0 5 0 16 ∧
    (512 % 64 = 0 ∧ 512 + 512 * (1 - 1) < 2 ^ 21) := by unfold UnitMay Awake; decide +kernel
theorem wit_rqu_block : let s := qvRun 0
    let r : RquRun := ⟨qv, qrec (List.replicate 16 0), 0⟩
    let z := srcBits r.qr.srcFmt
    (s.tile 0).rqu = some r ∧ r.e = qv ∧ (s.tile 0).clkOff = false ∧ r.blk < 1 ∧ r.qr.srcFmt ≤ 5 ∧ r.qr.efb ≠ 2 ∧ r.qr.rot = false ∧ s.gateOpen 0 = true ∧ PortsQuiet s 0 ∧
      (∀ v ∈ srcElems r.qr.srcFmt (s.spBytes 0 (16384 + r.blk * 16 * z) (16 * z)) [], v.isFin = true) := by unfold PortsQuiet; decide +kernel
theorem wit_rqu_block_places : let s := qvRun 0
    let q := qrec (List.replicate 16 0)
    UnitMay s 0 5 16384 (16 * srcBits q.srcFmt) ∧ UnitMay s 0 5 4096 (16 * q.n) ∧ UnitMay s 0 5 8192 1 ∧
      (ocapN q.ocap ≠ 0 → UnitMay s 0 5 12288 (2 * ocapN q.ocap)) := by unfold UnitMay Awake; decide +kernel
/-- A block of zeros rotates to finite elements; and the gate closed before a block. -/
theorem wit_rqu_rotated : ∀ w ∈ rotate (List.replicate 128 FVal.zero) 1, w.isFin = true := by decide +kernel
theorem wit_rqu_gate : let s := { (qvRun 0).onTile 0 (fun x => { x with energy := [(5000, 10 ^ 9)] }) with now := 5000 }
    s.gateOpen 0 = false ∧ (s.tile 0).clkOff = false ∧ (s.tile 0).rqu = some ⟨qv, qrec (List.replicate 16 0), 0⟩ := by decide +kernel
theorem wit_rqu_complete : ((qvRun 1).tile 0).rqu = some ⟨qv, qrec (List.replicate 16 0), 1⟩ ∧ 1 ≤ (⟨qv, qrec (List.replicate 16 0), 1⟩ : RquRun).blk := by decide +kernel

/-- An EBA.OPEN of block 31. -/
def eo : QEntry := qe (.ebaOpen 0 4096 8192 0 31 1 1 1 false)

theorem wit_eba_open_step : let s := tS (owned 5) fun x => { x with qArr := ⟨[eo], .free⟩ }
    (s.tile 0).qArr = ⟨[eo], .free⟩ ∧ (s.tile 0).awake = true ∧ (∀ i, i < 1 → ((s.tile 0).blk (31 + i)).opn = false) ∧
      UnitMay s 0 5 0 16 ∧ UnitMay s 0 5 (0 + 16) (256 * 1) ∧ UnitMay s 0 5 8192 1 := by unfold UnitMay Awake; decide +kernel

/-- A block that is OPEN, and a partial of array 63 for blocks 28 to 31. -/
def openBlk (count : Nat) : Blk := ⟨true, 0, count, 0, [], [], [], 0⟩
def partS (e8 : Nat) : State := tS [] fun x =>
  { [28, 29, 30, 31].foldl (fun x k => x.onBlk k fun _ => openBlk 1) (x.onCtl 63 fun c => { c with edge := some ⟨0, 0, e8, List.replicate 512 1⟩ }) with rr := 63 }

theorem wit_eba_partial : let s := partS 127
    (s.tile 0).clkOff = false ∧ (s.tile 0).fenced = false ∧ (s.tile 0).nextSource = some 63 ∧
      ((s.tile 0).ctl 63).edge = some ⟨0, 0, 127, List.replicate 512 1⟩ ∧ (List.replicate 512 (1 : Int)).length = 512 ∧
      (∀ i, i < 4 → s.get (R.EBAFWD 0 (4 * ((63 % 8 + 0) % 8) + i)) = 0 ∧ ((s.tile 0).blk (4 * ((63 % 8 + 0) % 8) + i)).opn = true) ∧
      s.get R.FLT_STAT_REDUND = 0 := by decide +kernel
theorem wit_eba_partial_window : ((partS 127).tile 0).blk 31 = openBlk 1 ∧ (openBlk 1).anchor - 48 ≤ ((127 : Nat) : Int) - 127 ∧
    (1 : Int).natAbs * 2 ^ (((127 : Nat) : Int) - 127 - ((openBlk 1).anchor - 48)).toNat < 2 ^ 80 := by decide +kernel

/-- The writeback of block 31 of accumulation 0. -/
def wb : WbBlk := ⟨0, 31, List.replicate 128 0, false⟩
def acc0 : Accum := ⟨0, 0, 0, 4096, true, 31, 1, some (0, 1), false, []⟩

theorem wit_edge_writeback : let s := tS (owned 4) fun x => { x with wbq := [wb], accs := [acc0] }
    (s.tile 0).clkOff = false ∧ (s.tile 0).fenced = false ∧ (s.tile 0).wbq = [wb] ∧ wb.held = false ∧
      (s.tile 0).accs.find? (fun a => a.id == wb.acc) = some acc0 ∧ acc0.dropped = false ∧ wb.vals.length = 128 ∧ PortsQuiet s 0 ∧
      UnitMay s 0 4 (acc0.out + (wb.ob - acc0.ob) * 128 * 2) (128 * 2) := by unfold PortsQuiet UnitMay Awake; decide +kernel

/-- A TU.MMA of one by one by one in BF16, result FP32, accumulating. -/
def mma : QEntry := qe (.tuMma 0 4096 8192 1 1 1 1 2 0 true false 0 false)

theorem wit_tu_start : let s := tS ((R.TILE_CTL_TU_EN 0, 1) :: owned 2) fun x => { x with qTu := ⟨[mma], .free⟩ }
    (s.tile 0).qTu = ⟨[mma], .free⟩ ∧ (s.tile 0).awake = true ∧ (s.tile 0).tu = none ∧ s.get (R.TILE_CTL_TU_EN 0) = 1 ∧ s.gateOpen 0 = true ∧
      tuClass 1 = some 3 ∧ tuClass 2 = some 3 ∧ tuResultOk 3 0 = true ∧ (∀ r ∈ operandReads 1 0 1 1 ++ operandReads 2 4096 1 1, UnitMay s 0 2 r.1 r.2) ∧
      (∀ i, i < 1 → UnitMay s 0 2 (8192 + i * up64 (1 * resBytes 0)) (1 * resBytes 0)) := by unfold UnitMay Awake; decide +kernel
/-- Operands of two classes; and the gate closed before a product. -/
theorem wit_tu_mixed : tuClass 1 = some 3 ∧ tuClass 5 = some 2 ∧ (3 : Nat) ≠ 2 ∧ (0 : Nat) ≤ 4 := by decide
theorem wit_tu_gate : (tS [] fun x => { x with energy := [(5000, 10 ^ 9)] }).gateOpen 0 = false := by decide +kernel
theorem wit_tu_complete : let r : TuRun := ⟨mma, [(8192, [1, 2, 3, 4])], []⟩
    let s := tS (owned 2) fun x => { x with tu := some r }
    (s.tile 0).awake = true ∧ (s.tile 0).tu = some r ∧ r.parts = [] ∧ PortsQuiet s 0 ∧ ∀ p ∈ r.out, UnitMay s 0 2 p.1 p.2.length := by
  unfold PortsQuiet UnitMay Awake; decide +kernel

/-! ### Lattice, tangent, synchronisation, stacks -/

theorem wit_lattice_write : let s := tS [] id
    (s.tile 0).fenced = false ∧ PortsQuiet s 0 ∧ UnitMay s 0 3 (latSpan (latP 1 (List.replicate 64 1))).1 (latSpan (latP 1 (List.replicate 64 1))).2.length := by
  unfold PortsQuiet UnitMay Awake; decide +kernel
/-- The turn of a packet no earlier one of which is on its way; of one on its way; one behind another of its source, destination and channel waits. -/
def latFly0 (op : Nat) (p : LatPkt) : LatFly := ⟨op, p, .tile 0, latPath (State.reset.nodeSite p.src.toNat) (State.reset.latRouter (.tile 0)), [], false, none⟩
theorem wit_lat_turn : LatTurn 0 (.tile 0) (latP 1 (List.replicate 64 1)) (tS [] id) [] (latFly0 0 (latP 1 (List.replicate 64 1))) ∧
    LatTurn 1 (.tile 0) (latP 8 []) (tS [] id) [] (latFly0 1 (latP 8 [])) := by constructor <;> rfl
theorem wit_lat_first : LatTurn 0 (.tile 0) (latP 1 []) { tS [] id with lat := [latFly0 0 (latP 1 []), latFly0 0 (latP 2 [])] } [latFly0 0 (latP 2 [])] (latFly0 0 (latP 1 [])) := rfl
theorem wit_lat_waits : State.latTake { tS [] id with lat := [latFly0 0 (latP 2 []), latFly0 0 (latP 1 [])] } 0 (.tile 0) (latP 1 []) = none ∧
    State.latTake { tS [] id with lat := [latFly0 1 (latP 2 []), latFly0 1 (latP 1 [])] } 1 (.tile 0) (latP 1 []) = none := by decide +kernel
theorem wit_lattice_read : UnitMay (tS [] id) 0 3 ((latP 8 []).addr.toNat / 64 * 64) (64 * (latP 8 []).words) := by unfold UnitMay Awake; decide +kernel

/-- A VAL message of one byte at the last address. -/
def valM : ValMsg := ⟨0x1FFFFF, [7], true, 0, 1, 0xFFFFFFFF⟩

theorem wit_val : UnitMay (tS [] id) 0 3 valM.addr.toNat valM.data.length := by unfold UnitMay Awake; decide +kernel
/-- A VAL message and an operation at a stop behind another message of their kind wait. -/
theorem wit_val_turn : TanTurn (.val 0 valM) (tS [] id) [] ∧
    State.tanTake { tS [] id with tan := [tanFly (.refuse (.tile 0 3)), tanFly (.val 0 valM)] } (.val 0 valM) = none := ⟨⟨none, rfl⟩, by decide +kernel⟩
/-- The turn of PART packets; room for one in the ejection buffer, and none. -/
def partP : LatPkt := { latP 1 [] with elFirst := 127, parts := [0x7F800000], addr := 31 }
theorem wit_part_turn : LatTurn 4 (.tile 0) partP (tS [] id) [] (latFly0 4 partP) ∧ LatTurn 5 (.tile 0) partP (tS [] id) [] (latFly0 5 partP) := by
  constructor <;> rfl
theorem wit_part_room : let flits (x : Tile) : Nat := ((x.ej.map fun q => flitsOf (4 * q.2.parts.length)).sum) + flitsOf (4 * partP.parts.length)
    flits ((tS [] id).tile 0) ≤ 16 ∧ 16 < flits ((tS [] fun x => { x with ej := List.replicate 16 (true, partP) }).tile 0) := by decide +kernel
theorem wit_part_taken : let s := tS [] fun x => { x with rr := 65, ej := [(true, partP)] }
    (s.tile 0).ej = [(true, partP)] ∧ (s.tile 0).clkOff = false ∧ (s.tile 0).nextSource = some 65 ∧ s.get R.FLT_STAT_REDUND = 0 ∧
      ({ partP with sa := true } : LatPkt).sa = true := by decide +kernel
theorem wit_part : let p : LatPkt := { latP 1 [] with elFirst := 127, parts := [0x7F800000], addr := 31 }
    p.elFirst.toNat + p.parts.length ≤ 128 ∧ ((tS [] fun x => x.onBlk 31 fun _ => openBlk 1).tile 0).blk (p.addr.toNat % 32) = openBlk 1 ∧
      (((tS [] id).tile 0).blk (p.addr.toNat % 32)).opn = false ∧ (f32dec (p.parts.getD 0 0)).isFin = false := by decide
theorem wit_mode_req : let v : BitVec 32 := BitVec.ofNat 32 (1 + 10 * 256)
    Passes .firmware 0x4000 State.reset ∧ v.toNat / 16 % 4 ≠ 3 ∧ 10 ≤ v.toNat / 256 % 65536 ∧ v.toNat / 256 % 65536 ≤ 10000 ∧
      State.reset.standB (srcCode .firmware) 0x4000 = none ∧ State.reset.get R.LAT_STAT_MODE = 0 ∧ State.reset.get R.LAT_STAT_SWITCHING = 0 ∧ v.toNat % 2 = 1 := by unfold Passes; decide
theorem wit_mode_switch : let s := sR [(R.LAT_STAT_SWITCHING, 1), (R.LAT_CTL_MODE_REQ, 1)]
    s.get R.LAT_STAT_SWITCHING ≠ 0 ∧ s.get R.LAT_CTL_MODE_REQ < 2 ∧ s.latQuiet = true ∧ s.latCycle % s.frame = 0 := by decide +kernel
theorem wit_mode_wait : let s := { sR [(R.LAT_STAT_SWITCHING, 1)] with lat := [latFly0 0 (latP 1 [])] }
    s.get R.LAT_STAT_SWITCHING ≠ 0 ∧ s.latQuiet = false := by decide +kernel
theorem wit_quiesce_to : let s := { sR [(R.LAT_CTL_QUIESCE_LIM, 10)] with latSw := some 0, now := 9400 }
    s.latSw = some 0 ∧ 0 + s.get R.LAT_CTL_QUIESCE_LIM * 940 ≤ s.now ∧ s.get R.LAT_STAT_MODE < 2 := by decide
theorem wit_quiesce_early : let s := { sR [(R.LAT_CTL_QUIESCE_LIM, 10)] with latSw := some 0, now := 9399 }
    s.latSw = some 0 ∧ s.now < 0 + s.get R.LAT_CTL_QUIESCE_LIM * 940 := by decide
theorem wit_obj_cmd : Passes .firmware 0x500000 State.reset ∧ State.reset.standB (srcCode .firmware) 0x500000 = none ∧ (BitVec.ofNat 64 (2 ^ 16)).toNat / 2 ^ 16 % 4 = 1 ∧
    (BitVec.ofNat 64 (2 * 2 ^ 16 + 2 ^ 32)).toNat / 2 ^ 16 % 4 = 2 ∧ 0 < (BitVec.ofNat 64 (2 * 2 ^ 16 + 2 ^ 32)).toNat / 2 ^ 32 ∧
    (0 : BitVec 64).toNat / 2 ^ 16 % 4 = 0 := by unfold Passes; decide

/-- Object 0 in a mode with a counter, a target and waiters. -/
def objS (mode counter target : Nat) (q : List Waiter) : State := { State.reset with objs := [(0, ⟨counter, 1, mode, target, q⟩)] }
/-- Its handle; and a stale one. -/
def hdl : Handle := BitVec.ofNat 23 (2 ^ 15)

theorem wit_stop_turn : (∀ h n w full err, ∀ c ∈ stopOps h n w full err, TanTurn c.2 (tS [] id) []) ∧
    State.tanTake { tS [] id with tan := [tanFly (.refuse (.tile 0 3)), tanFly (.sig hdl 0 1 none)] } (.sig hdl 0 1 none) = none ∧
    State.tanTake (tS [] id) (.sig hdl 0 1 none) ≠ none := ⟨fun _ _ _ _ _ _ _ => ⟨none, rfl⟩, by decide +kernel, by decide +kernel⟩
theorem wit_stale : ((objS 1 0 0 []).obj ((0 : Handle).toNat % 2 ^ 15)).mode ≠ 0 ∧ ((objS 1 0 0 []).obj ((0 : Handle).toNat % 2 ^ 15)).gen ≠ (0 : Handle).toNat / 2 ^ 15 % 2 ^ 8 := by decide
theorem wit_free_op : ((State.reset).obj ((0 : Handle).toNat % 2 ^ 15)).mode = 0 := by decide
theorem wit_barrier : ObjLive (objS 2 1 2 [⟨.core 0, false, 0⟩]) hdl 2 ∧ 2 ≤ min (1 + (1 : BitVec 32).toNat) (2 ^ 32 - 1) ∧
    min (1 + (0 : BitVec 32).toNat) (2 ^ 32 - 1) < 2 ∧ ((objS 2 1 2 [⟨.core 0, false, 0⟩]).obj 0).q.length < 64 := by unfold ObjLive; decide
theorem wit_counter : ObjLive (objS 1 1 0 [⟨.core 0, false, 5⟩]) hdl 1 ∧ (1 : BitVec 32).toNat ≤ 1 ∧ 1 < (2 : BitVec 32).toNat ∧
    (∀ x ∈ ((objS 1 1 0 [⟨.core 0, false, 5⟩]).obj 0).q, x.acq = false) ∧ ∃ x ∈ ((objS 1 1 0 [⟨.core 0, true, 5⟩]).obj 0).q, x.acq = true := by
  unfold ObjLive; decide
theorem wit_scan : ∃ a w b, ([⟨.core 0, false, 5⟩, ⟨.core 1, true, 5⟩, ⟨.core 2, true, 1⟩] : List Waiter) = a ++ w :: b ∧ (∀ x ∈ a, x.acq = false) ∧
    w.acq = true ∧ 3 < w.thr.toNat := ⟨[⟨.core 0, false, 5⟩], ⟨.core 1, true, 5⟩, [⟨.core 2, true, 1⟩], rfl, by decide, rfl, by decide⟩
theorem wit_host_sig : let h : Handle := BitVec.ofNat 23 (BitVec.ofNat 64 (2 ^ 15 + 2 ^ 32)).toNat
    Passes .firmware 0x500008 (objS 2 0 2 []) ∧ (objS 2 0 2 []).standB (srcCode .firmware) 0x500008 = none ∧ (BitVec.ofNat 64 (2 ^ 15 + 2 ^ 32)).toNat / 2 ^ 24 % 8 = 0 ∧ ObjLive (objS 2 0 2 []) h 2 ∧
      min (0 + (BitVec.ofNat 64 (2 ^ 15 + 2 ^ 32)).toNat / 2 ^ 32) (2 ^ 32 - 1) < 2 ∧ ObjLive (objS 1 0 0 []) h 1 ∧ ((objS 1 0 0 []).obj 0).q = [] ∧
      (BitVec.ofNat 64 (2 ^ 15 + 3 * 2 ^ 24)).toNat / 2 ^ 24 % 8 = 3 := by unfold Passes ObjLive; decide

/-- The stacks READY; and without an address behind 6 GiB. -/
def stkS : State := { sR ((List.range 32).map fun n => (R.MC_STAT_STATE n, 3)) with now := 10000000 }

theorem wit_stack_hole : stackBad (BitVec.ofNat 48 0x180000000).toNat = true := by decide +kernel
theorem wit_stack_write : let x := stkA (BitVec.ofNat 48 (152 * 2 ^ 20)) true (List.replicate 64 1)
    stackBad x.addr.toNat = false ∧ stkS.get (R.MC_STAT_STATE (stackOf x.addr.toNat)) = 3 ∧ x.write = true ∧
      152 * 2 ^ 20 ≤ stackOff x.addr.toNat / 64 * 64 ∧ beHalf x.be 0 = 32 ∧ beHalf x.be 1 = 32 := by decide +kernel
theorem wit_stack_read : let x := stkA 0 false []
    x.write = false ∧ x.ecc = .clean ∧ 0 / 32 ∉ (stkS.sec 0).bad ∧ 0 / 32 + 1 ∉ (stkS.sec 0).bad ∧ 0 / 32 ∉ (stkS.sec 0).soft ∧
      0 / 32 + 1 ∉ (stkS.sec 0).soft ∧ (stkS.sec 0).wTick ≠ stkS.now := by decide +kernel
/-- A write of a cycle in which one of higher rank has been performed; and a controller not READY. -/
theorem wit_stack_rank : let s := stkS.onSec 0 fun c => { c with wTick := 10000000, wrs := [(152 * 2 ^ 20 / 64, 10, 1)] }
    (s.sec 0).wTick = s.now ∧ (s.sec 0).wrs = [(152 * 2 ^ 20 / 64, 10, 1)] ∧ accRank (stkA (BitVec.ofNat 48 (152 * 2 ^ 20)) true []) < 10 := by decide +kernel
theorem wit_stack_held : stackBad 0 = false ∧ State.reset.get (R.MC_STAT_STATE (stackOf 0)) ≠ 3 := by decide +kernel
/-- The scrubber come to the last word of stack 31, a pass begun an hour ago; and one not enabled. -/
theorem wit_patrol : let s := { (stkS.put (R.MC_CTL_SCRUB_EN 31) 1).put (R.MC_CTL_SCRUB_HOURS 31) 1 with now := 3600000000 * 940 }.onSec 31 fun c => { c with scrub := 6 * 2 ^ 30 / 32 - 1 }
    s.get (R.MC_CTL_SCRUB_EN 31) = 1 ∧ s.get (R.MC_STAT_STATE 31) = 3 ∧ (BitVec.ofNat 33 0x17FFFFFE0).toNat / 32 = (s.sec 31).scrub ∧
      (s.sec 31).scrub * (s.get (R.MC_CTL_SCRUB_HOURS 31) * 3600000000 * 940) ≤ (s.now - (s.sec 31).pass) * (6 * 2 ^ 30 / 32) ∧
      (BitVec.ofNat 33 0x17FFFFFE0).toNat / 32 ∉ (s.sec 31).bad ∧ (BitVec.ofNat 33 0x17FFFFFE0).toNat / 32 ∉ (s.sec 31).soft := by decide +kernel
theorem wit_patrol_off : ¬State.reset.get (R.MC_CTL_SCRUB_EN 31) ≠ 0 ∨ State.reset.get (R.MC_STAT_STATE 31) ≠ 3 := by decide +kernel
theorem wit_stack_hot : (85 : Int) < 86 ∧ (86 : Int) < 95 := by decide
theorem wit_stack_cool : let s := stkS.onSec 0 fun c => { c with cool := some 600000 }
    (82 : Int) < 83 ∧ (s.sec 0).cool = some 600000 ∧ 600000 + 9400000 ≤ s.now ∧ s.get (R.MC_CTL_REF2X_FORCE 0) ≠ 1 := by decide
theorem wit_stack_training : let s := sR [(R.MC_STAT_STATE 0, 1)]
    s.get R.STATE_STATE ≠ 2 ∧ (List.replicate 16 (3 : Nat)).length = 16 ∧ s.get (R.MC_STAT_STATE 0) = 1 := by decide
theorem wit_stack_init : let s := sR [(R.MC_STAT_STATE 0, 2)]
    s.get (R.MC_STAT_STATE 0) = 2 ∧ (s.sec 0).held = [] := by decide

/-! ### DMA -/

/-- Channel `c` changed, at tick 5,000,000. -/
def chS (c : Nat) (f : Chan → Chan) : State := { State.reset.onChan c f with now := 5000000 }

theorem wit_chan_room : (chS 0 id).chanRoom 0 = true ∧ ((chS 0 id).chan 0).st = .idle ∧ ((chS 0 id).chan 0).pend = [] ∧
    (chS 0 fun x => { x with st := .run }).chanRoom 0 = true ∧ ((chS 0 fun x => { x with st := .run }).chan 0).st ≠ .idle := by decide
theorem wit_kick : Passes .firmware (chBase 271 + 8) State.reset ∧ State.reset.chanRoom 271 = true ∧ State.reset.standB (srcCode .firmware) (chBase 271 + 8) = none := by unfold Passes; decide
theorem wit_chain_accept : let s := { tS [] fun x => { x with qDma := ⟨[⟨0, 0, .dmaKick 64 7⟩], .free⟩ } with now := 5 }
    (s.tile 0).qDma.ents = [⟨0, 0, .dmaKick 64 7⟩] ∧ 7 = 8 * ((0 : Site).val / 9) + 7 % 8 ∧ (s.tile 0).awake = true ∧ (s.tile 0).clear 2 = true ∧
      s.chanRoom 7 = true := by decide
theorem wit_resume : let s := chS 3 fun x => { x with st := .error }
    Passes .firmware (chBase 3) s ∧ (s.chan 3).st = .error ∧ (s.chan 3).pend = [] := by unfold Passes; decide
theorem wit_flush : ∀ h ∈ ((chS 3 fun x => { x with pend := [⟨64, .reg⟩] }).chan 3).pend, h.fromWho = .reg := by decide
theorem wit_resume_next : let s := chS 3 fun x => { x with st := .error, pend := [⟨64, .reg⟩] }
    (s.chan 3).st = .error ∧ (s.chan 3).pend = ⟨64, .reg⟩ :: [] := by decide
theorem wit_abort : let s := chS 3 fun x => { x with st := .run, chain := some ⟨64, .reg⟩ }
    (s.chan 3).st = .run ∧ ChainOwn s 3 := ⟨by decide, fun h e => by
      have : some h = some (⟨64, .reg⟩ : Chain) := by rw [← e]; rfl
      cases this; exact .inl rfl⟩
theorem wit_rsp_timeout : let s := chS 3 fun x => { x with st := .run, rd := some (64, 0, 0) }
    (s.chan 3).rd = some (64, 0, 0) ∧ 0 + usTicks (s.get R.DMA_CTL_RSP_LIM) ≤ s.now ∧ (s.chan 3).chain = none ∧ (s.chan 3).late = 0 ∧
      (s.chan 3).rd.isSome = true := by decide

/-- Channel 0 fetching at scratchpad address 0; host channel 256 fetching at host address 0. -/
def feS : State := chS 0 fun x => { x with st := .fetch }
def feH : State := chS 256 fun x => { x with st := .fetch, cur := 32 }
/-- A REMOTE descriptor in the scratchpad. -/
def feR : State := { feS with sp := [(16, 0x30)] }

theorem wit_descriptor : (feS.chan 0).st = .fetch ∧ (feS.chan 0).fetching = false ∧ (feS.chan 0).rd = none ∧ feS.descFar 0 = none ∧ (feS.descBytes 0 (.data []) .clean).2 = .bytes (List.replicate 64 0) ∧
    descFormat (chHost 0) (parseDesc (feS.chan 0).cur (List.replicate 64 0)) = true ∧ descAddr (parseDesc (feS.chan 0).cur (List.replicate 64 0)) = true ∧
    feS.descLink (parseDesc (feS.chan 0).cur (List.replicate 64 0)) = true := by decide +kernel
theorem wit_descriptor_far : let s := chS 0 fun x => { x with st := .fetch, cur := BitVec.ofNat 64 (9 * 2 ^ 32) }
    (s.chan 0).st = .fetch ∧ (s.chan 0).fetching = false ∧ (s.chan 0).rd = none ∧ (s.descFar 0).isSome = true ∧ (s.chan 0).chain = none := by decide +kernel
theorem wit_descriptor_format : let bs : List Byte := List.replicate 16 0 ++ [0xFF]
    (feH.chan 256).st = .fetch ∧ (feH.chan 256).fetching = false ∧ (feH.chan 256).rd = none ∧ feH.descFar 256 = none ∧ (feH.descBytes 256 (.data bs) .clean).2 = .bytes bs ∧ descFormat (chHost 256) (parseDesc (feH.chan 256).cur bs) = false := by decide +kernel
theorem wit_descriptor_addr : let bs : List Byte := List.replicate 7 0 ++ [1]
    (feH.descBytes 256 (.data bs) .clean).2 = .bytes bs ∧ descFormat (chHost 256) (parseDesc (feH.chan 256).cur bs) = true ∧
      descAddr (parseDesc (feH.chan 256).cur bs) = false := by decide +kernel
theorem wit_descriptor_link : ∃ bs, (feR.descBytes 0 (.data []) .clean).2 = .bytes bs ∧ descFormat (chHost 0) (parseDesc (feR.chan 0).cur bs) = true ∧
    descAddr (parseDesc (feR.chan 0).cur bs) = true ∧ feR.descLink (parseDesc (feR.chan 0).cur bs) = false :=
  ⟨List.replicate 16 0 ++ [0x30] ++ List.replicate 47 0, by decide +kernel⟩

/-- A descriptor of one line of `len` bytes from tile `a` to tile `b`. -/
def dsc (a b len swap : Nat) : Desc := ⟨0, 0, 64, 0, 0, a, b, swap, len, 1, 0, 0, none, 0, true, 0, 0, 0xFFFFFFFF⟩
/-- Channel 0 running it. -/
def dscS (d : Desc) : State := chS 0 fun x => { x with st := .run, chain := some ⟨64, .reg⟩, desc := some d }

theorem wit_packet : let d := dsc 0 8 16 3
    let s := dscS d
    (s.chan 0).st = .run ∧ (s.chan 0).desc = some d ∧ (s.chan 0).rd = none ∧ (s.chan 0).line = 0 ∧ (s.chan 0).off = 0 ∧ (s.chan 0).buf = [] ∧ s.chHasTurn 0 = true ∧ d.srcSpace = 0 ∧ d.dstSpace = 0 ∧ (d.swap = 1 → d.len % 2 = 0) ∧
      d.swap < 4 ∧ (2 ≤ d.swap → d.len % 4 = 0) ∧ d.dstNode < 256 ∧ 0 < d.len ∧ d.cnt = 1 ∧ d.last = true := by decide
theorem wit_packet_read : let d := dsc 8 0 512 0
    ((dscS d).siteOf d.srcNode).val / 9 ≠ 0 / 8 ∧ d.swap = 0 ∧ ((dscS d).siteOf d.dstNode).val / 9 = 0 / 8 ∧
      ((dscS d).tile ((dscS d).siteOf d.dstNode)).fenced = false ∧ UnitMay (dscS d) ((dscS d).siteOf d.dstNode) 3 (d.dstOf 0) d.len := by
  unfold UnitMay Awake; decide +kernel
/-- A channel behind another of its engine, whose turn it is. -/
theorem wit_packet_turn : let s := (dscS (dsc 0 8 16 0)).onChan 1 fun x => { x with st := .run, desc := some (dsc 0 8 16 0) }
    s.chHasTurn 0 = false ∧ (s.chan 0).st = .run ∧ (s.chan 0).desc = some (dsc 0 8 16 0) ∧ (s.chan 0).rd = none := by decide
theorem wit_packet_val : let d := dsc 0 8 16 3
    let s := dscS d
    (s.siteOf d.srcNode).val / 9 = 0 / 8 ∧ (s.tile (s.siteOf d.srcNode)).fenced = false ∧ UnitMay s (s.siteOf d.srcNode) 3 (d.srcOf 0) d.len ∧
      d.dstOf 0 % 512 + d.len ≤ 512 ∧ (s.chan 0).pend = [] ∧ (s.siteOf d.dstNode).val / 9 ≠ 0 / 8 ∧ d.len ≤ 16 ∧ d.dstOf 0 % 64 + d.len ≤ 64 := by
  unfold UnitMay Awake; decide +kernel
theorem wit_packet_bus : let d := dsc 0 1 64 1
    let s := dscS d
    (s.siteOf d.dstNode).val / 9 = 0 / 8 ∧ (s.tile (s.siteOf d.dstNode)).fenced = false ∧ UnitMay s (s.siteOf d.dstNode) 3 (d.dstOf 0) d.len ∧
      PortsQuiet s (s.siteOf d.dstNode) ∧ (s.chan 0).dropped = false ∧ (0x1000 + 0, (s.chan 0).dseq, 0) ∉ s.lost ∧ (d.swap = 1 → d.len % 2 = 0) := by unfold UnitMay PortsQuiet Awake; decide +kernel
theorem wit_rdrsp : (latP 1 []).err = false ∧ ({ latP 1 [] with err := true } : LatPkt).err = true := by decide
/-- The turn of a response and of a refusal at channel 0, of a descriptor and of data. -/
def rdS (d : Option Desc) : State := chS 0 fun x => { x with st := .run, rd := some (64, 0, 0), desc := d }
theorem wit_rdrsp_turn : ∃ e f, LatTurn 2 ((rdS none).latExit ((rdS none).chNode 0)) (latP 1 []) (rdS none) [] e ∧
    LatTurn 3 ((rdS none).latExit ((rdS none).chNode 0)) (latP 1 []) (rdS none) [] f := ⟨_, _, rfl, rfl⟩
theorem wit_rdrsp_chan : ((rdS none).chan 0).rd = some (64, 0, 0) ∧ ((rdS none).chan 0).late = 0 ∧ ((rdS none).chan 0).desc = none ∧
    ((rdS (some (dsc 0 8 16 0))).chan 0).desc.isSome = true ∧ ((rdS none).chan 0).chain = none ∧
    (let d := parseDesc ((rdS none).chan 0).cur (((List.replicate 64 (0 : Byte)).drop 0).take 64)
     descFormat (chHost 0) d = true ∧ descAddr d = true ∧ (rdS none).descLink d = true) := by decide +kernel

/-! ### Fabric -/

/-- Vertex (v, 0, 0) of a torus of two vertices, bound to the slice of both; links 0 and 48 ACTIVE and in use. -/
def fbS (v : Nat) (l : List (FRef × Nat)) : State :=
  { sR ([(R.LNK_STAT_STATE 0, 6), (R.LNK_STAT_USE 0, 1), (R.LNK_STAT_STATE 48, 6)] ++ l) with
    fab := 0x1000 + v, bind := some ⟨0, 2, 1, 1, 0, 0, 0, 2, 1, 1, 0, 0⟩, fbind := some ⟨0, 2, 1, 1, 0, 0, 0, 2, 1, 1, 0, 0⟩, now := 2000000000 }

/-- A DATA flit numbered `n` of the packets `l`. -/
def flt (n : BitVec 12) (ok : Bool) (l : List FabPkt) : Flit := ⟨0, n, 0, 0, 0, ok, 0, 0, l⟩

theorem wit_link_active : (fbS 0 []).get (R.LNK_STAT_STATE 0) = 6 ∧ (∀ k ∈ dirLinks (linkDir 0), ((fbS 0 []).lnk k).wait = []) ∧ (flt 0 true []).fecUncorr = 0 ∧
    ((fbS 0 []).lnk 0).gap = false ∧ ((fbS 0 []).lnk 0).misAt = none := by decide
theorem wit_flit_order : ((0 : BitVec 12).toNat + 4096 - ((fbS 0 []).lnk 0).rx) % 4096 = 0 ∧ ((fbS 0 []).bundle 0).held = [] ∧
    (fabP 0 1 0 0 []).bseq.toNat = ((fbS 0 []).bundle 0).rx ∧ (fabP 0 1 0 0 []).vc ≠ 3 := by decide
theorem wit_flit_ahead : let a (n : BitVec 12) := (n.toNat + 4096 - ((fbS 0 []).lnk 0).rx) % 4096
    (0 < a 1 ∧ a 1 < 2048) ∧ a 2047 < 2048 ∧ 2048 ≤ a 2048 ∧ 2048 ≤ a 4095 := by decide
theorem wit_flit_spine : (fbS 0 []).get (R.LNK_STAT_STATE 48) = 6 ∧ ({ fabP 0 1 0 0 [] with vc := 3 } : FabPkt).vc = 3 := by decide
/-- A spine packet new to its link, and the copy of one that a failed link has delivered. -/
theorem wit_flit_dups : let here (p : FabPkt) : FabPkt := { p with via := Fin.ofNat 7 (linkDir 48) }
    let p := fabP 0 1 0 0 []
    (48 ≤ (48 : LinkIx).val ∧ here p ∉ ((fbS 0 []).lnk 48).dups ∧ p.vc ≠ 3) ∧
      here p ∈ (((fbS 0 []).onLnk 48 fun x => { x with dups := [here p] }).lnk 48).dups := by decide
/-- The gap asked for already. -/
theorem wit_flit_gap : (((fbS 0 []).onLnk 0 fun x => { x with gap := true }).lnk 0).gap = true := by decide
/-- The acknowledgement of a flit kept for replay, and of none, with 7 and 8 replays without progress. -/
theorem wit_nak : let s := (fbS 0 []).onLnk 0 fun x => { x with replay := [⟨0, 0, 31, [], []⟩], fruitless := 7 }
    s.get (R.LNK_STAT_STATE 0) = 6 ∧ (∀ k ∈ dirLinks (linkDir 0), (s.lnk k).wait = []) ∧ (s.lnk 0).fruitless < 8 ∧
      ((s.lnk 0).replay.any fun e => e.fseq == (0 : BitVec 12).toNat) = true ∧ ((s.lnk 0).replay.any fun e => e.fseq == (1 : BitVec 12).toNat) = false ∧
      8 ≤ (((fbS 0 []).onLnk 0 fun x => { x with fruitless := 8 }).lnk 0).fruitless := by decide

/-- Link 0 in training stage `n`, of a device in READY. -/
def trS (n : Nat) : State := { fbS 0 [(R.STATE_STATE, 3), (R.LNK_STAT_STATE 0, n)] with now := 2000000000 }
/-- The identity the partner of link 0 gives. -/
def pid (vtx : BitVec 12) : PartnerId := ⟨vtx, 0, 8, 0, 0, false, 15, true⟩

theorem wit_training : (trS 1).get R.STATE_STATE ≠ 2 ∧ (pid 1).ok = true ∧ (trS 1).board.laserOff = false ∧ (trS 1).get (R.LNK_STAT_STATE 0) = 1 ∧
    (trS 2).get (R.LNK_STAT_STATE 0) = 2 ∧ (trS 3).get (R.LNK_STAT_STATE 0) = 3 := by decide
theorem wit_training_partner : (trS 4).get (R.LNK_STAT_STATE 0) = 4 ∧ (trS 4).partnerOk 0 (pid 1) = true ∧ (trS 4).partnerOk 0 (pid 2) = false := by decide
theorem wit_training_delay : (trS 5).get (R.LNK_STAT_STATE 0) = 5 ∧ linkSpare 0 = false ∧ ((trS 5).lnk 0).misAt = none ∧
    ((trS 5).lnk 0).takenBy = none ∧ (∀ f ∈ dirLinks (linkDir 0), ((trS 5).lnk f).takenBy ≠ some (0 : LinkIx).val) := by decide
theorem wit_training_limit : let s := (trS 5).onLnk 0 fun x => { x with trainAt := some 0 }
    s.get R.STATE_STATE ≠ 2 ∧ (s.lnk 0).trainAt = some 0 ∧ 1 ≤ s.get (R.LNK_STAT_STATE 0) ∧ s.get (R.LNK_STAT_STATE 0) ≤ 5 ∧ 0 + usTicks 20000 ≤ s.now := by decide
theorem wit_miswired : let s := (trS 8).onLnk 0 fun x => { x with misAt := some (0, 0) }
    (s.lnk 0).misAt = some (0, 0) ∧ s.get (R.LNK_STAT_STATE 0) = 8 ∧ 0 + usTicks 100000 ≤ s.now ∧ s.get (R.LNK_STAT_STATE 0) ≠ 7 ∧
      0 + usTicks 1000000 ≤ s.now := by decide
theorem wit_mgmt : let s := fbS 0 [(R.LNK_STAT_USE 0, 2), (R.LNK_STAT_STATE 1, 6), (R.LNK_STAT_USE 1, 1)]
    s.get (R.LNK_STAT_STATE 0) = 6 ∧ linkDir 1 = linkDir 0 ∧ s.linkWorks 1 = true ∧ s.get (R.LNK_STAT_USE 0) = 2 ∧ (0 : LinkIx).val < 48 := by decide

theorem wit_from_slice : FromSlice (fbS 0 []) (fabP 0 1 0 0 []) := ⟨by decide, by decide, by decide, _, rfl, by decide, by decide, by decide⟩
theorem wit_fabric_write : let s := fbS 0 []
    let p := { fabP 0 1 0 0 [] with ackreq := true }
    p.space = 0 ∧ p.dnode.toNat < 256 ∧ (s.tile (s.siteOf p.dnode.toNat)).fenced = false ∧ lineFits 0 (fabSpan p).1 (fabSpan p).2 = true ∧
      p.ackreq = true ∧ s.routeFrom s.ownVtx p.svtx.toNat = some 0 := by decide
theorem wit_fabric_write_dual : let s := fbS 0 [(R.FLT_STAT_REDUND, 1)]
    let p := fabP 0 1 0 0 []
    FromSlice s p ∧ p.space = 0 ∧ p.dnode.toNat < 256 ∧ (s.tile (s.siteOf p.dnode.toNat)).fenced = false ∧ lineFits 0 (fabSpan p).1 (fabSpan p).2 = true ∧
      p.ackreq = false ∧ s.dual = true ∧ p.dnode.toNat % 2 = 0 :=
  ⟨⟨by decide, by decide, by decide, _, rfl, by decide, by decide, by decide⟩, by decide⟩
theorem wit_one_link : OneLink (fbS 0 []) 0 0 := by unfold OneLink; decide
theorem wit_stale_write : let p := { fabP 0 1 0 0 [] with sliceId := 1 }
    ∀ b, (fbS 0 []).fbind = some b → p.sliceId ≠ b.sliceId ∨ p.bgen ≠ b.bgen ∨ inSlice b p.svtx.toNat = false := fun b e => by
  have : some b = some (⟨0, 2, 1, 1, 0, 0, 0, 2, 1, 1, 0, 0⟩ : Binding) := by rw [← e]; rfl
  cases this; exact .inl (by decide)
theorem wit_fabric_read : let s := fbS 0 [(R.MC_STAT_STATE 0, 3)]
    let p := { fabP 1 1 1 0 [] with addr := 0x4000000 }
    let a := p.addr.toNat / 64 * 64
    p.dpod.toNat = s.ownPod ∧ p.dvtx.toNat = s.ownVtx ∧ p.spod.toNat = s.ownPod ∧ 1 ≤ p.words ∧ p.words ≤ 8 ∧ p.space = 1 ∧ stackBad a = false ∧
      64 * 2 ^ 20 ≤ stackOff a ∧ stackOff a + 64 * p.words ≤ 112 * 2 ^ 20 ∧ s.get (R.MC_STAT_STATE (stackOf a)) = 3 ∧
      (s.sec (stackOf a)).bad = [] ∧ p.words ≤ 2 ∧ (fbS 0 []).get (R.MC_STAT_STATE (stackOf a)) ≠ 3 := by decide
theorem wit_fabric_read_space : (fabP 1 1 0 0 []).space ≠ 1 := by decide
theorem wit_fabric_read_outside : let p := { fabP 1 1 1 0 [] with addr := 0x3FFFFC0 }
    let q := { fabP 1 2 1 0 [] with addr := 0x6FFFFC0 }
    stackOff (p.addr.toNat / 64 * 64) < 64 * 2 ^ 20 ∧ 112 * 2 ^ 20 < stackOff (q.addr.toNat / 64 * 64) + 64 * q.words := by decide
theorem wit_wack : let s := (fbS 0 []).onChan 0 fun x => { x with slots := [(3, dsc 0 8 16 0, some 5)] }
    let p := fabP 3 1 0 0x300 []
    p.dpod.toNat = s.ownPod ∧ p.dvtx.toNat = s.ownVtx ∧ tagChan p.tag = some (0, 3) ∧ (s.chan 0).slots = [(3, dsc 0 8 16 0, some 5)] ∧
      (some 5 : Option Nat).isSome = true := by decide
theorem wit_wnak : let s := (fbS 0 []).onChan 0 fun x => { x with st := .run, chain := some ⟨64, .reg⟩, slots := [(3, dsc 0 8 16 0, some 5)] }
    (s.chan 0).slots = [(3, dsc 0 8 16 0, some 5)] ∧ ChainOwn s 0 := ⟨by decide, fun h e => by
      have : some h = some (⟨64, .reg⟩ : Chain) := by rw [← e]; rfl
      cases this; exact .inl rfl⟩

/-- A beacon of the bound slice with mark `n` at tick `t`. -/
def bcn (n : BitVec 48) (t : BitVec 64) : Beacon := ⟨0, 0, n, t, 0, 0, 0, true⟩

theorem wit_beacon_transmit : (fbS 0 []).get (R.LNK_STAT_STATE 0) = 6 ∧ (0 : LinkIx).val < 48 ∧ ((fbS 0 []).lnk 0).beaconAt + 512 ≤ (fbS 0 []).now ∧
    ((fbS 0 []).lnk 0).wait = [] ∧ ((fbS 0 []).lnk 0).sent.getD 3 0 = 0 ∧ 0 < ((fbS 0 []).lnk 0).credit.getD 3 0 ∧ ((fbS 0 []).lnk 0).replay.length < 128 := by decide
theorem wit_beacon : let s := fbS 1 []
    s.get (R.LNK_STAT_STATE 0) = 6 ∧ s.beaconUsed 0 (bcn 1 5) = true ∧ s.tm.marks.length < 8 ∧ s.tm.offs.length < 15 ∧
      s.tm.lastMark.1 < (bcn 1 5).markN.toNat ∧ s.tm.time < (bcn 1 5).markT.toNat ∧ (bcn 1 0).markT.toNat ≤ s.tm.time ∧ (bcn 1 5).locked = true ∧ ({ bcn 0 0 with locked := false } : Beacon).markN.toNat ≤ s.tm.lastMark.1 ∧ s.ws.switch = none ∧
      s.serve.reqs = [] := by decide
theorem wit_beacon_step : let s0 := fbS 1 []
    let s := { s0 with tm := { s0.tm with offs := List.replicate 15 0 } }
    s.beaconUsed 0 (bcn 0 0) = true ∧ s.tm.offs.length = 15 ∧ s.tm.locked1 = false ∧ (bcn 0 0).markN.toNat ≤ s.tm.lastMark.1 := by decide
theorem wit_holdover : (fbS 1 []).parentDir.isSome = true ∧ (fbS 1 []).tm.lastBeacon + 8192 ≤ (fbS 1 []).now ∧ (fbS 1 []).get R.TC_STAT_STATE ≠ 3 := by decide
theorem wit_step_mark : Passes .portA 0x5028 (fbS 0 []) ∧ (fbS 0 []).standB (srcCode .portA) 0x5028 = none ∧ (fbS 0 []).isIngress = true ∧ Partner.portA ≠ .firmware := by unfold Passes; decide
theorem wit_mark_apply : let s := { fbS 0 [] with tm := { TimeSt.init with marks := [(7, 5)], time := 5 } }
    s.tm.marks = [(7, 5)] ∧ 5 ≤ s.tm.time ∧ 7 < 2 ^ 48 ∧ s.ws.switch = none ∧ s.serve.reqs = [] := by decide

/-! ### Set-up registers -/

theorem wit_cnt_clr : (1 : BitVec 32).toNat % 2 = 1 ∧ Alone .firmware (tileOff 0 0x2018) State.reset ∧ Alone .portA 0x400C State.reset := by
  unfold Alone Passes; decide
theorem wit_register_write : ((regFind 0x200018 regTable).any fun p => p.2 == 0 && p.1.bytes == 4 && p.1.fields.all (fun d => d.rule == .any) &&
    decide (p.1.fields.map fun d => d.lsb).Nodup && p.1.fields.any (fun d => d.acc == .rw)) = true ∧
    State.reset.discards 0x200018 = false ∧ ownWrite 0x200018 = false ∧ aqGroup 0x200018 = none ∧ 0x200018 % 4 = 0 := by decide +kernel
theorem wit_register_write_hook : ∀ s : State, s.regHook .firmware 0x200018 (5 % 2 ^ 32) = s := fun _ => rfl
theorem wit_register_write_alone : Alone .firmware 0x200018 State.reset ∧ Alone .firmware 0x5014 State.reset := by unfold Alone Passes; decide
theorem wit_event_write : ((regFind 0x5014 regTable).any fun p => p.2 == 0 && p.1.bytes == 4 && p.1.fields.all (fun d => d.rule == .any) &&
    decide (p.1.fields.map fun d => d.lsb).Nodup && p.1.fields.any (fun d => d.acc == .w1c)) = true ∧
    State.reset.discards 0x5014 = false ∧ ownWrite 0x5014 = false ∧ aqGroup 0x5014 = none ∧ 0x5014 % 4 = 0 := by decide +kernel
theorem wit_event_write_hook : ∀ s : State, s.regHook .firmware 0x5014 (1 % 2 ^ 32) = s := fun _ => rfl
theorem wit_gate : (0x100000 : Nat) ≤ 0x200018 ∧ State.reset.get R.STATE_STEP < 4 ∧ Partner.portA ≠ .firmware ∧ State.reset.reaches .portA 0x200018 = true ∧ 0x200018 % 4 = 0 := by decide
theorem wit_lock : (sR [(R.SETUP_LOCK_HOLDER, 3)]).get R.SETUP_LOCK_HOLDER ≠ 0 ∧ (sR [(R.SETUP_LOCK_HOLDER, 3)]).get R.SETUP_LOCK_HOLDER ≠ lockCode .portA := by
  decide
/-- Port B in x16 mode reaches nothing; port A is on, its mailbox shows DONE. -/
theorem wit_unreached : State.reset.reaches .portB 0x20 = false := by decide
theorem wit_mailbox : portOf .portA = some 0 ∧ State.reset.portOn 0 = true ∧ 2 / 2 % 2 = 1 := by decide
theorem wit_evt_clear : Alone .firmware (tileOff 0 0x1C) State.reset ∧ Alone .firmware 0x1004010 State.reset ∧ (2 : BitVec 32).toNat / 2 % 2 = 1 ∧
    (1 : BitVec 32).toNat % 2 = 1 ∧ Alone .portA 0x5000 State.reset := by unfold Alone Passes; decide
theorem wit_debug : (sR [(R.SECU_STAT_DEBUG, 1)]).get R.SECU_STAT_DEBUG = 1 ∧ State.reset.get R.SECU_STAT_DEBUG ≠ 1 := by decide

/-! ### Supplies, start-up, power, sensing -/

/-- The board changed. -/
def bdS (f : Board → Board) : State := { State.reset with board := f Board.init, now := 200000000 }

theorem wit_pwr_req : let s := bdS fun b => { b with aonAt := some 0 }
    s.board.aonAt = some 0 ∧ s.board.pwrReq = none ∧ s.board.pgFailed = false ∧ 0 + msTicks 1 ≤ s.now := by decide
theorem wit_rails_pg : let s := bdS fun b => { b with pwrReq := some 199999999 }
    s.board.pwrReq = some 199999999 ∧ s.board.railsPg = none ∧ s.now ≤ 199999999 + msTicks 50 := by decide
theorem wit_rails_pg_timeout : let s := bdS fun b => { b with pwrReq := some 0 }
    s.board.pwrReq = some 0 ∧ s.board.railsPg = none ∧ 0 + msTicks 50 ≤ s.now ∧ s.get R.STATE_STATE ≠ 4 := by decide
theorem wit_por_release : let s := bdS fun b => { b with railsPg := some 0 }
    s.board.railsPg = some 0 ∧ s.board.por = false ∧ 0 + msTicks 1 ≤ s.now ∧ s.get R.STATE_STATE ≠ 4 ∧ s.board.railsPg.isSome = true := by decide
theorem wit_reset : let s := bdS fun b => { b with por := true }
    s.board.por = true ∧ Alone .firmware 0x30 s ∧ (0xA5C3 : BitVec 32).toNat % 2 ^ 16 = 0xA5C3 ∧ (0 : BitVec 32).toNat % 2 ^ 16 ≠ 0xA5C3 := by
  unfold Alone Passes; decide

/-- A state in which start-up steps up to `n` are done. -/
def stS (n : Nat) (l : List (FRef × Nat)) : State := { sR ([(R.STATE_STATE, 2), (R.STATE_STEP, n)] ++ l) with now := 200000000 }
/-- Every stack READY, the devices of a system of one: no link used. -/
def mcReady : List (FRef × Nat) := (List.range 32).map fun n => (R.MC_STAT_STATE n, 3)

theorem wit_step5 : (stS 4 []).get R.STATE_STATE = 2 ∧ (stS 4 []).get R.STATE_STEP = 4 := by decide
/-- At the end of step 7. -/
def st7 : State := stS 7 []
theorem wit_step8 : st7.get R.STATE_STATE = 2 ∧ st7.get R.STATE_STEP = 7 ∧ st7.cfg.remap = [] ∧ (∀ n, n < 32 → sget 0 st7.cfg.spares n ≠ 2) ∧
    st7.homeless = [] := by decide +kernel
theorem wit_step8_wake : ∀ n t0, st7.pw.wake = some (n, t0) → 32 ≤ n := fun n t0 h => by
  have e : st7.pw.wake = none := rfl
  rw [e] at h; cases h
theorem wit_step9 : let s := stS 8 mcReady
    s.get R.STATE_STATE = 2 ∧ s.get R.STATE_STEP = 8 ∧ s.get R.LAT_STAT_SWITCHING = 0 ∧ s.cfg.table = [] ∧ s.cfg.record = none ∧
      s.serve.was = false ∧ (∀ n, n < 32 → s.get (R.MC_STAT_STATE n) = 3) ∧ s.linksEnough = true ∧ s.homeless = [] ∧ s.get R.LAT_CTL_MODE_REQ < 2 := by
  decide +kernel
theorem wit_step_limit : stepLimit ((stS 5 []).get R.STATE_STEP) = some 12000 ∧ (stS 5 []).pw.stepAt + usTicks 12000 ≤ (stS 5 []).now := by decide
theorem wit_clk_fail : let s := stS 5 [(R.PWR_STAT_PLL_LOCK, 1)]
    5 ≤ s.get R.STATE_STEP ∧ s.get R.PWR_STAT_PLL_LOCK ≠ 0 ∧ s.ws.load = none ∧ s.ws.jobs = [] ∧ s.serve.was = false := by decide
theorem wit_core_target : (List.replicate 32 600).length = 32 ∧ 5 ≤ (stS 5 []).get R.STATE_STEP ∧ (stS 5 []).get R.STATE_PSTATE < 3 ∧
    (List.replicate 9 0).length = 9 := by decide
theorem wit_budget : let s := stS 10 []
    100 * s.pw.mw.sum ≤ 102 * (1000 * s.get R.BUDGET_BUDGET_W) ∧ s.pw.overB = false := by decide
theorem wit_budget_frozen : (stS 10 [(R.LEND_CTL_EN, 0)]).lendFrozen = true ∧ (stS 10 [(R.LEND_CTL_EN, 1)]).lendFrozen = false := by decide
theorem wit_budget_over : let s0 := stS 10 [(R.LEND_CTL_EN, 0)]
    let s := { s0 with pw := { s0.pw with mw := [4000000] } }
    102 * (1000 * s.get R.BUDGET_BUDGET_W) < 100 * s.pw.mw.sum ∧ s.lendFrozen = true := by decide
theorem wit_parked : ((tS [] fun x => { x with pstate := 1 }).tile ((tS [] fun x => { x with pstate := 1 }).siteOf 0)).pstate = 1 := by decide

/-- Power management changed. -/
def pwS (n : Nat) (f : Power → Power) : State := { stS n [] with pw := f State.reset.pw }

theorem wit_profile : let s := pwS 10 fun p => { p with changing := some (2, 0) }
    s.pw.changing = some (2, 0) ∧ 2 < 4 ∧ s.pw.cmd = none ∧ s.get R.PWR_STAT_PROFILE ≤ 2 ∧ s.get R.STATE_PSTATE < 2 := by decide
theorem wit_profile_rise : let s := pwS 10 fun p => { p with changing := some (0, 0) }
    s.pw.changing = some (0, 0) ∧ 0 < s.get R.PWR_STAT_PROFILE ∧ s.pw.cmd = none := by decide
theorem wit_sector_wake : let s := pwS 7 fun p => { p with wake := some (31, 0) }
    s.pw.wake = some ((31 : Sector).val, 0) ∧ 0 + usTicks (2 * (31 : Sector).val) ≤ s.now := by decide
theorem wit_p2 : State.reset.tileIdle 0 = true ∧ (State.reset.tile 0).pstate ≠ 2 ∧
    ((tS [] fun x => { x with pstate := 2 }).get R.STATE_PSTATE = 0 ∧ ((tS [] fun x => { x with pstate := 2 }).tile 0).pstate = 2) := by decide +kernel
theorem wit_prog_idle : let s := bdS fun b => { b with progEn := true }
    s.board.progEn = true ∧ (∀ j ∈ s.ws.jobs, j.batch = []) ∧ s.ws.progAt + msTicks 1 ≤ s.now := by decide
theorem wit_droop : sget 0 (stS 10 []).pw.droopAt 0 + usTicks 1 ≤ (stS 10 []).now + 1 ∧ Alone .firmware 0x200020 (stS 10 []) ∧
    40 ≤ (40 : BitVec 32).toNat % 64 ∧ (45 : BitVec 32).toNat % 64 ≤ 45 := by unfold Alone Passes; decide
theorem wit_capture_end : let s := pwS 10 fun p => { p with cap := some 0 }
    s.pw.cap.isSome = true ∧ (List.replicate (s.get R.DROOP_CTL_LEN + 1) (0 : Int)).length = s.get R.DROOP_CTL_LEN + 1 ∧
      (stS 10 [(R.HK_CTL_DMA_EN, 0)]).get R.HK_CTL_DMA_EN = 0 := ⟨rfl, List.length_replicate, by decide⟩
theorem wit_slow_round : let s := stS 10 [(R.HK_CTL_EN, 1)]
    let v : List Int := List.replicate 48 400
    v.length = 48 ∧ s.get R.HK_CTL_EN = 1 ∧ 4 ≤ s.get R.STATE_STEP ∧ (∀ i, i < 40 → v.getD i 0 < 1680 ∧ v.getD i 0 < 16 * s.get R.THERM_CFG_JSTOP) ∧
      (∀ n, n < 32 → 16 * sxNat 8 (s.get (R.MC_STAT_TEMP n)) < 16 * s.get R.THERM_CFG_SSTOP) ∧ 0 < s.get R.THERM_CFG_RSTOP ∧
      s.pw.hist.length < 57 ∧ s.pw.cal = none := by decide
theorem wit_slow_round_warn : ∃ i, i < 40 ∧ 16 * (stS 10 []).get R.THERM_CFG_JWARN ≤ (List.replicate 48 (1679 : Int)).getD i 0 := ⟨0, by decide⟩
theorem wit_slow_round_trip : ∃ i, i < 40 ∧ 1680 ≤ (List.replicate 48 (1680 : Int)).getD i 0 := ⟨0, by decide⟩
theorem wit_warn_clear : let s0 := stS 10 [(R.THERM_STAT_JWARN, 1)]
    let s := { s0 with pw := { s0.pw with calm := some 0 } }
    s.pw.calm = some 0 ∧ s.warned = true ∧ 0 + msTicks 100 ≤ s.now := by decide
theorem wit_stop_lim : let s0 := stS 10 [(R.THERM_CFG_STOP_LIM, 1)]
    let s := { s0 with pw := { s0.pw with stopAt := some 0 } }
    s.pw.stopAt = some 0 ∧ 0 + msTicks (s.get R.THERM_CFG_STOP_LIM) ≤ s.now ∧ s.serve.reqs = [] ∧ s.serve.pfxs = [] ∧ s.ws.load = none ∧ s.ws.jobs = [] ∧
      s.pw.cal = none := by decide

/-- READY, the voltage reference present, every sector at 40 degrees. -/
def calS : State :=
  { sR ([(R.STATE_STATE, 3), (R.STATE_STEP, 10), (R.HK_STAT_VREF_PRESENT, 1)] ++ (List.range 32).map fun n => (R.VAL n, 400)) with now := 200000000 }

theorem wit_cal_go : let v : BitVec 64 := 0x800000001
    Alone .firmware 0x100020 calS ∧ v.toNat / 2 ^ 32 % 8 ≤ 4 ∧ v.toNat / 2 ^ 35 % 2 = 1 ∧ calS.pw.cal = none ∧ calS.pw.stopAt = none ∧
      calS.serve.was = false ∧ (calS.calCheck (v.toNat % 2 ^ 32) (v.toNat / 2 ^ 32 % 8)).1 = 0 ∧ (calS.calCheck 1 1).1 ≠ 0 := by
  unfold Alone Passes; decide +kernel
theorem wit_cal_complete : let s := { calS with pw := { calS.pw with cal := some ⟨0, 1, 0⟩ } }
    s.pw.cal = some ⟨0, 1, 0⟩ ∧ s.serve.was = false ∧ (s.calCheck 1 0).1 = 0 ∧ (calS.calCheck 1 4).1 ≠ 0 := by decide +kernel
theorem wit_load_class : (pwS 10 fun p => { p with pkg := [500000] }).pw.pkg ≠ [] := by decide

/-! ### Host ports, rings and serving -/

/-- A ring command from port A and its SQ 0, at index 0, whose entry has the given fields (first bit, value). -/
def cmd (l : List (Nat × Nat)) : Cmd := ⟨0, 0, 0, BitVec.ofNat 512 (l.map fun x => x.2 * 2 ^ x.1).sum⟩

/-- Port A with SQ 0 and CQ 0, the given entry in flight, started or not. -/
def prt (started : Bool) (e : Entry) : PortSt :=
  { PortSt.init with sqs := [(0, some { Sq.make 0 4 0 0 with head := 1, tail := 1, flight := [(0, e, 1, started)] })], cqs := [(0, some (Cq.make 0 4 1 0 0))] }

theorem in_flight_of (b : Bool) (op : Nat) (e : Entry) (s : State) (hon : s.portOn 0 = true) (hr : s.get (R.AQ_STAT_RDY 0) = 1) (hp : s.port 0 = prt b e)
    (h0 : cf ⟨0, 0, 0, e⟩ 0 8 = op) (h8 : cf ⟨0, 0, 0, e⟩ 8 1 = 0) (h9 : cf ⟨0, 0, 0, e⟩ 9 1 = 0) : InFlight b op ⟨0, 0, 0, e⟩ s := by
  refine ⟨hon, hr, h0, h8, h9, { Sq.make 0 4 0 0 with head := 1, tail := 1, flight := [(0, e, 1, b)] }, Cq.make 0 4 1 0 0, 1, ?_, rfl, rfl, ?_, by decide, rfl⟩
  · show (s.port 0).sq 0 = _; rw [hp]; rfl
  · show (s.port 0).cq 0 = _; rw [hp]; rfl

/-- A device of a slice of one, READY and serving, whose port A has command `l` in flight. -/
def svS (l : List (Nat × Nat)) (rs : List (FRef × Nat)) : State :=
  { sR ([(R.STATE_STATE, 3), (R.SLOT_STATE 0, 3), (R.AQ_STAT_RDY 0, 1), (R.SHAPE_VOCAB, 100), (R.LIMITS_MAXPOS, 1000)] ++ rs) with
    bind := some ⟨0, 1, 1, 1, 0, 0, 0, 1, 1, 1, 0, 0⟩, ports := [(0, prt false (cmd l).e)], now := 20000000000,
    ws := { WStore.init with mans := [(0, some ⟨0, [], 0, [], []⟩)] } }

/-- The same with the command begun. -/
def going (l : List (Nat × Nat)) (s : State) : State := { s with ports := [(0, prt true (cmd l).e)] }

theorem wit_ready : Ready 0x05 (cmd [(0, 5)]) (svS [(0, 5)] []) :=
  in_flight_of _ _ _ _ (by decide +kernel) (by decide +kernel) rfl (by decide +kernel) (by decide +kernel) (by decide +kernel)
theorem wit_started : InFlight true 0x10 (cmd [(0, 0x10)]) (going [(0, 0x10)] (svS [] [])) :=
  in_flight_of _ _ _ _ (by decide +kernel) (by decide +kernel) rfl (by decide +kernel) (by decide +kernel) (by decide +kernel)
theorem wit_serves : (svS [] []).isIngress = true ∧ (svS [] []).serving = true := by decide +kernel

theorem wit_port_up : let s := bdS fun b => { b with por := true }
    s.board.por = true ∧ (4 : Fin 5) ≠ 0 ∧ s.board.x8 = false ∧ s.serve.reqs = [] ∧ (∀ i, i < 16 → (s.chan (256 + i)).st = .idle) := by decide +kernel
theorem wit_setup_lock : let h := State.reset.get R.SETUP_LOCK_HOLDER
    (h = 0 ∧ (1 : BitVec 32).toNat % 4 = lockCode .portA) ∧ ¬((h = 0 ∧ (2 : BitVec 32).toNat % 4 = lockCode .portA) ∨ (h = lockCode .portA ∧ (2 : BitVec 32).toNat % 4 = 0)) := by
  decide
theorem wit_aq_enable : Passes .firmware (0x6014 + 0x100 * (0 : Port).val) State.reset ∧ State.reset.get (R.AQ_STAT_RDY 0) = 0 ∧ (State.reset.port 0).heldW = [] := by
  unfold Passes; decide +kernel

theorem wit_doorbells : let s := svS [] []
    let x := { Sq.make 0 4 0 0 with head := 1, tail := 1, flight := [(0, (cmd []).e, 1, false)] }
    s.portOn 0 = true ∧ s.portOn 1 = false ∧ (s.port 0).sq 0 = some x ∧ (15 : BitVec 32).toNat % 2 ^ 16 < 2 ^ x.log2 ∧ 2 ^ x.log2 ≤ (16 : BitVec 32).toNat % 2 ^ 16 ∧ (s.port 0).sq 1 = none := by decide +kernel
theorem wit_cq_doorbell : let k : Cq := Cq.make 0 4 1 0 0
    let f : Cq := { k with tail := 15, held := [7] }
    k.held = [] ∧ f.held = [7] ∧ f.full = true ∧ ({ f with head := 1 } : Cq).full = false ∧ (1 : BitVec 32).toNat % 2 ^ 16 < 2 ^ f.log2 := by decide +kernel
theorem wit_cq_idle : ((svS [] []).port 1).sq 0 = none ∧ sget none (({ prt false 0 with sqs := [] } : PortSt)).sqs 0 = none := by decide +kernel

/-- SQ 0 with one entry waiting. -/
def sqW : State := { svS [] [] with ports := [(0, { prt false 0 with sqs := [(0, some { Sq.make 0 4 0 0 with tail := 1 })] })] }
theorem wit_sq_fetch : (sqW.port 0).sq 0 = some { Sq.make 0 4 0 0 with tail := 1 } ∧ sqW.get (R.AQ_STAT_RDY 0) = 1 ∧ sqW.portOn 0 = true := by decide +kernel
theorem wit_sq_turn : sqW.fetchTurn 0 = some 0 := by decide +kernel
theorem wit_sq_entries : opcodeKnown (entField (cmd [(0, 7)]).e 0 8) = true := by decide +kernel
theorem wit_coalesce : let k : Cq := { Cq.make 0 4 1 3 10 with since := 1 }
    let s := { svS [] [] with ports := [(0, { prt false 0 with cqs := [(1, some k)] })] }
    s.cqOf 0 false 1 = some k ∧ k.us ≠ 0 ∧ 0 < k.since ∧ k.first + usTicks k.us ≤ s.now ∧
      (let m : PortSt := { prt false 0 with msixEn := true, msixFm := false, vecs := [(4, { Vec.init with masked := false })] }
       m.msixEn = true ∧ (m.msixFm || (sget Vec.init m.vecs 3).masked) = true ∧ (m.msixFm || (sget Vec.init m.vecs 4).masked) = false) := by decide +kernel
theorem wit_create_sq : let c := cmd [(0, 1), (66, 63), (80, 4), (128, 4096)]
    cf c 64 2 = 0 ∧ cf c 66 6 ≠ 0 ∧ (prt false c.e).sq (cf c 66 6) = none ∧ ((prt false c.e).cq (cf c 72 6)).isSome = true ∧ cf c 128 64 % 4096 = 0 ∧ 4 ≤ cf c 80 4 ∧
      cf c 80 4 ≤ 12 := by decide +kernel
theorem wit_create_cq : let c := cmd [(0, 1), (64, 1), (66, 63), (84, 2047), (104, 1000)]
    cf c 64 2 = 1 ∧ cf c 66 6 ≠ 0 ∧ (prt false c.e).cq (cf c 66 6) = none ∧ cf c 128 64 % 4096 = 0 ∧ cf c 80 4 = 0 ∧ 1 ≤ cf c 84 11 ∧ cf c 84 11 ≤ 2047 ∧
      cf c 104 10 ≤ 1000 := by decide +kernel
theorem wit_delete_sq : let c := cmd [(0, 2), (66, 1)]
    let x := { prt false c.e with sqs := (prt false c.e).sqs ++ [(1, some (Sq.make 0 4 0 0))] }
    cf c 64 2 = 0 ∧ cf c 66 6 ≠ 0 ∧ cf c 66 6 ≠ c.sq.val ∧ x.sq (cf c 66 6) = some (Sq.make 0 4 0 0) ∧ (Sq.make 0 4 0 0).flight = [] := by decide +kernel
theorem wit_delete_cq : let c := cmd [(0, 2), (64, 1), (66, 1)]
    let x := { prt false c.e with cqs := (prt false c.e).cqs ++ [(1, some (Cq.make 0 4 1 0 0))] }
    cf c 64 2 = 1 ∧ cf c 66 6 ≠ 0 ∧ (x.cq (cf c 66 6)).isSome = true ∧ (∀ e ∈ x.sqs, (e.2.any fun q => q.cq == cf c 66 6) = false) := by decide +kernel

theorem wit_slice_bind : let c := cmd [(0, 3), (80, 15), (96, 15), (112, 15), (128, 5)]
    (svS [] []).serve.was = false ∧ (svS [] []).liveReqs = [] ∧ cf c 200 1 = 0 ∧
      (∀ a, a < 3 → cf c (96 + 4 * a) 4 ≤ cf c (80 + 4 * a) 4 ∧ cf c (112 + 4 * a) 4 ≤ cf c (80 + 4 * a) 4) ∧ cf c 128 3 < 6 ∧
      cf (cmd [(0, 3), (200, 1)]) 200 1 = 1 := by decide +kernel
theorem wit_mem_layout : let c := cmd [(0, 4), (96, 5992)]
    cf c 96 16 + cf c 112 16 + cf c 128 16 + cf c 144 16 ≤ 5992 := by decide +kernel
theorem wit_power_state : let c := cmd [(0, 6), (64, 2)]
    let s := svS [(0, 6), (64, 2)] []
    cf c 64 2 = 2 ∧ cf c 66 2 ≠ 3 ∧ s.pw.cmd = none ∧ s.get R.STATE_STATE = 3 ∧ s.pw.stopAt = none ∧ s.pw.cal = none ∧ s.get R.STATE_PSTATE = 0 := by decide +kernel
/-- A tile at reset is idle. -/
def idleTile (x : Tile) : Bool :=
  x.vc == .halt && [0, 1, 2, 3].all (fun q => (x.queue q).ents.isEmpty && (x.queue q).head == .free) &&
    (List.range 64).all (fun a => !(x.ctl a).st.busy) && (List.range 32).all (fun k => !(x.blk k).opn)
theorem wit_all_idle (s : State) (h : s.tiles = []) (t : Site) : s.tileIdle t = true := by
  have e : s.tile t = Tile.init := by unfold State.tile; rw [h]; rfl
  show idleTile (s.tile t) = true
  rw [e]; decide +kernel
theorem wit_host_dma : let c := cmd [(0, 5), (64, 15), (132, 1)]
    let s := svS [(0, 5), (64, 15), (132, 1)] []
    s.chPort (256 + cf c 64 4) = c.port.val ∧ cf c 132 2 = 1 ∧ s.chanRoom (256 + cf c 64 4) = true ∧ (s.chan (256 + cf c 64 4)).st = .idle ∧
      (s.chan (256 + cf c 64 4)).pend = [] := by decide +kernel
theorem wit_host_dma_port : let s := { svS [] [] with board := { Board.init with x8 := true } }
    s.chPort (256 + 15) ≠ (cmd [(0, 5), (64, 15)]).port.val := by decide +kernel

/-! ### Serving -/

/-- The serving device with its serving engine changed. -/
def svT (l : List (Nat × Nat)) (rs : List (FRef × Nat)) (f : Serve → Serve) : State := { svS l rs with serve := f Serve.init }
/-- Entry 0 of the request table, in DECODE, with the given change. -/
def rq (f : Req → Req) : Serve → Serve := fun x => { x with reqs := [(0, f { Req.init with st := .decode })] }

/-- A SUBMIT of two context tokens and one to generate. -/
def subL : List (Nat × Nat) := [(0, 0x10), (320, 0x3C00), (368, 0x3C00), (128, 2), (159, 1), (192, 1)]
theorem wit_submit_serves : Serves 0x10 (cmd subL) (svT subL [] fun x => { x with tenants := [(0, { Tenant.init with en := true })] }) :=
  ⟨in_flight_of _ _ _ _ (by decide +kernel) (by decide +kernel) rfl (by decide +kernel) (by decide +kernel) (by decide +kernel), by decide +kernel, by decide +kernel⟩
theorem wit_submit_applied : AsApplied (cmd subL) := by unfold AsApplied; decide +kernel
theorem wit_submit : let c := cmd subL
    let s := svT subL [] fun x => { x with tenants := [(0, { Tenant.init with en := true })] }
    s.chanRoom (s.fetchChan c.port) = true ∧ (s.chan (s.fetchChan c.port)).st = .idle ∧ (s.chan (s.fetchChan c.port)).pend = [] ∧ 1 ≤ cf c 192 20 ∧
      cf c 192 20 ≤ s.get R.LIMITS_MAXPOS - cf c 128 20 ∧ cf c 352 11 ≤ 1024 ∧ cf c 384 13 ≤ 4096 ∧ cf c 500 2 ≠ 3 ∧ cf c 160 32 = 0 ∧
      cf c 272 16 = 0 ∧ cf c 288 16 = 0 ∧ (s.tenant (cf c 148 10)).en = true ∧ cf c 128 20 ≠ 0 ∧ (s.req 0).st = .free ∧
      s.isIngress = true ∧ s.serving = true := by decide +kernel
theorem wit_submit_tenant : ((svT subL [] id).tenant (cf (cmd subL) 148 10)).en = false ∧ (svT subL [] id).isIngress = true ∧ (svT subL [] id).serving = true := by
  decide +kernel

/-- The request of that SUBMIT in ADMIT, its fetch running. -/
def adS : State :=
  going subL { svT subL [(R.MREG_SIZE_MIB 0 7, 1)] fun x => { x with reqs := [(0, { Req.init with st := .inAdmission, cmd := some (cmd subL), maxNew := 1 })] } with
    chans := [(263, { Chan.init with st := .fetch, chain := some ⟨0, .fetch (cmd subL)⟩ })] }
/-- Its two tokens, of which the second is `t`. -/
def toks2 (t : Byte) : List Byte := [5, 0, 0, 0, t, 0, 0, 0]
theorem wit_admission : let c := cmd subL
    (adS.chan (adS.fetchChan 0)).st = .fetch ∧ (adS.chan (adS.fetchChan 0)).chain = some ⟨0, .fetch c⟩ ∧ (adS.chan (adS.fetchChan 0)).pend = [] ∧
      adS.admitOf c = some 0 ∧ adS.serving = true ∧ (adS.req 0).creating = none ∧ (adS.req 0).pfx = none ∧ (adS.req 0).cmd = some c ∧
      (adS.req 0).waitEnd = none ∧ (adS.req 0).early = false ∧ (adS.req 0).cancels = [] ∧ (adS.req 0).orphan = false ∧ (adS.req 0).grammar = 0 := by decide +kernel
theorem wit_admission_data : let c := cmd subL
    cf c 218 1 = 0 ∧ cf c 159 1 = 1 ∧ (toks2 6).length = 4 * cf c 128 20 ∧ cf c 128 20 ≤ adS.get R.LIMITS_MAXPOS := by decide +kernel
theorem wit_admission_tokens : (∀ k, k < 2 → numAt (toks2 6) (4 * k) 4 < adS.get R.SHAPE_VOCAB) ∧ adS.get R.SHAPE_VOCAB ≤ numAt (toks2 100) (4 * 1) 4 ∧
    (adS.tenant (adS.req 0).tenant).maxReq = 0 ∧ adS.liveReqs.length < 8192 := by decide +kernel
theorem wit_admission_pages : (adS.reserve (2 + (adS.req 0).maxNew) (2 + (adS.req 0).maxNew)).isSome = true := by decide +kernel
theorem wit_admission_started : InFlight true 0x10 (cmd subL) adS :=
  in_flight_of _ _ _ _ (by decide +kernel) (by decide +kernel) rfl (by decide +kernel) (by decide +kernel) (by decide +kernel)

theorem wit_cancel : let c := cmd [(0, 0x11), (32, 2 ^ 20)]
    let s (b : Bool) := svT [(0, 0x11), (32, 2 ^ 20)] [] (rq fun r => { r with inflight := b })
    (svT [(0, 0x11), (32, 2 ^ 20)] [] id).findReq (cf c 32 32) = none ∧ (s true).findReq (cf c 32 32) = some 0 ∧ ((s true).req 0).inflight = true ∧
      (s false).findReq (cf c 32 32) = some 0 ∧ ((s false).req 0).inflight = false ∧ ((s false).req 0).live = true ∧ (s true).serving = true := by decide +kernel
theorem wit_prefix_create : let c := cmd [(0, 0x12), (128, 4)]
    let s := svT [(0, 0x12), (128, 4)] [(R.LIMITS_PFX_GRAN, 1)] fun x => { x with tenants := [(0, { Tenant.init with en := true, pfxq := 4 })] }
    let kept := cf c 128 20 / max 1 (s.get R.LIMITS_PFX_GRAN) * max 1 (s.get R.LIMITS_PFX_GRAN)
    s.chanRoom (s.fetchChan c.port) = true ∧ (s.chan (s.fetchChan c.port)).pend = [] ∧ s.serve.pfxs = [] ∧ s.serve.reqs = [] ∧
      (s.tenant (cf c 148 10)).en = true ∧ kept ≠ 0 ∧ kept ≤ (s.tenant (cf c 148 10)).pfxq ∧ s.serving = true := by decide +kernel
theorem wit_prefix_release : let c := cmd [(0, 0x13), (64, 65536)]
    (svT [(0, 0x13), (64, 65536)] [] fun x => { x with pfxs := [(0, { Pfx.init with valid := true })] }).findPfx (cf c 64 32) = some 0 ∧
      (svT [(0, 0x13), (64, 65536)] [] id).findPfx (cf c 64 32) = none := by decide +kernel
theorem wit_tenant_set : cf (cmd [(0, 0x14), (80, 16), (176, 8192)]) 80 5 ≤ 16 ∧ cf (cmd [(0, 0x14), (80, 16), (176, 8192)]) 176 14 ≤ 8192 := by decide +kernel

/-- A list of allowed tokens of one token, 5; the command that loads it; room for it. -/
def lstImg : List Byte := [2, 0, 0, 0, 1, 0, 0, 0] ++ List.replicate 8 0 ++ [5, 0, 0, 0]
def grL : List (Nat × Nat) := [(0, 0x15), (64, 1), (80, 1), (96, 20)]
def grS : State := svT grL [(R.MREG_SIZE_MIB 0 4, 1)] id
theorem wit_grammar : let c := cmd grL
    cf c 64 16 = 1 ∧ grS.gramUsed 1 = false ∧ cf c 80 2 < 2 ∧ grS.chanRoom (grS.fetchChan c.port) = true ∧ (grS.chan (grS.fetchChan c.port)).st = .idle ∧
      (grS.chan (grS.fetchChan c.port)).pend = [] ∧ (grS.chan (grS.fetchChan c.port)).chain = none ∧ grS.isIngress = true ∧ grS.serving = true := by decide +kernel
/-- Its image fetched. -/
def grF : State := { going grL (svT grL ((R.MREG_SIZE_MIB 0 4, 1) :: mcReady) id) with chans := [(263, { Chan.init with st := .fetch, chain := some ⟨0, .fetch (cmd grL)⟩ })] }
theorem wit_grammar_started : InFlight true 0x15 (cmd grL) grF :=
  in_flight_of _ _ _ _ (by decide +kernel) (by decide +kernel) rfl (by decide +kernel) (by decide +kernel) (by decide +kernel)
theorem wit_grammar_image : let c := cmd grL
    grF.fetchChan c.port = 263 ∧ (grF.chan 263).st = .fetch ∧ (grF.chan 263).chain = some ⟨0, .fetch c⟩ ∧ (grF.chan 263).pend = [] ∧ lstImg.length = cf c 96 32 ∧
      (∃ n o, grF.gramRoom 1 lstImg.length = some (n, o) ∧ o + lstImg.length ≤ 0x180000000 ∧ grF.get (R.MC_STAT_STATE n) = 3 ∧ (grF.sec n).bad = [] ∧
        (grF.sec n).soft = [] ∧ (grF.sec n).wTick ≠ grF.now) ∧
      imageOk (cf c 80 2 == 0) (grF.get R.SHAPE_VOCAB) lstImg = true :=
  ⟨by decide +kernel, by decide +kernel, by decide +kernel, by decide +kernel, by decide +kernel, ⟨_, _, rfl, by decide +kernel⟩, by decide +kernel⟩
theorem wit_unload : cf (cmd [(0, 0x15), (64, 1), (80, 2)]) 80 2 = 2 := by decide +kernel
theorem wit_grammar_bad : imageOk (cf (cmd grL) 80 2 == 0) (grS.get R.SHAPE_VOCAB) (List.replicate 20 0) = false := by decide +kernel

/-- A slot due for micro-batch 0, with one decoding request whose tenant holds a token. -/
def lauS (held : Bool) : State :=
  let s := svT [] [(R.SHAPE_MBATCH, 1), (R.SHAPE_ROWS, 1)] fun x => { rq id x with mark := some 0, tenants := [(0, { Tenant.init with level := 16 })] }
  { s with fe := { s.fe with rowsHeld := held } }
theorem wit_launch : (lauS false).slotDue 0 = true ∧ (lauS false).serving = true ∧ ((lauS false).mb 0).launched = none ∧ (lauS false).fe.rowsHeld = false ∧
    (lauS false).serve.reqs = [(0, { Req.init with st := .decode })] ∧ 16 ≤ ((lauS false).tenant 0).level ∧ 1 ≤ (lauS false).get R.SHAPE_ROWS ∧
    Req.init.tag ≠ some ((lauS false).get R.STEP_NOW_N) ∧ Req.init.creating = none ∧ Req.init.cmd = none ∧ (lauS false).serve.adir = [] ∧
    (lauS false).ownHeads = [] := by decide +kernel
theorem wit_launch_held : (lauS true).slotDue 0 = true ∧ (lauS true).serving = true ∧ (lauS true).fe.rowsHeld = true := by decide +kernel

/-- Micro-batch 0 on the orbit with one row of request 0. -/
def cmS (fin : Bool) : State :=
  svT [] mcReady fun x => { rq (fun r => { r with inflight := true, maxNew := 5, samp := { r.samp with noEos := true } }) x with
                       mbs := [(0, { MBatch.init with launched := some 0, rows := [⟨2 ^ 20, 1, fin⟩] })] }
theorem wit_commit : ∀ fin, ((cmS fin).mb 0).launched = some 0 ∧ ((cmS fin).mb 0).rows = [⟨2 ^ 20, 1, fin⟩] ∧ ((cmS fin).mb 0).late = false ∧
    (cmS fin).findReq (2 ^ 20 : BitVec 32).toNat = some 0 ∧ ((cmS fin).req 0).live = true ∧ (cmS fin).fails = [] ∧ (cmS fin).pw.stopAt = none ∧ (∀ n, n < 32 → (cmS fin).get (R.MC_STAT_STATE n) = 3) ∧
    0 + usTicks ((cmS fin).get R.STEP_CFG_ORBIT_LIM) ≤ (cmS fin).now := by decide +kernel
theorem wit_commit_row : let r := (cmS true).req 0
    r.deadline = none ∧ r.cancels = [] ∧ r.orphan = false ∧ r.pendRebuild = false ∧ r.creating = none ∧ r.grammar = 0 ∧ r.alist = 0 ∧ r.govf = false ∧
      0 < (cmS true).get R.SHAPE_VOCAB ∧ (∀ t, t < (cmS true).get R.SHAPE_VOCAB → (f32dec (([] : List (BitVec 32)).getD t 0)).isNaN = false) ∧
      r.samp.stops = [] ∧ r.samp.noEos = true ∧ r.delivered + 1 < r.maxNew := by decide +kernel
theorem wit_row_return : (svT [] [] id).findReq (2 ^ 20 : BitVec 32).toNat = none ∧ ((svT [] [] id).req ((2 ^ 20 : BitVec 32).toNat % 2 ^ 20)).st ≠ .ending := by
  decide +kernel
theorem wit_peer_report : (fbS 0 []).bind = some ⟨0, 2, 1, 1, 0, 0, 0, 2, 1, 1, 0, 0⟩ ∧ (fbS 0 []).isIngress = true ∧
    1 < sliceSize ⟨0, 2, 1, 1, 0, 0, 0, 2, 1, 1, 0, 0⟩ ∧ (fbS 0 []).serve.was = false := by decide +kernel
/-- A device in FAULT while a request lives. -/
theorem wit_peer_fault : let s0 := fbS 0 []
    let s := { s0 with serve := rq id { s0.serve with was := true } }
    s.bind = some ⟨0, 2, 1, 1, 0, 0, 0, 2, 1, 1, 0, 0⟩ ∧ s.isIngress = true ∧ s.serve.was = true ∧ s.serve.reqs = [(0, { Req.init with st := .decode })] ∧
      ({ Req.init with st := .decode } : Req).live = true := by decide +kernel

/-! ### The weight store -/

/-- The slice of two devices with this one its ingress, the weight store changed. -/
def wsS (l : List (Nat × Nat)) (rs : List (FRef × Nat)) (f : WStore → WStore) : State :=
  { svS l rs with fab := 0x1000, bind := some ⟨0, 2, 1, 1, 0, 0, 0, 2, 1, 1, 0, 0⟩, ws := f WStore.init }

theorem wit_ws_ready_20 : Ready 0x20 (cmd [(0, 0x20)]) (wsS [(0, 0x20)] [] id) :=
  in_flight_of _ _ _ _ (by decide +kernel) (by decide +kernel) rfl (by decide +kernel) (by decide +kernel) (by decide +kernel)
theorem wit_ws_ready_21 : Ready 0x21 (cmd [(0, 0x21)]) (wsS [(0, 0x21)] [] id) :=
  in_flight_of _ _ _ _ (by decide +kernel) (by decide +kernel) rfl (by decide +kernel) (by decide +kernel) (by decide +kernel)
theorem wit_ws_ready_22 : Ready 0x22 (cmd [(0, 0x22)]) (wsS [(0, 0x22)] [] id) :=
  in_flight_of _ _ _ _ (by decide +kernel) (by decide +kernel) rfl (by decide +kernel) (by decide +kernel) (by decide +kernel)
theorem wit_ws_ready_23 : Ready 0x23 (cmd [(0, 0x23)]) (wsS [(0, 0x23)] [] id) :=
  in_flight_of _ _ _ _ (by decide +kernel) (by decide +kernel) rfl (by decide +kernel) (by decide +kernel) (by decide +kernel)
theorem wit_shard_load : let s := wsS [] [] id
    s.get R.STATE_STATE = devREADY ∧ s.ws.load = none ∧ cf (cmd []) 176 16 = 0 ∧ cf (cmd []) 164 1 = 0 ∧ cf (cmd []) 165 1 = 0 ∧
      (∀ k, k < 2 → s.slotSt k = slFREE ∨ s.slotSt k = slACTIVE) ∧ (wsS [] [(R.SLOT_STATE 1, 1)] id).slotSt 1 ≠ slFREE ∧
      (wsS [] [(R.SLOT_STATE 1, 1)] id).slotSt 1 ≠ slACTIVE ∧ cf (cmd [(165, 1)]) 165 1 = 1 := by decide +kernel
/-- A blob with the layout of R365. -/
def blob : List Byte := [1] ++ List.replicate 167 0
theorem wit_key_import : let s := wsS [] [] id
    s.secu.serving = none ∧ s.secu.wait = [] ∧ s.get R.SECU_STAT_DEBUG = 0 ∧ cf (cmd [(80, 168)]) 80 16 = 168 ∧ blob.length = 168 ∧ numAt blob 0 2 = 1 ∧ numAt blob 2 2 = 0 ∧
      numAt blob 121 7 = 0 ∧ cf (cmd []) 80 16 ≠ 168 := by decide +kernel

/-- An ARRAY chunk of four bytes; a load of two of them for slot 1, changed. -/
def ch4 : Chunk := ⟨[], 1, 0, 4⟩
def ldL : List (Nat × Nat) := [(0, 0x20)]
def ldOf (f : Load → Load) : Load :=
  f { cmd := some (cmd ldL), man := ⟨0, [], 0, [ch4, ch4], []⟩, slot := 1, restore := false, peer := false, place := false, deadline := 0, got := []
      tries := [], part := [], recs := [], reads := [], bytes := [], done := false, reports := [] }
def ldS (f : Load → Load) : State :=
  going ldL <| wsS ldL ((R.SLOT_STATE 1, 1) :: mcReady) fun w => { w with load := some (ldOf f), keys := [(0, some ⟨[], [], 0⟩)] }

theorem wit_loading (f : Load → Load) (hc : (ldOf f).cmd = some (cmd ldL)) (hr : (ldOf f).restore = false) (hs : (ldOf f).slot < 2) :
    Loading (ldOf f) (cmd ldL) (ldS f) := by
  have e : (ldS f).regs = (ldS id).regs := rfl
  have p : (ldS f).ports = (ldS id).ports := rfl
  have b : (ldS f).board = (ldS id).board := rfl
  refine ⟨rfl, hc, hr, hs, in_flight_of _ _ _ _ ?_ ?_ rfl (by decide +kernel) (by decide +kernel) (by decide +kernel)⟩
  · unfold State.portOn State.portIs State.port; rw [p, b]; decide +kernel
  · unfold State.get; rw [e]; decide +kernel
theorem wit_loading_id : Loading (ldOf id) (cmd ldL) (ldS id) := wit_loading id rfl rfl (by decide)
theorem wit_chunk : 0 = (ldOf id).got.length ∧ (ldOf id).man.chunks[0]? = some ch4 ∧ (ldOf id).peer = false ∧ sget 0 (ldOf id).tries 0 < 3 ∧
    3 ≤ sget 0 (ldOf fun l => { l with tries := [(0, 3)] }).tries 0 ∧ ch4.cls = clARRAY ∧ ([1, 2, 3, 4] : List Byte).length = ch4.len ∧
    0 + 1 < (ldOf id).man.chunks.length ∧ sget none (ldS id).ws.keys (cf (cmd ldL) 168 4) = some ⟨[], [], 0⟩ ∧
    ch4.sector < 32 ∧ refAddr (ldOf id).man.chunks 0 (ldOf id).slot + 4 ≤ ch4.sector * 2 ^ 33 + 0x180000000 ∧ (ldS id).get (R.MC_STAT_STATE ch4.sector) = 3 ∧
    ((ldS id).sec ch4.sector).bad = [] ∧ ((ldS id).sec ch4.sector).soft = [] ∧ ((ldS id).sec ch4.sector).wTick ≠ (ldS id).now := by decide +kernel
theorem wit_peer_rdrsp : let f (l : Load) : Load := { l with peer := true, reads := [(0, 0)] }
    let p := fabP 5 0 0 0x8000 [7]
    0 = (ldOf f).got.length ∧ (ldOf f).fromPeer 0 = true ∧ (ldS f).fabMine p = true ∧ p.tag.getLsbD 15 = true ∧ ((ldOf f).reads.find? fun r => r.1 == bits p.tag.toNat 0 11) = some (bits p.tag.toNat 0 11, 0) ∧
      (sget [] (ldOf f).bytes 0 ++ p.data).length < ch4.len ∧ sget 0 (ldOf f).tries 0 < 3 ∧ cf (cmd ldL) 268 12 = (ldS f).ownPod := by decide +kernel
/-- A load of a peer in another pod. -/
def farL : List (Nat × Nat) := [(0, 0x20), (268, 1)]
def ldFar (l : Load) : Load := { l with cmd := some (cmd farL), peer := true, reads := [(0, 0)] }
def farS : State := going farL <| wsS farL [(R.SLOT_STATE 1, 1)] fun w => { w with load := some (ldOf ldFar) }
theorem wit_peer_far_loading : Loading (ldOf ldFar) (cmd farL) farS :=
  ⟨rfl, rfl, rfl, by decide, in_flight_of _ _ _ _ (by decide +kernel) (by decide +kernel) rfl (by decide +kernel) (by decide +kernel) (by decide +kernel)⟩
theorem wit_peer_far : cf (cmd farL) 268 12 ≠ farS.ownPod ∧ farS.hasSpine = false ∧ (ldOf ldFar).fromPeer 0 = true := by decide +kernel
theorem wit_rdrsp_through : let p := { fabP 5 0 0 0 [] with dvtx := 1 }
    (ldS id).fabMine p = false ∧ ((ldS id).fabRoute p).2 = true := by decide +kernel
theorem wit_staged_report : let s := ldS id
    s.isIngress = true ∧ 1 < s.sliceN ∧ (∀ r ∈ (ldOf id).reports, r.2 = none) ∧ (0 < s.sliceN ∧ 0 ≠ 1 ∧ ∀ r ∈ (ldOf id).reports, r.1 ≠ 0) := by decide +kernel
theorem wit_staged_report_last : let l := ldOf fun l => { l with reports := [(0, none)] }
    (∀ r ∈ l.reports, r.2 = none) ∧ ∀ j, j < (ldS id).sliceN → j ≠ 1 → ∃ r ∈ l.reports, r.1 = j := by decide +kernel
theorem wit_load_deadline : (ldOf id).deadline ≤ (ldS id).now := by decide +kernel

theorem wit_switch : let s := wsS [] [] id
    (fbS 1 []).isIngress = false ∧ s.isIngress = true ∧ cf (cmd []) 64 1 = 0 ∧ s.stagedSlot = none ∧ (wsS [] [(R.SLOT_STATE 1, 2)] id).stagedSlot = some 1 ∧
      s.ws.switch = none ∧ s.ws.load = none ∧ cf (cmd []) 96 32 = 0 ∧ cf (cmd [(64, 1)]) 64 1 = 1 := by decide +kernel
/-- A switch scheduled for step 5, acknowledged by `l`. -/
def swOf (l : List Nat) : Switch := ⟨cmd [(0, 0x22)], 5, 1, false, 120, 0, 1000, l, false⟩
def swS (l : List Nat) : State := going [(0, 0x22)] <| wsS [] [(R.SLOT_STATE 1, 2)] fun w => { w with switch := some (swOf l) }
theorem wit_switch_pending : (swS []).ws.switch = some (swOf []) ∧ (swS []).isIngress = true ∧ (swS []).allAcked (swOf []) = false ∧
    1 < (swS []).sliceN ∧ (swOf []).marked = false ∧ (0 < (swS []).sliceN ∧ 0 ≠ 1 ∧ 0 ∉ (swOf []).acks) ∧ 1 ∉ (swOf []).acks ∧
    (swS [0, 1]).allAcked (swOf [0, 1]) = true := by decide +kernel
theorem wit_switch_last : (swS [0]).allAcked (swOf [0]) = false ∧ (∀ j, j < (swS [0]).sliceN → j ≠ 1 → j ∈ (swOf [0]).acks) ∧ (swS [0]).tm.marks.length < 8 ∧
    (swOf [0]).fetched + usTicks 10000 ≤ (swS [0]).now := by decide +kernel
theorem wit_switch_started : InFlight true 0x22 (swOf []).cmd (swS []) :=
  in_flight_of _ _ _ _ (by decide +kernel) (by decide +kernel) rfl (by decide +kernel) (by decide +kernel) (by decide +kernel)
theorem wit_abandon_load : (ldS id).ws.switch = none ∧ (ldS id).ws.load = some (ldOf id) ∧ (ldOf id).restore = false ∧ (ldOf id).slot < 2 := by decide +kernel
theorem wit_version_drain : let s := wsS [] [(R.SLOT_STATE 1, 4)] fun w => { w with drainAt := some 0 }
    s.drainingSlot = some 1 ∧ s.ws.drainAt = some 0 ∧ 0 ≤ s.now ∧ (wsS [] [] id).drainingSlot = none := by decide +kernel

/-! ### Programming, hold-up checks, refresh, spares -/

/-- Group 0 of a programming run at row 128; the run, of all columns or of spare column 0; the state in which array 0 of tile 0 runs it. -/
def grp0 (pulse : Bool) : ProgGrp := ⟨128, 0, pulse, []⟩
def prRun (only : Option Nat) (pulse : Bool) : ProgRun := ⟨false, 0, 0, [], only, [grp0 pulse, grp0 pulse, grp0 pulse, grp0 pulse], [], 0⟩
def prS (only : Option Nat) (pulse : Bool) (cells : Sparse Nat) : State :=
  { tS [] fun x => x.onCtl 0 fun c => { c with prog := some (prRun only pulse) } with cells := cells }
theorem wit_prog_slot : ∀ pulse, let s := prS none pulse []
    ((s.tile 0).ctl (0 : ArrIx).val).prog = some (prRun none pulse) ∧ (prRun none pulse).grps[(0 : Fin 4).val]? = some (grp0 pulse) ∧ (prRun none pulse).nextGrp = some (0 : Fin 4).val ∧
      ((s.tile 0).ctl (0 : ArrIx).val).st = .idle ∧ ((s.tile 0).ctl (0 : ArrIx).val).op = none ∧ (s.tile 0).fenced = false ∧ (s.tile 0).clkOff = false ∧
      (s.tile 0).queuedFor 0 = false ∧ s.ws.jobs = [] := by decide +kernel
/-- An operation for the array queued, PROG_SHARE operations run meanwhile. -/
theorem wit_prog_share : let s := tS [(R.ASEQ_CTL_PROG_SHARE 0, 3)] fun x => { x.onCtl 0 fun c => { c with share := 3 } with qArr := ⟨[qe (.arrMvm 0 64 0 128 1 0 false 0 8 0 0 0 0)], .free⟩ }
    (s.tile 0).queuedFor 0 = true ∧ s.get (R.ASEQ_CTL_PROG_SHARE 0) ≤ ((s.tile 0).ctl 0).share := by decide +kernel
theorem wit_prog_far : let s := prS none false []
    let d := 8 * (s.cell 0 0 false 128 0 : Int) - ProgAim 0 0 (prRun none false) (grp0 false) 0 s
    0 ∈ progCols (prRun none false) 0 ∧ 8 * (s.get R.PROG_CFG_VTOL : Int) < |d| ∧ 0 < s.get R.PROG_CFG_PMAX := by
  unfold ProgAim; decide +kernel
theorem wit_prog_near : let s := prS (some 0) false [(cellKey 0 0 false 128 512, 240)]
    progCols (prRun (some 0) false) 0 = [512] ∧ 8 * (s.cell 0 0 false 128 512 : Int) - ProgAim 0 0 (prRun (some 0) false) (grp0 false) 512 s = 0 := by
  unfold ProgAim; decide +kernel

/-- The record of array 0 of tile 0; a refresh job of tile 0. -/
def rec0 : ArrRec := ⟨0, 0, 0, 0, []⟩
def rfJob (todo batch : List (Nat × ArrRec)) : Job := ⟨.refresh, 0, 0, todo, batch, none⟩
theorem wit_batch_complete : let s0 := tS [] fun x => x.onCtl 0 fun c => { c with prog := some ⟨false, 0, 0, [], none, [⟨132, 0, false, []⟩], [], 0⟩ }
    let s := { s0 with ws := { s0.ws with jobs := [rfJob [] [(0, rec0)]] } }
    s.ws.jobs = [rfJob [] [(0, rec0)]] ∧ (rfJob [] [(0, rec0)]).what = .refresh ∧ s.progOver (0, rec0) = true ∧ s.ws.load = none ∧ rec0.code < 4 ∧
      rec0.gain < 2 := by decide +kernel

/-- A piece of work due for its check, hold-up voltages of `v` mV. -/
def huS (i : HuItem) (t : Nat) (v : Nat) (rs : List (FRef × Nat)) (f : WStore → WStore) : State :=
  { sR ([(R.HU_CAP_C_UF, 10000)] ++ rs) with now := 2000000000, hu := [(i, t, 0)], ws := f { WStore.init with vhu := List.replicate 16 v, vhuAt := 2000000000 } }
theorem wit_energy : EnergyFor ((huS .powered 0 12000 [] id).get R.HU_EST_ECFG_UJ) (huS .powered 0 12000 [] id) := by unfold EnergyFor; decide +kernel
theorem wit_energy_lacks : ¬EnergyFor ((huS .powered 0 0 [] id).get R.HU_EST_ECFG_UJ) (huS .powered 0 0 [] id) := by unfold EnergyFor; decide +kernel
theorem wit_holdup_late : 0 + msTicks ((huS .powered 0 0 [] id).get R.HU_EST_WAIT_MS) ≤ (huS .powered 0 0 [] id).now ∧
    ¬(1999999999 + msTicks ((huS .powered 1999999999 0 [] id).get R.HU_EST_WAIT_MS) ≤ (huS .powered 1999999999 0 [] id).now) := by decide +kernel
theorem wit_holdup_batch : let s0 := huS .batch 0 12000 [(R.VAL 44, 2500000)] fun w => { w with jobs := [rfJob [(0, rec0)] []] }
    let s := { s0 with board := { s0.board with progEn := true } }
    s.hu = [(.batch, 0, 0)] ∧ s.nextJob.isSome = true ∧ s.board.progEn = true ∧ s0.board.progEn = false ∧ s.ws.jobs = [rfJob [(0, rec0)] []] ∧
      1 ≤ s.get R.PROG_CFG_BATCH ∧ s.progRail = true := by decide +kernel
theorem wit_holdup_batch_energy : let s := huS .batch 0 12000 [] id
    EnergyFor (s.get R.HU_EST_EARR_UJ + s.get R.HU_EST_EFIX_UJ) s := by unfold EnergyFor; decide +kernel

/-- Slot 0 ACTIVE with REF valid, its key held, tile 0 queued for refresh. -/
def rfS (rs : List (FRef × Nat)) (f : WStore → WStore) : State :=
  { sR ([(R.SLOT_STATE 0, 3), (R.SLOT_REF_VALID 0, 1), (R.REFRESH_CFG_EN, 1), (R.REFRESH_CFG_AGE_DAYS, 1)] ++ rs) with
    now := 100000000000000
    ws := f { WStore.init with mans := [(0, some ⟨0, [], 0, [], []⟩)], keys := [(0, some ⟨[], [], 0⟩)], queue := [(0, false)] } }
theorem wit_refresh_age : let s := rfS [] fun w => { w with queue := [] }
    s.get R.REFRESH_CFG_EN = 1 ∧ s.activeSlot = some 0 ∧ s.refreshing 0 = false ∧
      sget 0 s.ws.born (2 * 0 + 0) + s.get R.REFRESH_CFG_AGE_DAYS * usTicks 86400000000 ≤ s.now ∧ Passes .firmware 0x800078 s ∧
      (0x80000000 : BitVec 32).toNat = 2 ^ 31 + (0 : Fin 256).val := by unfold Passes; decide +kernel
theorem wit_refresh_start : let s := rfS [] id
    s.activeSlot = some 0 ∧ s.ws.queue = (0, false) :: [] ∧ s.refreshMay 0 = true ∧ s.refreshRoom 0 = true ∧ s.refRecords 0 0 = some [] ∧ s.secs = [] ∧
      (∀ x : ArrIx, s.worn (s.siteOf 0) x (s.physPlane (s.siteOf 0) x true) = false) := by decide +kernel
theorem wit_refresh_wait : (rfS [(R.SLOT_REF_VALID 0, 0)] id).refreshMay 0 = false := by decide +kernel
theorem wit_refresh_worn : let s := rfS [(R.WEAR_CFG_WEAR_LIM, 0)] id
    s.worn (s.siteOf 0) 0 (s.physPlane (s.siteOf 0) 0 true) = true := by decide +kernel
theorem wit_refresh_complete : let s := rfS [] fun w => { w with jobs := [rfJob [] []] }
    s.ws.jobs = [rfJob [] []] ∧ (rfJob [] []).tile = (0 : Fin 256).val ∧ s.fe.repairs = [] := by decide +kernel

/-- Logical tile 0 moving to its sector's spare since tick 0. -/
def spS (f : WStore → WStore) : State := rfS [] fun w => f { w with spares := [(0, 0, false, false)] }
theorem wit_spare : (spS id).ws.spares = [((0 : Fin 256).val, 0, false, false)] ∧ ((spS id).siteOf 0).val % 9 ≠ 8 ∧ swf 0 (spS id).sp = true ∧
    (0 : Fin 256).val / 8 = (0 : Sector).val ∧ 0 + 32768 ≤ (spS id).now ∧ (spS id).fe.repairs = [] ∧
    0 + usTicks (1000 * (spS id).get R.SPARE_CFG_LIM_MS) ≤ (spS id).now ∧ (spS id).get R.STATE_STATE ≠ devFAULT := by decide +kernel
theorem wit_spare_programmed : let j : Job := ⟨.spare, 0, 0, [], [], none⟩
    (spS fun w => { w with jobs := [j] }).ws.jobs = [j] ∧ j.what = .spare ∧ j.tile = (0 : Fin 256).val := by decide +kernel
theorem wit_column : let j : Job := ⟨.column 3, 0, 5, [], [], none⟩
    let s0 := rfS [] fun w => { w with jobs := [j] }
    let s := { s0 with fe := { s0.fe with repairs := [((s0.siteOf 0).val, 5, 3)] } }
    s.logicalOf (s.siteOf 0).val = some (0 : Fin 256).val ∧ s.ws.jobs = [j] ∧ j.what = .column (3 : Fin 8).val ∧ j.slot = (5 : ArrIx).val ∧
      ((s.siteOf 0).val, 5, 3) ∈ s.fe.repairs := by decide +kernel

/-! ### The fault engine -/

/-- READY with the fault engine changed; an event of a kind at a site. -/
def feE (rs : List (FRef × Nat)) (f : Engine → Engine) : State := { sR ([(R.STATE_STATE, 3)] ++ rs) with fe := f Engine.init, now := 2000000000000 }
def evt (kind : BitVec 8) (site : BitVec 9) : FaultEv := ⟨kind, site, 0, 0, 0, false, 0, 0, 0⟩

theorem wit_event : (feE [] id).fe.log.length < 65536 ∧ (feE [(R.STATE_STATE, 4)] id).get R.STATE_STATE = devFAULT ∧ (feE [] id).get R.STATE_STATE ≠ devFAULT ∧
    (feE [] id).fe.repairs = [] ∧ (feE [] id).ws.spares = [] ∧ (feE [] id).fe.deciding = none ∧ (evt 0x0C 0).kind.toNat = 0xC ∧ (evt 0x0E 0).kind = 0x0E := by decide +kernel
theorem wit_event_turn (e : FaultEv) : TanTurn (.fault e) (feE [] id) [] := ⟨none, rfl⟩
theorem wit_event_net : let n (s : State) := ((s.fe.net.filter fun x => decide (s.get R.POWERED_S_S < x.2 + 3600)).filter fun x => x.1 == (evt 0x0E 0).site.toNat).length
    n (feE [(R.FLT_CTL_NET_UE_LIM, 2)] id) + 1 < (feE [(R.FLT_CTL_NET_UE_LIM, 2)] id).get R.FLT_CTL_NET_UE_LIM ∧
      (feE [(R.FLT_CTL_NET_UE_LIM, 1)] id).get R.FLT_CTL_NET_UE_LIM ≤ n (feE [(R.FLT_CTL_NET_UE_LIM, 1)] id) + 1 := by decide +kernel
theorem wit_event_check : let s := feE [(R.FLT_CTL_TEST, 1)] id
    (evt 2 0).kind = 0x02 ∧ (evt 2 0).site.toNat = (0 : Site).val ∧ (evt 2 0).array.toNat = (0 : ArrIx).val ∧ ((s.tile 0).ctl (0 : ArrIx).val).ootAt = none ∧
      (feE [] fun e => { e with busy := [(0, 1, evt 2 0)] }).isBusy (0 : Site).val = true ∧ s.isBusy (0 : Site).val = false ∧
      (s.histOf (0 : Site).val).status ≠ 2 ∧ s.get R.FLT_CTL_TEST ≠ 0 := by decide +kernel
theorem wit_event_waits : let s (n : Nat) := feE [] fun e => { e with deciding := some 2000000000001, pend := List.replicate n (evt 2 0) }
    (s 15).fe.deciding = some 2000000000001 ∧ (s 15).now < 2000000000001 ∧ 2 ≤ (evt 2 0).kind.toNat ∧ (evt 0xB 287).kind.toNat ≤ 0xB ∧ (evt 0xB 287).site.toNat < 288 ∧
      (s 15).fe.pend.length < 16 ∧ 16 ≤ (s 16).fe.pend.length := by decide +kernel

/-- Tile 0 whose array 0 has the controller `f` makes. -/
def ksS (rs : List (FRef × Nat)) (f : ArrCtl → ArrCtl) : State := tS ([(R.FLT_CTL_TEST, 1), (R.MC_STAT_STATE 0, 3)] ++ rs) fun x => x.onCtl 0 f
theorem wit_known_sum : let s := ksS [] fun c => { c with ksCnt := 2 ^ 20 }
    let c := (s.tile 0).ctl (0 : ArrIx).val
    c.st = .idle ∧ c.op = none ∧ c.res = none ∧ (s.tile 0).awake = true ∧ s.get (R.ASEQ_CTL_ENABLE 0) = 1 ∧ c.due = [] ∧ s.get R.FLT_CTL_TEST ≠ 0 ∧ 2 ^ s.get R.FLT_CTL_KS_LOG ≤ c.ksCnt ∧
      s.testHeld 0 0 = false ∧ s.ksNext 0 0 = none := by decide +kernel
theorem wit_known_sum_off : (ksS [(R.ASEQ_CTL_ENABLE 0, 0)] id).get (R.ASEQ_CTL_ENABLE 0) ≠ 1 := by decide +kernel
theorem wit_known_sum_plane : ((ksS [(R.SLOT_STATE 0, 3), (R.SLOT_EXP_VALID 0, 1), (R.SLOT_REF_VALID 0, 1), (R.ARRCFG_PCODE0 0 0, 0)] id).ksNext 0 0).isSome = true := by
  decide +kernel

/-- A test's result: column 0 sums to `x`, every other to 0. -/
def resOf (x : Int) (rep : Option (List Nat)) : TestRes := ⟨⟨none, 0, none, false, 0, none, rep, 0⟩, x :: List.replicate 523 0, [], 1⟩
def ksR (x : Int) (rep : Option (List Nat)) : State := ksS [] fun c => { c with res := some (resOf x rep) }
theorem wit_ks_result : ((ksR 0 none).tile 0 |>.ctl (0 : ArrIx).val).res = some (resOf 0 none) ∧ (ksR 0 none).logicalOf (0 : Site).val = some 0 ∧
    (resOf 0 none).op.codes = none ∧ (resOf 0 none).op.fleet = none := by decide +kernel
theorem wit_ks_read : ((ksR 0 none).dmaStackRead (srcAcc 5 false 0xFFFFFFFF .clean) (expAddr ((ksR 0 none).physPlane 0 0 false).toNat 0 0 0 0) 2112).2 = .bytes (List.replicate 2112 0) := by
  decide +kernel
theorem getD_zeros (n j : Nat) : (List.replicate n (0 : Int)).getD j 0 = 0 := by
  by_cases h : j < n
  · rw [List.getD_eq_getElem _ _ (by simpa using h)]; simp
  · rw [List.getD_eq_default _ _ (by simpa using h)]
theorem getD_mapRange (f : Nat → Int) (n j : Nat) (hf : ∀ i, f i = 0) : ((List.range n).map f).getD j 0 = 0 := by
  have e : f = fun _ => 0 := funext hf
  by_cases h : j < n
  · rw [List.getD_eq_getElem _ _ (by simpa using h)]; simp [hf]
  · rw [List.getD_eq_default _ _ (by simpa using h)]
theorem leNat_zeros (n : Nat) : leNat (List.replicate n 0) = 0 := by
  induction n with
  | zero => rfl
  | succ n ih => rw [List.replicate_succ]; show 0 + 256 * leNat (List.replicate n 0) = 0; rw [ih]
theorem numAt_zeros (n o k : Nat) : numAt (List.replicate n 0) o k = 0 := by
  unfold numAt; rw [List.drop_replicate, List.take_replicate]; exact leNat_zeros _
/-- Known sums of zero bytes. -/
def ksE (n m : Nat) : List Int := (List.range n).map fun j => sxNat 32 (numAt (List.replicate m 0) (4 * j) 4)
theorem ksE_zero (n m j : Nat) : (ksE n m).getD j 0 = 0 := getD_mapRange _ n j fun i => by rw [numAt_zeros]; rfl
theorem ks_pass (tol n m k : Nat) : ksFails tol 1 (List.replicate n 0) (ksE m k) = [] := by
  have d (j : Nat) : (dataDevs (List.replicate n 0) (ksE m k)).getD j 0 = 0 := getD_mapRange _ _ j fun i => by rw [getD_zeros, ksE_zero]; rfl
  unfold ksFails
  simp only [d, getD_zeros, ksE_zero]
  simp
theorem wit_ks_pass : ksFails ((ksR 0 none).get R.FLT_KS_KS_TOL) 1 (resOf 0 none).w (ksE 528 2112) = [] := ks_pass _ 524 528 2112
theorem dataDevs_zero (x : Int) (l : List Int) (n m : Nat) : (dataDevs (x :: l) (ksE n m)).getD 0 0 = 256 * x := by
  have e : (dataDevs (x :: l) (ksE n m)).getD 0 0 = 256 * (x :: l).getD 0 0 - (ksE n m).getD 0 0 := by
    unfold dataDevs; rw [List.getD_eq_getElem _ _ (by simp)]; rw [List.getElem_map, List.getElem_range]
  rw [e]; show 256 * x - (ksE n m).getD 0 0 = _
  rw [ksE_zero]; simp
theorem ks_fail (tol n m : Nat) (x : Int) (l : List Int) (h : 256 * tol < (256 * x).natAbs) : 0 ∈ ksFails tol 1 (x :: l) (ksE n m) := by
  refine List.mem_append_left _ (List.mem_filter.mpr ⟨List.mem_range.mpr (by decide), ?_⟩)
  rw [dataDevs_zero]; simpa using h
theorem wit_ks_fail : 0 ∈ ksFails ((ksR 0 none).get R.FLT_KS_KS_TOL) 1 (resOf 1000000 none).w (ksE 528 2112) := ks_fail _ _ _ _ _ (by decide +kernel)

/-- A package of no test, stored. -/
def flS : State := { feE [(R.FLT_CTL_TEST, 2), (R.FLT_KS_FLEET_PERIOD, 1)] id with cfg := { CfgArea.init with pkg := some ⟨0, 1, [], []⟩ } }
theorem wit_fleet : flS.cfg.pkg = some ⟨0, 1, [], []⟩ ∧ 2 ≤ flS.get R.FLT_CTL_TEST ∧ flS.fe.fleetAt + usTicks (flS.get R.FLT_KS_FLEET_PERIOD * 1000000) ≤ flS.now := by decide +kernel
theorem wit_fleet_site : (List.range 256).filter (fun k => flS.siteOf k == flS.siteOf 0) = [0] ∧ (flS.tile (flS.siteOf 0)).fenced = false := by decide +kernel
theorem wit_fleet_ready : Ready 0x30 (cmd [(0, 0x30)]) (svS [(0, 0x30)] []) :=
  in_flight_of _ _ _ _ (by decide +kernel) (by decide +kernel) rfl (by decide +kernel) (by decide +kernel) (by decide +kernel)
theorem wit_fleet_package : ([] : List Byte).length = cf (cmd [(0, 0x30)]) 128 32 ∧ ([0] : List Byte).length ≠ cf (cmd [(0, 0x30)]) 128 32 := by decide +kernel

theorem wit_eba_stall : let s := { tS [] fun x => x.onBlk 31 fun _ => openBlk 1 with now := 2000000000000 }
    ((s.tile 0).blk (31 : Fin 32).val).opn = true ∧ ((s.tile 0).blk (31 : Fin 32).val).since + usTicks (s.get R.FLT_CTL_EBA_LIM) ≤ s.now := by decide +kernel
theorem wit_tmr : isTmr 0x1000 = true ∧ isTmr 0x2000010 = true ∧ (⟨0x2000010, true, 0⟩ : RegCopy).off < 0x3200000 := by decide

/-- R450: a register whose three copies differ reads as copy 0 until it is rewritten with the value it had. -/
theorem test_tmr_copy0 : let u := (feE [] id).readCopy0 0x2000010 0x12
    u.get (spownF 0 0) = 2 ∧ u.get (spownF 0 1) = 1 ∧ (u.rewriteReg 0x2000010).get (spownF 0 0) = 3 ∧ (u.rewriteReg 0x2000010).get (spownF 0 1) = 3 ∧
      (u.rewriteReg 0x2000010).fe.copies = [] := by decide +kernel
theorem wit_parity : isTmr 0x4A10 = false ∧ (regFind 0x4A10 regTable).isSome = true ∧ (∀ f ∈ ctrWord 0x4A10, f.key ≠ R.PARITY_CNT.key) ∧ ctrWord 0x4A10 ≠ [] := by
  decide +kernel
theorem wit_powered : (feE [(R.POWERED_S_S, 3600)] id).cfg.powered + 3600 ≤ (feE [(R.POWERED_S_S, 3600)] id).get R.POWERED_S_S := by decide +kernel
theorem wit_suspect : let s := feE [(R.POWERED_S_S, 90000)] fun e => { e with hist := [(0, { Hist.init with status := 1, ksT := [0] })] }
    (s.histOf (0 : Site).val).status = 1 ∧ (∀ x ∈ (s.histOf (0 : Site).val).ksT, x + 86400 < s.get R.POWERED_S_S) := by decide +kernel

/-! ### Security and management -/

/-- READY, with the security core changed and random numbers available. -/
def seS (rs : List (FRef × Nat)) (f : Secu → Secu) : State :=
  { sR ([(R.STATE_STATE, 3), (R.STATE_STEP, 10), (R.SECU_STAT_RNG_OK, 1)] ++ rs) with board := { Board.init with por := true, aonAt := some 0 }, secu := f Secu.init }
/-- A message by mailbox A. -/
def msg (p : List Byte) : SecMsg := ⟨.mailboxA, 1, 7, p⟩

theorem wit_heard : Heard (msg []) (seS [] id) := by unfold Heard; decide +kernel
theorem wit_cert : let m := msg [3, 0, 0, 0, 0, 0xC0, 0x0F]
    m.payload.length = 7 ∧ numAt m.payload 0 1 ≤ 3 ∧ numAt m.payload 5 2 = 4032 ∧ 3 < numAt (msg [4, 0, 0, 0, 0, 0, 0]).payload 0 1 := by decide
theorem wit_report : (msg (List.replicate 48 0)).payload.length = 48 ∧ (seS [] id).get R.SECU_STAT_DEBUG = 0 ∧ (seS [] id).get R.SECU_STAT_RNG_OK = 1 ∧
    (seS [(R.SECU_STAT_RNG_OK, 0)] id).get R.SECU_STAT_RNG_OK = 0 ∧ (seS [(R.SECU_STAT_DEBUG, 1)] id).get R.SECU_STAT_DEBUG = 1 := by decide +kernel
theorem wit_random : numAt (msg [0]).payload 0 1 = 0 ∧ 48 < numAt (msg [49]).payload 0 1 ∧ 1 ≤ numAt (msg [48]).payload 0 1 ∧ numAt (msg [48]).payload 0 1 ≤ 48 := by decide
/-- An enrolment into slot `k`. -/
def enr (k : Byte) : SecMsg := msg ([k] ++ List.replicate 194 0)
theorem wit_enrol : (enr 3).payload.length = 195 ∧ numAt (enr 3).payload 0 1 < 4 ∧ numAt (enr 3).payload 1 1 = 0 ∧ 4 ≤ numAt (enr 4).payload 0 1 ∧
    sget none (seS [] id).cfg.keys 3 = none ∧ (seS [] id).get R.SETUP_LOCK_HOLDER ≠ viaLock (enr 3).via ∧
    (seS [(R.SETUP_LOCK_HOLDER, 1)] id).get R.SETUP_LOCK_HOLDER = viaLock (enr 3).via := by decide +kernel
theorem wit_enrol_old : let s := { seS [] id with cfg := { CfgArea.init with keys := [(3, some [])] } }
    sget none s.cfg.keys (numAt (enr 3).payload 0 1) = some [] := by decide +kernel
theorem wit_zeroise : let s := seS [] id
    s.serve.reqs = [] ∧ s.ws.load = none ∧ s.ws.switch = none ∧ s.ws.jobs = [] ∧ 255 % 16 ≠ 0 ∧ (msg [255]).payload = [BitVec.ofNat 8 255] ∧ 255 < 256 := by
  decide +kernel
theorem wit_unlock : (msg (List.replicate 193 0)).payload.length = 193 ∧ (seS [] id).secu.challenge = none ∧
    (seS [] fun x => { x with challenge := some [1] }).secu.challenge = some [1] ∧ (seS [] id).slotSt 0 = slFREE ∧ (seS [] id).slotSt 1 = slFREE := by decide +kernel
theorem wit_device_reset : let m : SecMsg := ⟨.mctp, 1, 7, [0xC3, 0xA5]⟩
    Heard m (seS [] id) ∧ m.via = .mctp ∧ m.payload = [0xC3, 0xA5] ∧ (msg [0xC3, 0xA5]).payload.length = 2 ∧ (msg [0xC3, 0xA5]).via ≠ .mctp := by
  unfold Heard; decide +kernel
theorem wit_zeroise_ring : let s := svS [(0, 7), (64, 15)] []
    s.serve.reqs = [] ∧ s.ws.load = none ∧ s.ws.switch = none ∧ s.ws.jobs = [] ∧ cf (cmd [(0, 7), (64, 15)]) 64 4 ≠ 0 := by decide +kernel
theorem wit_zeroise_ready : Ready 0x07 (cmd [(0, 7), (64, 15)]) (svS [(0, 7), (64, 15)] []) :=
  in_flight_of _ _ _ _ (by decide +kernel) (by decide +kernel) rfl (by decide +kernel) (by decide +kernel) (by decide +kernel)
theorem wit_busy : let s := seS [] fun x => { x with serving := some (msg []) }
    s.secu.serving = some (msg []) ∧ (msg []).via ≠ .mctp ∧ s.board.por = true ∧ 4 ≤ s.get R.STATE_STEP ∧
      (⟨.doeB, 1, 7, []⟩ : SecMsg).via ≠ (msg []).via ∧ ∀ e ∈ s.secu.wait, e.2.via ≠ .doeB := by decide +kernel
theorem wit_doe_abort : let m : SecMsg := ⟨.doeA, 1, 7, []⟩
    (seS [] fun x => { x with serving := some m }).secu.serving = some m ∧ m.via = (if (0 : Port).val = 0 then Transport.doeA else Transport.doeB) ∧
      m.via ≠ (if (1 : Port).val = 0 then Transport.doeA else Transport.doeB) := by decide +kernel
theorem wit_address : (seS [] id).board.aonAt.isSome = true ∧ (0x30 : BitVec 7).toNat = 0x30 + (seS [] id).board.mgmtAddr ∧ (seS [] id).get R.MGMT_STAT_DADDR = 0 := by decide +kernel
theorem wit_on_mctp : OnMctp (seS [] id) ∧ (8 : BitVec 8) ≠ 0 ∧ (8 : BitVec 8) ≠ 0xFF ∧ (seS [] id).get R.SETUP_LOCK_HOLDER = 0 := by unfold OnMctp; decide +kernel
theorem wit_sensor : (1 : BitVec 16).toNat ∈ sensorIds ∧ (0xFFFF : BitVec 16).toNat ∉ sensorIds := by decide +kernel
theorem wit_event_ack : (seS [] fun x => { x with unacked := true }).secu.unacked = true := by decide +kernel
theorem wit_effecter : 500 ≤ (500 : BitVec 32).toNat ∧ (950 : BitVec 32).toNat ≤ 950 ∧ (2 : BitVec 32).toNat < 3 := by decide
theorem wit_mctp_early : let s := { State.reset with board := { Board.init with por := true } }
    s.board.por = true ∧ s.get R.STATE_STEP < 4 := by decide
/-- An update of one image of 5,000 bytes, `n` of them received. -/
def upd (comp n : Nat) (ap : Bool) : Update := ⟨comp, 5000, List.replicate n 0, false, ap⟩
theorem wit_update : (seS [] id).secu.update = none ∧ (seS [] fun x => { x with update := some (upd 1 0 false) }).secu.update = some (upd 1 0 false) ∧
    0 < 8388608 ∧ 8388608 ≤ 8388608 ∧ (upd 1 0 false).applied = false ∧ (upd 2 0 true).applied = true ∧ (upd 2 0 true).comp ≠ 1 := by decide +kernel
theorem wit_update_data : (upd 1 0 false).got.length < (upd 1 0 false).len ∧ min 4096 ((upd 1 0 false).len - (upd 1 0 false).got.length) = 4096 ∧
    (upd 1 0 false).got.length + 4096 < (upd 1 0 false).len := by decide +kernel
theorem wit_update_last : (upd 1 4096 false).got.length < (upd 1 4096 false).len ∧ min 4096 ((upd 1 4096 false).len - (upd 1 4096 false).got.length) = 904 ∧
    (upd 1 4096 false).got.length + 904 = (upd 1 4096 false).len := by decide +kernel

/-! ### The whole part -/

theorem wit_front : { State.reset with pending := [.ready] }.pending = .ready :: [] := rfl
theorem wit_quiet : State.reset.pending = [] ∧ Quiet State.reset := by unfold Quiet; decide
theorem wit_canonical : Canonical State.reset := by unfold Canonical; decide

/-! ### Cryptography: vectors of the standards -/

/-- SHA-384 of "abc" (FIPS 180-4). -/
theorem test_sha384 : beNat (sha384 [0x61, 0x62, 0x63]) =
    0xCB00753F45A35E8BB5A03D699AC65007272C32AB0EDED1631A8B605A43FF5BED8086072BA1E7CC2358BAECA134C825A7 := by decide +kernel
/-- The substitution of 0x53 (FIPS 197). -/
theorem test_sub_byte : subByte 0x53 = 0xED ∧ unsubByte 0xED = 0x53 := by decide +kernel
/-- The base point lies on the curve (RFC 5639). -/
theorem test_base_point : (ecG.map fun p => ecDecode (4 :: beBytes 48 p.1 ++ beBytes 48 p.2)) = some ecG := by decide +kernel

end Sys2Proof.Tests
end

section
/-! PROOFS. Branches, JR and the fetch (R135): what a retirement and an exception leave, seen from the state before the fetch, and O2. -/

namespace Sys2Proof.Machine

open Sys2Proof

/-! ### What the fetch alone leaves -/

/-- Of state `s` only the marks of last access of tile `t`'s banks differ in `u`: what a fetch leaves before its instruction acts. -/
def OnlyTouched (t : Site) (s u : State) : Prop :=
  (∀ b, (u.tile t).bank b = { (s.tile t).bank b with last := ((u.tile t).bank b).last }) ∧
  u.tile t = { s.tile t with banks := (u.tile t).banks } ∧ OtherTiles t s u ∧ u = { s with tiles := u.tiles }

theorem OnlyTouched.refl (t : Site) (s : State) : OnlyTouched t s s := ⟨fun _ => rfl, rfl, OtherTiles.refl t s, rfl⟩

/-- The access of a fetch marks its bank and nothing else. -/
theorem OnlyTouched.onBank (t : Site) (s : State) (b n : Nat) :
    OnlyTouched t s (s.onTile t fun x => x.onBank b fun k => { k with last := n }) := by
  refine ⟨fun b' => ?_, ?_, (OtherTiles.refl t s).onTile _, rfl⟩
  · rw [State.tile_onTile_same]
    by_cases hb : b' = b
    · rw [hb, Tile.bank_onBank_same]
    · rw [Tile.bank_onBank_ne _ _ hb]
  · rw [State.tile_onTile_same]; rfl

/-- An instruction that a ready vector core issues acts on a state in which only its fetch has left a mark. -/
theorem State.vcIssue_touched {s : State} {t : Site} {i : Instr} (h : VcReady s t) (hi : bviDecode t (s.vcWord t) = some i) :
    ∃ u, OnlyTouched t s u ∧ ∀ k, s.vcIssue t i k = k u :=
  ⟨_, OnlyTouched.onBank t s _ _, State.vcIssue_ready h hi⟩

/-- What an exception other than SP_OWNER does to a running vector core: VC_STAT is written and the core stops in FAULT (R146). -/
theorem State.vcRaise_run {s : State} {t : Site} (hvc : (s.tile t).vc = .run) {c : Cause} (hc : c ≠ .spOwner) :
    s.vcRaise t c = (s.vcStat t c (s.tile t).pc).onTile t fun x =>
      { x with vc := .fault, stall := none, inwait := none, vcResume := false, faultAt := some (s.now, (s.tile t).ord) } := by
  simp only [State.vcRaise, State.vcExc, if_neg hc]
  rw [if_neg (by rw [hvc]; decide)]

/-- An exception writes cause and address, sets SPEVT.VC_FAULT, and writes no other field (R146). -/
theorem State.vcStat_regs (s : State) (t : Site) (c : Cause) (pc : Nat) :
    (s.vcStat t c pc).get (R.VC_STAT_CAUSE t.val) = c.code ∧ (s.vcStat t c pc).get (R.VC_STAT_FPC t.val) = pc % 2 ^ 21 ∧
      (s.vcStat t c pc).get (R.SPEVT_VC_FAULT t.val) = 1 ∧
      RegsBut [R.VC_STAT_CAUSE t.val, R.VC_STAT_FPC t.val, R.SPEVT_VC_FAULT t.val] s (s.vcStat t c pc) := by
  have hcode : c.code < 2 ^ 8 := by cases c <;> decide
  refine ⟨?_, ?_, State.get_set1_same _ _ Nat.one_pos, ?_⟩
  · rw [State.vcStat, State.set1, State.get_put_ne _ _ (by simp [FRef.key, R.VC_STAT_CAUSE, R.SPEVT_VC_FAULT]; omega),
      State.get_put_ne _ _ (by simp [FRef.key, R.VC_STAT_CAUSE, R.VC_STAT_FPC]), State.get_put_same]
    exact Nat.mod_eq_of_lt hcode
  · rw [State.vcStat, State.set1, State.get_put_ne _ _ (by simp [FRef.key, R.VC_STAT_FPC, R.SPEVT_VC_FAULT]; omega),
      State.get_put_same]
    rfl
  · exact (((RegsBut.refl _ s).put _ _ (by simp)).put _ _ (by simp)).put _ _ (by simp)

section Touched
variable {t : Site} {s u : State} (h : OnlyTouched t s u)
include h

theorem OnlyTouched.pc_eq : (u.tile t).pc = (s.tile t).pc := by rw [h.2.1]
theorem OnlyTouched.ord_eq : (u.tile t).ord = (s.tile t).ord := by rw [h.2.1]
theorem OnlyTouched.vc_eq : (u.tile t).vc = (s.tile t).vc := by rw [h.2.1]
theorem OnlyTouched.s_eq (i : BitVec 5) : (u.tile t).s i = (s.tile t).s i := by rw [h.2.1]; rfl

/-- An instruction that only moves PC, to an address of 64 bits, leaves what VcDone says of it. -/
theorem VcDone.of_vcRetire (hvc : (s.tile t).vc = .run) {n : Nat} (hn : n < 2 ^ 64) : VcDone { npc := n } t s (u.vcRetire t n) := by
  obtain ⟨hbank, htile, hother, hframe⟩ := h
  obtain ⟨-, rother, rregs, rcount⟩ := u.vcRetire_frame t n
  have e : (u.vcRetire t n).tile t = { s.tile t with banks := (u.tile t).banks, pc := n, ord := (s.tile t).ord + 1 } := by
    rw [State.tile_vcRetire, Nat.mod_eq_of_lt hn, htile]
  generalize u.tiles = T at hframe
  subst hframe
  refine ⟨fun i => (congrArg (Tile.s · i) e :), fun i => (congrArg (Tile.v · i) e :), fun i => (congrArg (Tile.x · i) e :),
    fun i => (congrArg (Tile.m · i) e :), (congrArg Tile.vflags e :), congrArg Tile.pc e, (congrArg Tile.vc e).trans hvc,
    fun b => ?_, ?_, fun t' ht => (rother t' ht).trans (hother t' ht), fun _ => rfl, rcount, by simp, rregs, rfl⟩
  · rw [e]; exact hbank b
  · rw [e]

/-- An exception of the instruction at PC leaves what VcStopped says of it (R146). -/
theorem VcStopped.of_vcRaise (hvc : (s.tile t).vc = .run) {c : Cause} (hc : c ≠ .spOwner) : VcStopped c t s (u.vcRaise t c) := by
  rw [State.vcRaise_run (h.vc_eq.trans hvc) hc, h.pc_eq, h.ord_eq]
  obtain ⟨hbank, htile, hother, hframe⟩ := h
  obtain ⟨hcause, hfpc, hevt, hregs⟩ := u.vcStat_regs t c (s.tile t).pc
  generalize hw : (u.vcStat t c (s.tile t).pc).onTile t _ = w
  have e : w.tile t = { s.tile t with
      banks := (u.tile t).banks, vc := .fault, stall := none, inwait := none, vcResume := false,
      faultAt := some (u.now, (s.tile t).ord) } := by
    rw [← hw, State.tile_onTile_same, State.vcStat, State.tile_set1, State.tile_put, State.tile_put, htile]
  generalize u.tiles = T at hframe
  subst hframe hw
  refine ⟨congrArg Tile.vc e, hcause, hfpc, hevt, ?_, fun b => ?_, hother.onTile _, hregs, rfl⟩
  · rw [e]
  · rw [e]; exact hbank b
end Touched

/-! ### The fetch -/

/-- The effect `g` on the state begins with the fetch of tile `t`'s vector core. -/
def FetchesFirst (t : Site) (g : State → Res State) : Prop := ∃ is k, ∀ s, g s = .next (s.vcFetch t is k)

theorem FetchesFirst.vcIssue (t : Site) (i : Instr) (k : State → State) : FetchesFirst t fun s => .next (s.vcIssue t i k) :=
  ⟨_, _, fun _ => rfl⟩

theorem FetchesFirst.vecFun (i : Instr) (t : Site) (f : FmtV) (g : VFun) : FetchesFirst t fun s => .next (vecFun i t f g s) := by
  unfold Machine.vecFun
  exact .vcIssue t i _

/-- Every instruction of a vector core begins with its fetch (R111). -/
theorem exec_fetchesFirst {i : Instr} {t : Site} (h : coreOf i = some t) : FetchesFirst t (exec i) := by
  cases i <;> cases h
  case illegalOpcode w => exact ⟨_, _, fun _ => rfl⟩
  case vexp | vexp2 | vlog2 | vrcp | vrsqrt | vsqrt | vtanh | vsigm | vgelu | vsilu => exact .vecFun ..
  all_goals exact .vcIssue ..

/-- A fetch beyond 21 bits raises ADDR, whatever the instruction (R135). -/
theorem State.vcFetch_beyond {s : State} {t : Site} (hvc : (s.tile t).vc = .run) (hclk : (s.tile t).clkOff = false)
    (hpc : 2 ^ 21 ≤ (s.tile t).pc) (is : BitVec 64 → Bool) (k : State → State) : s.vcFetch t is k = s.vcRaise t .addr := by
  unfold State.vcFetch
  rw [if_neg (by simp [hvc, hclk]), if_pos hpc]

/-! ### The branches -/

/-- Every branch of the table runs branchOp on its condition, which reads no mark of a bank. -/
theorem branchTable_exec {p : (Site → FmtS → Instr) × (Tile → FmtS → Prop)} (hp : p ∈ branchTable) (t : Site) (f : FmtS) :
    ∃ c : Tile → Bool, (∀ s, exec (p.1 t f) s = .next (branchOp (p.1 t f) t f c s)) ∧
      (∀ s, Fetched (p.1 t f) t s → bviDecode t (s.vcWord t) = some (p.1 t f)) ∧
      ∀ x bs, c { x with banks := bs } = true ↔ p.2 x f := by
  simp only [branchTable, List.mem_cons, List.not_mem_nil, or_false] at hp
  rcases hp with rfl | rfl | rfl | rfl | rfl
  · exact ⟨_, fun _ => rfl, fun _ h => h, fun _ _ => beq_iff_eq⟩
  · exact ⟨_, fun _ => rfl, fun _ h => h, fun _ _ => bne_iff_ne⟩
  · exact ⟨_, fun _ => rfl, fun _ h => h, fun _ _ => BitVec.slt_iff_toInt_lt⟩
  · refine ⟨_, fun _ => rfl, fun _ h => h, fun x bs => ?_⟩
    show (!(x.s f.sa).slt (x.s f.sb)) = true ↔ (x.s f.sb).toInt ≤ (x.s f.sa).toInt
    simp [BitVec.slt_eq_decide]
  · exact ⟨_, fun _ => rfl, fun _ h => h, fun _ _ => by simp⟩

/-- The address that a taken branch computes: its own address + IMM32 x 8 modulo 2^64. -/
theorem branchTarget_toNat (pc : Nat) (f : FmtS) :
    (BitVec.ofNat 64 pc + FmtS.sximm f * 8).toNat = (((pc : Int) + f.imm.toInt * 8) % 2 ^ 64).toNat := by
  have e : BitVec.ofNat 64 pc + FmtS.sximm f * 8 = BitVec.ofInt 64 ((pc : Int) + f.imm.toInt * 8) := by
    rw [BitVec.ofInt_add, BitVec.ofInt_mul, BitVec.ofInt_natCast]; rfl
  rw [e, BitVec.toNat_ofInt]; rfl

/-- IMM32 x 8 reaches less than 2^34 either way. -/
theorem branchOffset_bounds (f : FmtS) : -2 ^ 34 ≤ f.imm.toInt * 8 ∧ f.imm.toInt * 8 < 2 ^ 34 := by
  have h1 := f.imm.le_toInt
  have h2 := f.imm.toInt_lt
  omega

/-- A branch leaves the ready vector core at the address it computes when its condition holds, at the next instruction otherwise. -/
theorem branch_runs {p : (Site → FmtS → Instr) × (Tile → FmtS → Prop)} (hp : p ∈ branchTable) {s : State} {t : Site} (f : FmtS)
    (h : VcReady s t) :
    (p.2 (s.tile t) f →
      Runs (p.1 t f) t s (VcDone { npc := (((s.tile t).pc + f.imm.toInt * 8) % 2 ^ 64).toNat } t s)) ∧
    (¬ p.2 (s.tile t) f → Runs (p.1 t f) t s (VcDone { npc := (s.tile t).pc + 8 } t s)) := by
  obtain ⟨c, hexec, hfetched, hc⟩ := branchTable_exec hp t f
  have ⟨hvc, _, hpc, _⟩ := h
  refine ⟨fun htaken hf => ?_, fun hnot hf => ?_⟩ <;>
    obtain ⟨u, hu, hissue⟩ := State.vcIssue_touched h (hfetched s hf) <;>
    have hcu : c (u.tile t) = true ↔ p.2 (s.tile t) f := by rw [hu.2.1]; exact hc _ _
  · refine ⟨_, (hexec s).trans (congrArg _ (hissue _)), ?_⟩
    rw [if_pos (hcu.2 htaken), hu.pc_eq, branchTarget_toNat]
    exact .of_vcRetire hu hvc (by omega)
  · refine ⟨_, (hexec s).trans (congrArg _ (hissue _)), ?_⟩
    rw [if_neg (mt hcu.1 hnot), State.vcNext, hu.pc_eq]
    exact .of_vcRetire hu hvc (by omega)

/-- JR leaves the ready vector core at s[SA], or stopped by ALIGN when that is not a multiple of 8. -/
theorem jr_runs {s : State} {t : Site} (f : FmtS) (h : VcReady s t) :
    (((s.tile t).s f.sa).toNat % 8 = 0 → Runs (.jr t f) t s (VcDone { npc := ((s.tile t).s f.sa).toNat } t s)) ∧
    (((s.tile t).s f.sa).toNat % 8 ≠ 0 → Runs (.jr t f) t s (VcStopped .align t s)) := by
  refine ⟨fun hal hf => ?_, fun hal hf => ?_⟩ <;> obtain ⟨u, hu, hissue⟩ := State.vcIssue_touched h hf
  · refine ⟨_, congrArg Host.Outcome.next (hissue _), ?_⟩
    rw [hu.s_eq, if_neg (not_not.2 hal)]
    exact .of_vcRetire hu h.1 ((s.tile t).s f.sa).isLt
  · refine ⟨_, congrArg Host.Outcome.next (hissue _), ?_⟩
    rw [hu.s_eq, if_pos hal]
    exact .of_vcRaise hu h.1 (by decide)

/-- Settles O2: the branch, JR and the fetch, each by its own lemma; modulo 2^64 the address of a taken branch is the sum itself or, below 0, one beyond 21 bits (log entry 30). An excepted instruction is not counted (log entry 21). -/
theorem branchesMovePc : Obligations.BranchesMovePc := by
  refine ⟨fun p hp s t f h => ?_, fun s t f h => jr_runs f h, fun i s t hi hvc hclk hpc => ?_⟩
  · obtain ⟨htaken, hnot⟩ := branch_runs hp f h
    obtain ⟨hlo, hhi⟩ := branchOffset_bounds f
    have ⟨_, _, hpc, _⟩ := h
    refine ⟨fun hc h0 => ?_, fun hc h0 => ⟨_, ?_, htaken hc⟩, hnot⟩
    · have e : ((s.tile t).pc + f.imm.toInt * 8) % 2 ^ 64 = (s.tile t).pc + f.imm.toInt * 8 := by omega
      simpa only [e] using htaken hc
    · omega
  · obtain ⟨is, k, hk⟩ := exec_fetchesFirst hi
    exact ⟨_, (hk s).trans (congrArg _ (State.vcFetch_beyond hvc hclk hpc is k)), .of_vcRaise (.refl t s) hvc (by decide)⟩

end Sys2Proof.Machine
end

section
/-! PROOFS. What a tangent message does where it arrives (R215, R218, R220), in terms of TanTurn, TanOnly, TanDropped and PostedAll. -/

namespace Sys2Proof.Machine

open Sys2Proof

/-! ### Counters and event bits -/

theorem Counted.congr {f : FRef} {n : Nat} {s s' u u' : State} (h : Counted f n s u) (hs : s'.get f = s.get f) (hu : u'.get f = u.get f) :
    Counted f n s' u' := by
  rwa [Counted, hs, hu]

/-- A counter with its event bit: the counter has counted one and the bit is set. -/
theorem State.bumpEvt_counts (s : State) {c e : FRef} (hce : c.key ≠ e.key) (he : 0 < e.w) :
    Counted c 1 s (s.bumpEvt c e) ∧ (s.bumpEvt c e).get e = 1 :=
  ⟨(s.counted_bump c 1).congr rfl (State.get_put_ne _ 1 hce), State.get_set1_same _ e he⟩

theorem RegsBut.bumpEvt {l : List FRef} {s u : State} (h : RegsBut l s u) (c e : FRef) (hc : c ∈ l) (he : e ∈ l) :
    RegsBut l s (u.bumpEvt c e) :=
  (h.bump c 1 hc).put e 1 he

/-! ### Messages that leave -/

/-- From 0x100 up the node numbers are those of fixed stops: the way there does not depend on the state (Tables 7-3, 7-7). -/
theorem State.tanStop_fixed {n : Nat} (hn : 0x100 ≤ n) (s u : State) : u.tanStop n = s.tanStop n := by
  unfold State.tanStop
  rw [if_neg (Nat.not_lt.2 hn), if_neg (Nat.not_lt.2 hn)]

theorem waiterNode_fixed (w : WaiterId) : 0x100 ≤ waiterNode w := by
  cases w with
  | tile t q => exact (by decide : 0x100 ≤ 0x400).trans (Nat.le_add_right _ _)
  | core c => exact (by decide : 0x100 ≤ 0x178).trans (Nat.le_add_right _ _)

theorem faultNode_fixed (kind site detail : Nat) : 0x100 ≤ faultNode kind site detail := by
  unfold faultNode
  split_ifs <;> omega

/-- A message sent between fixed stops follows those that have left since `s`. -/
theorem PostedAll.post {src dst cls : Nat} {l : List (Nat × Out)} {s u : State} (h : PostedAll src cls l s u) (hnow : u.now = s.now)
    (hsrc : 0x100 ≤ src) (hdst : 0x100 ≤ dst) (o : Out) : PostedAll src cls (l ++ [(dst, o)]) s (u.post src dst cls o) := by
  obtain ⟨hout, htan⟩ := h
  constructor
  · simp [State.post, hout]
  · simp [State.post, htan, hnow, State.tanStop_fixed hsrc s u, State.tanStop_fixed hdst s u]

/-- One message is the only one that has left. -/
theorem PostedAll.posted {src dst cls : Nat} {o : Out} {s u : State} (h : PostedAll src cls [(dst, o)] s u) : Posted src dst cls o s u := h

/-! ### Messages that arrive -/

theorem TanCounted.put {err : NetErr} {s u : State} (h : TanCounted err s u) {r : FRef} (hr : ∀ g ∈ tanRegs, g.key ≠ r.key) (v : Nat) :
    TanCounted err s (u.put r v) := by
  obtain ⟨hmsg, hcorr⟩ := h
  have keeps : ∀ g ∈ tanRegs, (u.put r v).get g = u.get g := fun g hg => State.get_put_ne u v (hr g hg)
  refine ⟨hmsg.congr rfl (keeps _ (by simp [tanRegs])), fun k hk => ?_⟩
  obtain ⟨hce, hevt⟩ := hcorr k hk
  exact ⟨hce.congr rfl (keeps _ (by simp [tanRegs])), (keeps _ (by simp [tanRegs])).trans hevt⟩

/-- A write of a register of the list that counts no delivery. -/
theorem TanOnly.put {l : List TanFly} {err : NetErr} {fs : List FRef} {s u : State} (h : TanOnly l err fs s u) {r : FRef} (hr : r ∈ fs)
    (hkey : ∀ g ∈ tanRegs, g.key ≠ r.key) (v : Nat) : TanOnly l err fs s (u.put r v) := by
  obtain ⟨hframe, hregs, hcount⟩ := h
  exact ⟨congrArg (State.put · r v) hframe, hregs.put r v (List.mem_append_right _ hr), hcount.put hkey v⟩

theorem TanOnly.mono {l : List TanFly} {err : NetErr} {fs fs' : List FRef} {s u : State} (h : TanOnly l err fs s u)
    (hfs : ∀ f ∈ fs, f ∈ fs') : TanOnly l err fs' s u :=
  have ⟨hframe, hregs, hcount⟩ := h
  ⟨hframe, hregs.mono fun f hf => List.mem_append.2 ((List.mem_append.1 hf).imp_right (hfs f)), hcount⟩

/-- An object is read from the store of the objects alone. -/
theorem State.obj_congr {s u : State} (h : u.objs = s.objs) (i : Nat) : u.obj i = s.obj i := by simp [State.obj, h]

theorem TanOnly.obj_eq {l : List TanFly} {err : NetErr} {fs : List FRef} {s u : State} (h : TanOnly l err fs s u) (i : Nat) :
    u.obj i = s.obj i := State.obj_congr (by rw [h.1]) i

/-- A message without an uncorrectable error goes on, and leaves the counts of its delivery (R218, R220). -/
theorem State.tanErr_sound {err : NetErr} (herr : Sound err) (s : State) (e : Option TanFly) (at_ : TStop) :
    (s.tanErr e at_ err).2 = true ∧ TanOnly s.tan err [] s ((s.tanErr e at_ err).1.bump R.TAN_MSG_CNT) := by
  have hregs : RegsBut (tanRegs ++ []) s s := RegsBut.refl _ s
  cases err with
  | none => exact ⟨rfl, rfl, hregs.bump _ _ (by simp [tanRegs]), s.counted_bump _ _, fun h hh => nomatch hh⟩
  | corrected h =>
    obtain ⟨hcnt, hevt⟩ := s.bumpEvt_counts (c := R.TAN_CE_CNT) (e := R.NET_EVT_TAN_CE) (by decide) (by decide)
    have hkept : (s.bumpEvt R.TAN_CE_CNT R.NET_EVT_TAN_CE).get R.TAN_MSG_CNT = s.get R.TAN_MSG_CNT :=
      (State.get_put_ne _ _ (by decide)).trans (State.get_put_ne _ _ (by decide))
    refine ⟨rfl, rfl, (hregs.bumpEvt _ _ ?_ ?_).bump _ _ ?_, (State.counted_bump _ _ _).congr hkept.symm rfl, fun _ _ => ⟨?_, ?_⟩⟩
    · simp [tanRegs]
    · simp [tanRegs]
    · simp [tanRegs]
    · exact hcnt.congr rfl (State.get_put_ne _ _ (by decide))
    · exact (State.get_put_ne _ _ (by decide)).trans hevt
  | uncorrectable h => exact absurd rfl (herr h)

/-- A message with an uncorrectable error goes no further: it is counted and a fault event is raised (R218). -/
theorem State.tanErr_uncorrectable (s : State) (e : Option TanFly) (at_ : TStop) (h : Nat) :
    (s.tanErr e at_ (.uncorrectable h)).2 = false ∧ TanDropped s.tan s (s.tanErr e at_ (.uncorrectable h)).1 := by
  obtain ⟨hcnt, hevt⟩ := s.bumpEvt_counts (c := R.TAN_UE_CNT) (e := R.NET_EVT_TAN_UE) (by decide) (by decide)
  have hregs := (RegsBut.refl [R.TAN_UE_CNT, R.NET_EVT_TAN_UE] s).bumpEvt R.TAN_UE_CNT R.NET_EVT_TAN_UE (by simp) (by simp)
  have hnone (src : Nat) : PostedAll src clEVT [] s (s.bumpEvt R.TAN_UE_CNT R.NET_EVT_TAN_UE) :=
    ⟨(List.append_nil _).symm, (List.append_nil _).symm⟩
  exact ⟨rfl, hcnt, hevt, hregs, ⟨_, _, rfl, ((hnone _).post rfl (faultNode_fixed _ _ _) (by decide) _).posted⟩, rfl⟩

/-- A message whose turn has not come stays on its way (R215). -/
theorem State.tanArrive_waits {s : State} {o : Out} (h : s.tanTake o = none) (at_ : TStop) (err : NetErr) (k : State → State) :
    s.tanArrive o at_ err k = s := by
  unfold State.tanArrive
  rw [h]

/-- A message in its turn without an uncorrectable error is counted and handled (R215, R218, R220). -/
theorem State.tanArrive_sound {s : State} {o : Out} {l : List TanFly} {err : NetErr} (hturn : TanTurn o s l) (herr : Sound err)
    (at_ : TStop) (k : State → State) : ∃ v, TanOnly l err [] s v ∧ s.tanArrive o at_ err k = k v := by
  obtain ⟨e, he⟩ := hturn
  obtain ⟨hon, hv⟩ := State.tanErr_sound herr { s with tan := l } e at_
  refine ⟨_, hv, ?_⟩
  unfold State.tanArrive
  rw [he]
  exact if_pos hon

/-- A message in its turn with an uncorrectable error is dropped (R218). -/
theorem State.tanArrive_uncorrectable {s : State} {o : Out} {l : List TanFly} (hturn : TanTurn o s l) (h : Nat) (at_ : TStop)
    (k : State → State) : TanDropped l s (s.tanArrive o at_ (.uncorrectable h) k) := by
  obtain ⟨e, he⟩ := hturn
  obtain ⟨hon, hdrop⟩ := State.tanErr_uncorrectable { s with tan := l } e at_ h
  unfold State.tanArrive
  rw [he]
  dsimp only
  rw [if_neg (by simp [hon])]
  exact hdrop

end Sys2Proof.Machine
end

section
/-! PROOFS. An operation at its stop: dropped on a stale generation or a FREE object (R225), and O20. -/

namespace Sys2Proof.Machine

open Sys2Proof

theorem hIndex_eq (h : Handle) : hIndex h = h.toNat % 2 ^ 15 := by simp [hIndex, bits]

/-! ### The gate of the generation -/

theorem State.atObj_free {s : State} {h : Handle} (hm : (s.obj (hIndex h)).mode = 0) (k : State → State) :
    s.atObj h k = s.bumpEvt R.FREE_OP_CNT R.SYNC_EVT_FREE_OP := by
  unfold State.atObj
  rw [if_pos hm]

theorem State.atObj_stale {s : State} {h : Handle} (hm : (s.obj (hIndex h)).mode ≠ 0) (hg : (s.obj (hIndex h)).gen ≠ hGen h)
    (k : State → State) : s.atObj h k = s.bumpEvt R.STALE_SIG R.SYNC_EVT_STALE := by
  unfold State.atObj
  rw [if_neg hm, if_pos hg]

theorem State.atObj_live {s : State} {h : Handle} (hm : (s.obj (hIndex h)).mode ≠ 0) (hg : (s.obj (hIndex h)).gen = hGen h)
    (k : State → State) : s.atObj h k = k s := by
  unfold State.atObj
  rw [if_neg hm, if_neg (not_not.2 hg)]

/-! ### The four operations -/

/-- What an operation does before its object's generation is looked at: a WAIT or ACQUIRE is counted (R250). -/
def countsWait (wait : Bool) (s : State) : State := if wait = true then s.bump R.WAIT_CNT else s

section Exec
variable (h : Handle) (n : BitVec 32) (w : WaiterId) (full : Bool) (err : NetErr) (s : State)

theorem exec_stopSignal : exec (.stopSignal h n full err) s =
    .next (s.atStop h 0 n none full err fun v => (countsWait false v).atObj h fun v => v.objSignal (h.toNat % 2 ^ 15) n.toNat) := by
  rw [← hIndex_eq]; rfl

theorem exec_stopWait : exec (.stopWait h n w full err) s =
    .next (s.atStop h 1 n (some w) full err fun v => (countsWait true v).atObj h fun v => v.objWait (h.toNat % 2 ^ 15) ⟨w, false, n⟩) := by
  rw [← hIndex_eq]; rfl

theorem exec_stopAcquire : exec (.stopAcquire h n w full err) s =
    .next (s.atStop h 2 n (some w) full err fun v => (countsWait true v).atObj h fun v => v.objWait (h.toNat % 2 ^ 15) ⟨w, true, n⟩) := by
  rw [← hIndex_eq]; rfl

theorem exec_stopReset : exec (.stopReset h n full err) s =
    .next (s.atStop h 3 n none full err fun v => (countsWait false v).atObj h fun v => v.objReset (h.toNat % 2 ^ 15) n.toNat) := by
  rw [← hIndex_eq]; rfl
end Exec

/-- The four operations share their way to the object: the stop, the count of a WAIT or ACQUIRE, the gate of the generation. -/
theorem stopOps_exec {h : Handle} {n : BitVec 32} {w : WaiterId} {full : Bool} {err : NetErr} {c : Instr × Out}
    (hc : c ∈ stopOps h n w full err) :
    ∃ op w' wait k, c.2 = .sig h op n w' ∧
      ∀ s, exec c.1 s = .next (s.atStop h op n w' full err fun v => (countsWait wait v).atObj h k) := by
  simp only [stopOps, List.mem_cons, List.not_mem_nil, or_false] at hc
  rcases hc with rfl | rfl | rfl | rfl
  · exact ⟨_, _, _, _, rfl, exec_stopSignal h n full err⟩
  · exact ⟨_, _, _, _, rfl, exec_stopWait h n w full err⟩
  · exact ⟨_, _, _, _, rfl, exec_stopAcquire h n w full err⟩
  · exact ⟨_, _, _, _, rfl, exec_stopReset h n full err⟩

theorem TanOnly.countsWait {l : List TanFly} {err : NetErr} {s u : State} (h : TanOnly l err [] s u) (wait : Bool) :
    TanOnly l err [R.WAIT_CNT] s (countsWait wait u) := by
  have h' : TanOnly l err [R.WAIT_CNT] s u := h.mono (by simp)
  cases wait with
  | false => exact h'
  | true => exact h'.put (by simp) (by decide) _

/-- A message dropped at its stop with a count of its own: the counter, its event bit, and nothing else. -/
theorem TanOnly.dropped {l : List TanFly} {err : NetErr} {s u : State} (h : TanOnly l err [R.WAIT_CNT] s u) {c e : FRef}
    (hce : c.key ≠ e.key) (hw : 0 < e.w) (hc : ∀ g ∈ tanRegs ++ [R.WAIT_CNT], g.key ≠ c.key) (he : ∀ g ∈ tanRegs, g.key ≠ e.key) :
    Counted c 1 s (u.bumpEvt c e) ∧ (u.bumpEvt c e).get e = 1 ∧ TanOnly l err [c, e, R.WAIT_CNT] s (u.bumpEvt c e) := by
  obtain ⟨hcnt, hevt⟩ := u.bumpEvt_counts hce hw
  have ⟨_, hregs, _⟩ := h
  have hkept : u.get c = s.get c := hregs.get fun g hg => (hc g hg).symm
  have hl : TanOnly l err [c, e, R.WAIT_CNT] s u := h.mono (by simp)
  have hc' : ∀ g ∈ tanRegs, g.key ≠ c.key := fun g hg => hc g (List.mem_append_left _ hg)
  exact ⟨hcnt.congr hkept.symm rfl, hevt, (hl.put (by simp) hc' _).put (by simp) he _⟩

section Stop
variable (h : Handle) (op : Nat) (n : BitVec 32) (w : Option WaiterId) (err : NetErr) (wait : Bool) (k : State → State) {s : State}

/-- An operation without an uncorrectable error, in its turn, comes to the gate of the generation. -/
theorem State.atStop_sound {l : List TanFly} (hturn : TanTurn (.sig h op n w) s l) (herr : Sound err) :
    ∃ v, TanOnly l err [R.WAIT_CNT] s v ∧ s.atStop h op n w false err (fun v => (countsWait wait v).atObj h k) = v.atObj h k := by
  obtain ⟨v, hv, harrive⟩ := State.tanArrive_sound hturn herr (s.tanStop (stopNode h)) fun v => (countsWait wait v).atObj h k
  exact ⟨_, hv.countsWait wait, harrive⟩

/-- An operation whose turn has not come stays on its way, the buffer of its stop full or not (R215). -/
theorem State.atStop_waits (full : Bool) (hnone : s.tanTake (.sig h op n w) = none) : s.atStop h op n w full err k = s := by
  cases full with
  | false => exact State.tanArrive_waits hnone _ _ _
  | true => simp [State.atStop, hnone]

/-- An operation in its turn passes on round the ring from a stop whose buffer is full (R229). -/
theorem State.atStop_full (hturn : s.tanTake (.sig h op n w) ≠ none) :
    s.atStop h op n w true err k = s.bumpEvt R.RECIRC_CNT R.SYNC_EVT_RECIRC := by
  simp [State.atStop, hturn]

/-- An operation in its turn with an uncorrectable error is dropped on its way (R218). -/
theorem State.atStop_uncorrectable {l : List TanFly} (hturn : TanTurn (.sig h op n w) s l) (j : Nat) :
    TanDropped l s (s.atStop h op n w false (.uncorrectable j) k) :=
  State.tanArrive_uncorrectable hturn j _ k
end Stop

/-- Settles O20: the stop passes the operation on, leaves it on its way, drops it for its error, or the gate of the generation drops it. -/
theorem staleAndFreeOperationsAreDropped : Obligations.StaleAndFreeOperationsAreDropped := by
  refine fun s h n w err => ⟨fun c hc => ?_, fun c hc => ?_⟩
  · obtain ⟨op, w', wait, k, hsig, hexec⟩ := stopOps_exec hc
    rw [hsig]
    refine ⟨fun l hturn => ⟨fun herr hm hg => ?_, fun herr hm => ?_, ?_⟩, fun hnone => ?_⟩
    · obtain ⟨v, hv, hstop⟩ := State.atStop_sound h op n w' err wait k hturn herr
      rw [← hIndex_eq, ← hv.obj_eq] at hm hg
      rw [State.atObj_stale hm hg] at hstop
      exact ⟨_, (hexec s).trans (congrArg _ hstop), hv.dropped (by decide) (by decide) (by decide) (by decide)⟩
    · obtain ⟨v, hv, hstop⟩ := State.atStop_sound h op n w' err wait k hturn herr
      rw [← hIndex_eq, ← hv.obj_eq] at hm
      rw [State.atObj_free hm] at hstop
      exact ⟨_, (hexec s).trans (congrArg _ hstop), hv.dropped (by decide) (by decide) (by decide) (by decide)⟩
    · rintro j rfl
      exact ⟨_, hexec s, State.atStop_uncorrectable h op n w' _ hturn j⟩
    · rw [hexec, State.atStop_waits h op n w' err _ false hnone]
  · obtain ⟨op, w', wait, k, hsig, hexec⟩ := stopOps_exec hc
    rw [hsig]
    refine ⟨fun hturn => ⟨_, (hexec s).trans (congrArg _ (State.atStop_full h op n w' err _ hturn)), ?_⟩, fun hnone => ?_⟩
    · obtain ⟨hcnt, hevt⟩ := s.bumpEvt_counts (c := R.RECIRC_CNT) (e := R.SYNC_EVT_RECIRC) (by decide) (by decide)
      exact ⟨hcnt, hevt, rfl, (RegsBut.refl _ s).bumpEvt _ _ (by simp) (by simp)⟩
    · rw [hexec, State.atStop_waits h op n w' err _ true hnone]

end Sys2Proof.Machine
end

section
/-! PROOFS. What an operation makes of a live object: ObjDone through each update of the state, the rules of BARRIER mode (R228), and O21. -/

namespace Sys2Proof.Machine

open Sys2Proof

/-! ### ObjDone through the updates -/

section ObjDone
variable {i : Nat} {o : Obj} {q : List WaiterId} {l : List TanFly} {s u : State}

/-- The arrival of the operation has changed no object. -/
theorem ObjDone.of_tanOnly {err : NetErr} (h : TanOnly l err [R.WAIT_CNT] s u) (i : Nat) : ObjDone i (s.obj i) [] l s u := by
  have ⟨hframe, hregs, _⟩ := h
  refine ⟨h.obj_eq i, fun j _ => h.obj_eq j, ⟨?_, ?_⟩, hregs.mono fun f hf => ?_, ?_⟩
  · exact (congrArg State.out hframe).trans (List.append_nil _).symm
  · exact (congrArg State.tan hframe).trans (List.append_nil _).symm
  · exact List.mem_append.2 ((List.mem_append.1 hf).imp_right fun hf => by simp [List.mem_singleton.1 hf])
  · rw [hframe]

variable (h : ObjDone i o q l s u)
include h

theorem ObjDone.put {r : FRef} (hr : r ∈ [R.SIG_CNT, R.WAIT_CNT, R.SIG_OVF, R.SYNC_EVT_SIG_OVF]) (v : Nat) :
    ObjDone i o q l s (u.put r v) := by
  obtain ⟨hobj, hothers, hposted, hregs, hframe⟩ := h
  exact ⟨hobj, hothers, hposted, hregs.put r v (List.mem_append_right _ hr), congrArg (State.put · r v) hframe⟩

theorem ObjDone.bump {r : FRef} (hr : r ∈ [R.SIG_CNT, R.WAIT_CNT, R.SIG_OVF, R.SYNC_EVT_SIG_OVF]) (n : Nat) :
    ObjDone i o q l s (u.bump r n) := h.put hr _

theorem ObjDone.onObj (f : Obj → Obj) : ObjDone i (f o) q l s (u.onObj i f) := by
  obtain ⟨rfl, hothers, hposted, hregs, hframe⟩ := h
  exact ⟨State.obj_onObj_same u i f, fun j hj => (State.obj_onObj_ne u f hj).trans (hothers j hj), hposted, hregs,
    congrArg (State.onObj · i f) hframe⟩

/-- A RELEASE sent from the object's stop. -/
theorem ObjDone.release (w : WaiterId) : ObjDone i o (q ++ [w]) l s (u.post (objNode i) (waiterNode w) clSIG (.release w)) := by
  obtain ⟨hobj, hothers, hposted, hregs, hframe⟩ := h
  have hnow : u.now = s.now := by rw [hframe]
  have hsrc : 0x100 ≤ 0x140 + i / 1024 := (by decide : 0x100 ≤ 0x140).trans (Nat.le_add_right _ _)
  refine ⟨hobj, hothers, ?_, hregs, ?_⟩
  · rw [List.map_append]
    exact hposted.post hnow hsrc (waiterNode_fixed w) _
  · generalize u.objs = objs, u.regs = regs, u.out = out, u.tan = tan at hframe
    subst hframe
    rfl
omit h

/-- The RELEASE messages of a list of waiters, in order. -/
theorem ObjDone.releaseAll (r : List WaiterId) (h : ObjDone i o q l s u) : ObjDone i o (q ++ r) l s (u.releaseAll i r) := by
  induction r generalizing q u with
  | nil => rwa [List.append_nil]
  | cons w r ih =>
    rw [List.append_cons]
    exact ih (h.release w)

end ObjDone

/-! ### BARRIER mode -/

section Barrier
variable {i : Nat} {o : Obj} {l : List TanFly} {s u : State} (h : ObjDone i o [] l s u) (hm : o.mode = 2)
include h hm

/-- A SIGNAL adds to the counter of a barrier, saturating; at the target every waiter is released (R228). -/
theorem ObjDone.objSignal_barrier (n : Nat) :
    (o.target ≤ satAdd o.counter n →
      ObjDone i { o with counter := satAdd o.counter n - o.target, q := [] } (o.q.map (·.who)) l s (u.objSignal i n)) ∧
    (satAdd o.counter n < o.target → ObjDone i { o with counter := satAdd o.counter n } [] l s (u.objSignal i n)) := by
  have hobj : u.obj i = o := h.1
  have hovf : ObjDone i o [] l s (if 2 ^ 32 ≤ o.counter + n then u.bumpEvt R.SIG_OVF R.SYNC_EVT_SIG_OVF else u) := by
    split_ifs
    · exact (h.bump (by simp) 1).put (by simp) 1
    · exact h
  have hadd := (hovf.bump (r := R.SIG_CNT) (by simp) 1).onObj fun x => { x with counter := satAdd o.counter n }
  unfold State.objSignal
  simp only [hobj]
  rw [if_pos hm]
  refine ⟨fun hreach => ?_, fun hbelow => ?_⟩
  · rw [if_pos hreach]
    exact (hadd.onObj _).releaseAll _
  · rw [if_neg (Nat.not_le.2 hbelow)]
    exact hadd

/-- A RESET clears the counter of a barrier and sets its target, at least 1. -/
theorem ObjDone.objReset_barrier (n : Nat) : ObjDone i { o with counter := 0, target := max n 1 } [] l s (u.objReset i n) := by
  have hcnt := h.bump (r := R.SIG_CNT) (by simp) 1
  unfold State.objReset
  dsimp only
  rw [if_pos ((congrArg Obj.mode hcnt.1).trans hm)]
  exact hcnt.onObj _

/-- A WAIT or ACQUIRE enters the queue of a barrier whatever its threshold, while fewer than 64 wait (R228, R230). -/
theorem ObjDone.objWait_barrier (w : Waiter) (hroom : o.q.length < 64) :
    ObjDone i { o with q := o.q ++ [w] } [] l s (u.objWait i w) := by
  have hobj : u.obj i = o := h.1
  unfold State.objWait State.objQueue
  simp only [hobj]
  rw [if_pos hm, if_neg (Nat.not_le.2 hroom)]
  exact h.onObj _

end Barrier

/-! ### Operations that reach a live object -/

/-- An operation without an uncorrectable error comes in its turn to a live object, and does there what `k` does. -/
theorem Leads.of_stopOp {c : Instr} {P : State → Prop} {s : State} {h : Handle} {op mode : Nat} {n : BitVec 32} {w : Option WaiterId}
    {err : NetErr} {l : List TanFly} {wait : Bool} {k : State → State} (hlive : ObjLive s h mode) (hmode : mode ≠ 0) (herr : Sound err)
    (hturn : TanTurn (.sig h op n w) s l)
    (hexec : exec c s = .next (s.atStop h op n w false err fun v => (countsWait wait v).atObj h k))
    (hk : ∀ v, ObjDone (h.toNat % 2 ^ 15) (s.obj (h.toNat % 2 ^ 15)) [] l s v → P (k v)) : Leads c s P := by
  obtain ⟨v, hv, hstop⟩ := State.atStop_sound h op n w err wait k hturn herr
  obtain ⟨hm, hg⟩ := hlive
  rw [← hIndex_eq, ← hv.obj_eq] at hm hg
  rw [State.atObj_live (by rwa [hm]) hg] at hstop
  exact ⟨_, hexec.trans (congrArg _ hstop), hk v (.of_tanOnly hv _)⟩

/-- Settles O21: each operation reaches the live barrier, and does there what its own lemma says. -/
theorem barriersReleaseTogether : Obligations.BarriersReleaseTogether := by
  intro s h n err l hlive herr
  have hmode : (2 : Nat) ≠ 0 := by decide
  refine ⟨fun hturn => ⟨fun hreach => ?_, fun hbelow => ?_⟩, fun w hroom => ⟨fun hturn => ?_, fun hturn => ?_⟩, fun hturn => ?_⟩
  · exact .of_stopOp hlive hmode herr hturn (exec_stopSignal ..) fun v hv => (hv.objSignal_barrier hlive.1 n.toNat).1 hreach
  · exact .of_stopOp hlive hmode herr hturn (exec_stopSignal ..) fun v hv => (hv.objSignal_barrier hlive.1 n.toNat).2 hbelow
  · exact .of_stopOp hlive hmode herr hturn (exec_stopWait ..) fun v hv => hv.objWait_barrier hlive.1 _ hroom
  · exact .of_stopOp hlive hmode herr hturn (exec_stopAcquire ..) fun v hv => hv.objWait_barrier hlive.1 _ hroom
  · exact .of_stopOp hlive hmode herr hturn (exec_stopReset ..) fun v hv => hv.objReset_barrier hlive.1 n.toNat

end Sys2Proof.Machine
end
